-- ==== Sys2Proof/Word.lean ====
section
/-! DEFINITION. The words of the model: bytes, register words, and the little-endian layout of multi-byte fields
(R9: little-endian unless a description states otherwise; R8: bit 0 is the least significant). -/

namespace Sys2Proof

/-- A byte of a packet, a buffer or a memory. -/
abbrev Byte := BitVec 8

/-- A register word (R290: registers are read and written as 32-bit words). -/
abbrev Word := BitVec 32

/-- The byte that holds the low eight bits of a number. -/
def byte (n : Nat) : Byte := BitVec.ofNat 8 n

/-- The `k` bytes of a number, least significant first (R9). -/
def le : Nat → Nat → List Byte
  | 0, _ => []
  | k + 1, n => byte n :: le k (n / 256)

/-- The number that bytes spell, least significant first (R9). -/
def ofLe : List Byte → Nat
  | [] => 0
  | b :: bs => b.toNat + 256 * ofLe bs

/-- The number in `size` bytes at `off` of a byte list; bytes past the end count as zero. -/
def leAt (bs : List Byte) (off size : Nat) : Nat := ofLe ((bs.drop off).take size)

/-- Bits `[lo + width - 1 : lo]` of a number (R8). -/
def bits (n lo width : Nat) : Nat := n / 2 ^ lo % 2 ^ width

/-- Bit `i` of a number, as a truth value. -/
def bit (n i : Nat) : Bool := n.testBit i

/-- A truth value as a one-bit number. -/
def b2n (b : Bool) : Nat := if b then 1 else 0

/-- A two's complement number of `width` bits read as an integer. -/
def toSigned (width n : Nat) : Int := if n % 2 ^ width < 2 ^ (width - 1) then (n % 2 ^ width : Int) else (n % 2 ^ width : Int) - (2 ^ width : Int)

/-- An integer as the two's complement number of `width` bits. -/
def ofSigned (width : Nat) (z : Int) : Nat := (z % (2 ^ width : Int)).toNat

end Sys2Proof
end

