-- ==== Sys2Proof/Syntax.lean ====
section
/-! DEFINITION. The commands of the block: Instr. -/

namespace Sys2Proof

/-- One Emgor request as the CP takes it from a command-in ring (Table 9-1): the ring, SEQ, the REPLY flag, TARGET,
the parameter bytes after assembly of fragments, and the base cycles that pass before it is taken. -/
structure Req where
  ring : Nat
  seq : Nat
  reply : Bool
  target : Nat
  params : List Byte
  wait : Nat
deriving DecidableEq, Repr

/-- What the open probe measures at a site of its row in one phase (Table 5-4): column, phase (0 A, 1 B, 2 C), capacitance
in percent of nominal, leakage at 2.0 V reverse in 0.1 µA. -/
structure Probe where
  col : Nat
  phase : Nat
  cap : Nat
  leak : Nat
deriving DecidableEq, Repr

/-- A report as a detector makes it (R408): source ID, ADDRESS, master and access type of Table 13-1. -/
structure FaultIn where
  source : Nat
  addr : Nat
  master : Nat
  access : Nat
deriving DecidableEq, Repr

/-- How a check scan stops before its last byte (R539): a bus error or an uncorrectable error, at an address. -/
inductive ScanStop where
  | bus (addr : Nat)
  | uncorr (addr : Nat)
deriving DecidableEq, Repr

/-- The commands of the block, one constructor per row of the command table, in its order. An operand is what the sender
gives: an Emgor request (r), a word or a message that arrives, or what the outside world does at that event. -/
inductive Instr where
  /-- POWER_UP (R41): VAUX rises above its reset level; PD0 and PD12 leave reset and the Kiln Shutter oscillator starts. -/
  | powerUp (mv : Nat)
  /-- CONTROLLER_RESET_RELEASE (R12): The controller leaves reset once VCORE and VANA are good, and the resident loader starts. -/
  | controllerResetRelease (bootMode : Bool) (role : Nat) (testEn refclk : Bool) (vcore vana : Nat)
  /-- RESET_N_LOW (R567): A low level on RESET_N resets the controller die and the backplane digital logic. -/
  | resetNLow (duration : Nat)
  /-- SUPPLY_WARNING (R455): A supply monitor crosses its warning level; SUPPLY_WARN is set and a POWER event is sent. -/
  | supplyWarning (supply mv : Nat)
  /-- SUPPLY_WARNING_CLEAR (R455): A supply warning clears after the supply has stayed above its warning band for 1 ms. -/
  | supplyWarningClear (supply mv : Nat)
  /-- SUPPLY_MONITOR_RESET (R455): A supply falls into its reset band and resets its domains, keeping and losing state as in Table 14-8. -/
  | supplyMonitorReset (supply mv : Nat)
  /-- VAUX_LOSS (R563): VAUX falls; the Kiln Shutter resets and every string goes off, and the elapsed-time counter restarts. -/
  | vauxLoss
  /-- KS_NVM_CHECK (R42): The Kiln Shutter reads and checks its configuration NVM and arms the limp plane. -/
  | ksNvmCheck (biasOk : Bool)
  /-- LOADER_IMAGE_CHECK (R512): The resident loader checks the image state words and the digests of the MP, SP and CP images. -/
  | loaderImageCheck
  /-- IMAGE_BOOT (R520): A core is started from its NVM image; a FIRED image has its ATTEMPTS counted. -/
  | imageBoot (core : Nat) (convertible : Bool)
  /-- STARTUP_LBIST (R501): Start-up LBIST runs the five units in order, saving and restoring the KS state. -/
  | startupLbist
  /-- LBIST_UNIT_COMPLETE (R495): An LBIST unit ends, and its pattern count and signature are judged. -/
  | lbistUnitComplete (patterns signature : Nat) (restored : Bool)
  /-- SP_COVERAGE_TEST (R378): The SP runs its start-up coverage test with injected check bits before its first heartbeat. -/
  | spCoverageTest (pass : Bool)
  /-- STARTUP_ABIST (R503): At start the MP decides whether ABIST is reused or skipped, and runs it otherwise. -/
  | startupAbist (readable : Bool)
  /-- ABIST_ITEM_COMPLETE (R488): An ABIST item ends with its result. -/
  | abistItemComplete (readings : List (Nat × Nat)) (vstr : Nat)
  /-- ABIST_ITEM_TIMEOUT (R488): An ABIST item still running at twice its bound is stopped as INCOMPLETE. -/
  | abistItemTimeout
  /-- STARTUP_READY (R42): The CP boots, calibration, defect state and settings are loaded, and the first boundary with scan-out running gives READY. -/
  | startupReady (lost : List Nat) (readable : Bool)
  /-- CLOCK_COMPARE_WINDOW (R34): At the end of each 1 ms window the SP compares SAFE_CLK with MGMT_CLK. -/
  | clockCompareWindow (diff : Nat)
  /-- FORWARDED_CLOCK_STOP (R35): The forwarded link clock stops, and PLL_MAIN switches back to REFCLK_IN without a glitch. -/
  | forwardedClockStop
  /-- XTAL_STOP (R461): The 32.768 kHz crystal stops, and the elapsed-time counter continues on the RC oscillator. -/
  | xtalStop (gap : Nat)
  /-- XTAL_RETURN (R461): After 1,024 good crystal cycles the counter returns to the crystal. -/
  | xtalReturn
  /-- LIGHT_FRAME_BOUNDARY (R55): At boundary Bk+1 the backplane swaps or copies back, SCN_FRAME_COUNT increments and the ramp restarts. -/
  | lightFrameBoundary
  /-- DRIVE_CONVERSION (R82): The converter turns the calibrated targets of each string into one class and eight PWM values. -/
  | driveConversion
  /-- ROW_PACED_LOAD (R52): Scan-out starts the paced load of a row when its row slot opens. -/
  | rowPacedLoad (level : Nat)
  /-- ROW_TRANSFER_RECEIVED (R53): The backplane commits a row from its staging register to the shadow latches if all 102 transfers arrived good in time. -/
  | rowTransferReceived (transfers : Nat) (parity : Bool)
  /-- ROW_DEADLINE (R61): A row not committed by the end of its row slot becomes a row repeat. -/
  | rowDeadline
  /-- LATE_RELOAD (R54): Rows already loaded are reloaded with content that has landed for the next boundary. -/
  | lateReload (transfers : Nat) (parity : Bool)
  /-- SLOT_START (R71): The sensing/swap slot begins; all shunts close and the regulators stop. -/
  | slotStart
  /-- SIGNATURE_COMPUTE (R69): At Sk + 200 scan-out computes and publishes the content and witness signatures. -/
  | signatureCompute (arrives : Bool)
  /-- SP_LIMIT_CHECK (R372): At Sk + 400 the SP compares box maxima and guarded row currents with their limits. -/
  | spLimitCheck
  /-- SP_OUTPUT_CHECK (R374): At Sk + 600 the SP recomputes the signatures and a group of row checks. -/
  | spOutputCheck (row : Option Nat)
  /-- SWAP_DECISION (R55): At Sk + 4,200 the backplane decides between swap and skip for the next boundary. -/
  | swapDecision
  /-- COMPLIANCE_FLAG (R80): A conducting regulator's voltage falls below 0.40 V for 1 µs and sets its compliance flag. -/
  | complianceFlag (string mv : Nat)
  /-- OPEN_CLAMP (R76): The voltage across an open shunt exceeds 5.0 V and the hard-wired clamp closes it. -/
  | openClamp (site mv : Nat)
  /-- FWD_LIT_SAMPLE (R133): Forward diagnosis samples a site at the end of the fourth tick of its pulse. -/
  | fwdLitSample (site mv : Nat) (void : Bool)
  /-- FWD_DARK_SAMPLE (R133): Forward diagnosis samples a site held dark for four ticks while its string conducts. -/
  | fwdDarkSample (site mv : Nat) (void : Bool)
  /-- OPEN_PROBE_ROW (R139): In an even slot the open probe tests one row in phases A, B and C. -/
  | openProbeRow (readings : List Probe)
  /-- REVERSE_SENSING_READING (R151): In an odd slot the bin photocurrents are integrated and the sensing maps updated. -/
  | reverseSensingReading (lux : List Nat)
  /-- PRESENCE_HOLD_EXPIRY (R154): A presence flag clears PRESENCE_HOLD seconds after the last changing bin. -/
  | presenceHoldExpiry (zone : Nat)
  /-- LIMP_RAMP_STEP (R97): A lit limp-plane string rises by one class every 50 µs to the commanded class. -/
  | limpRampStep
  /-- HEARTBEAT_TOGGLE (R362): The SP toggles HEARTBEAT and the Kiln Shutter judges the interval. -/
  | heartbeatToggle (interval : Nat)
  /-- HEARTBEAT_TIMEOUT (R362): PERMIT stays high with no heartbeat toggle for 2.7 ms, which is a lock-out cause. -/
  | heartbeatTimeout
  /-- LOCKOUT_RECORD_WRITE (R387): The lock-out record is written to always-on memory, the Kiln Shutter's NVM and NVM. -/
  | lockoutRecordWrite (copy : Nat)
  /-- PERMIT_RISE (R358): The SP raises PERMIT when all its conditions hold. -/
  | permitRise
  /-- PERMIT_FALL (R358): The SP drops PERMIT, and the Kiln Shutter stops allowing programmable light. -/
  | permitFall
  /-- COVERING_TIMEOUT (R360): Covering ends 10 s after PERMIT has risen again. -/
  | coveringTimeout
  /-- DUAL_INPUT_CHANGE (R380): A channel sees a changed level on a dual-channel input pair. -/
  | dualInputChange (channel pair : Nat) (a b : Bool) (held : Nat)
  /-- DISCREPANCY_TIMEOUT (R381): A pair stays in disagreement beyond its discrepancy band, which is a lock-out cause. -/
  | discrepancyTimeout (channel pair : Nat)
  /-- CUTOFF_LIMITER_UPDATE (R371): The SP sets or clears the cut-off limiter word after a change of HPERM or CUTOFF_EN. -/
  | cutoffLimiterUpdate
  /-- CUTOFF_GUARD_ARM (R363): The cut-off guard arms 80,000 oscillator cycles after HPERM is accepted as not permitted. -/
  | cutoffGuardArm
  /-- CUTOFF_WINDOW_END (R364): A guarded row's current window closes and its mean is judged against the limit. -/
  | cutoffWindowEnd (row mean : Nat)
  /-- TEMP_HIGH_TRIP (R366): An emitter temperature comparator trips TEMP_HIGH, a lock-out cause. -/
  | tempHighTrip (comparator theta : Nat)
  /-- TEMP_HIGH_RELEASE (R366): TEMP_HIGH releases and the limp plane returns to LIMP_CLASS. -/
  | tempHighRelease (comparator theta : Nat)
  /-- TEMP_CUT_TRIP (R366): A comparator trips TEMP_CUT and every string goes off. -/
  | tempCutTrip (comparator theta : Nat)
  /-- TEMP_CUT_RELEASE (R366): TEMP_CUT releases and the limp plane lights again at REDUCED_CLASS. -/
  | tempCutRelease (comparator theta : Nat)
  /-- VSTR_OVERVOLTAGE_TRIP (R367): VSTR above 36.0 V for 5 µs turns every string off and is a lock-out cause. -/
  | vstrOvervoltageTrip (mv held : Nat)
  /-- VSTR_OVERVOLTAGE_RELEASE (R367): Strings may run again after VSTR has been below 33.0 V for 10 ms. -/
  | vstrOvervoltageRelease (mv : Nat)
  /-- COMMISSION_WRITES_DONE (R395): The commissioning writes end, and the SAFETY event reports COMMISSIONED or COMMISSION_FAILED. -/
  | commissionWritesDone (ok : Bool)
  /-- COMMISSION_STAGE_EXPIRY (R401): A staged commissioning block is discarded 60 s after its LOAD. -/
  | commissionStageExpiry
  /-- WATCH_T1_EXPIRY (R186): Object-list timer T1 expires; WATCH becomes GROWING and margins start to grow. -/
  | watchT1Expiry
  /-- WATCH_T2_EXPIRY (R187): Object-list timer T2 expires and the stale-list fallback begins. -/
  | watchT2Expiry
  /-- STALE_LOAD_TIMEOUT (R188): The stale-list pattern is not resident within 20 ms; light fades to dark and limp-home is requested. -/
  | staleLoadTimeout
  /-- OBJECT_LIST_TIMEOUT (R182): An incomplete object list is discarded 21 ms after its first part. -/
  | objectListTimeout
  /-- PATTERN_LOAD_COMPLETE (R164): A pattern finishes loading into a base buffer and its selection commits. -/
  | patternLoadComplete (readable : Bool)
  /-- CROSSFADE_COMPLETE (R166): A running crossfade completes and a queued selection starts. -/
  | crossfadeComplete
  /-- FADE_COMPLETE (R178): A context's fade completes; a releasing context becomes FREE. -/
  | fadeComplete (ctx : Nat)
  /-- SYMBOL_LOAD_COMPLETE (R199): A named symbol becomes resident and the waiting commit is made. -/
  | symbolLoadComplete (readable : Bool)
  /-- BISQUE_BUILD_COMPLETE (R207): A bisque build completes and the CP commits the staged changes with the new bisque copy. -/
  | bisqueBuildComplete
  /-- FLIP_COPY_COMPLETE (R203): The new front copy of a layer has been copied to its back copy and the flip is no longer pending. -/
  | flipCopyComplete (layer : Nat)
  /-- INSTALL_TIMEOUT (R217): An installation with no DATA or END for 10 s is abandoned and its sectors freed. -/
  | installTimeout
  /-- LINK_CLOCK_DETECT (R243): The clock lane has run at the Gen1 rate for 100 µs and the link goes to ALIGN. -/
  | linkClockDetect
  /-- LINK_CLOCK_LOSS (R243): The clock lane shows no edge for 1.0 µs and the link returns to DOWN. -/
  | linkClockLoss (gap : Nat)
  /-- LANE_LOCK (R251): A lane locks on commas, block headers or codewords. -/
  | laneLock (lane good codewords : Nat)
  /-- LANE_LOCK_LOSS (R251): A used lane loses lock and the link goes to REALIGN. -/
  | laneLockLoss (lane errors corrected uncorr : Nat)
  /-- ALIGN_TIMEOUT (R243): No comma lock within 2 ms returns the link to DOWN. -/
  | alignTimeout
  /-- BC_REPLY (R241): A back-channel reply is received and checked. -/
  | bcReply (message : List Byte) (trip : Nat)
  /-- BC_REPLY_TIMEOUT (R242): A back-channel reply has not begun within 20 µs; the request is repeated, or after three a failure is declared. -/
  | bcReplyTimeout
  /-- CAPS_RETRY (R242): After a back-channel failure CAPS_REQ is repeated every 1 s. -/
  | capsRetry
  /-- LINK_POLL (R242): While the link is UP the light engine sends POLL every 10 ms. -/
  | linkPoll
  /-- TRAIN_COMPLETE (R246): Every used lane is locked with a figure of merit of 96 or more for 10 samples, and the link goes UP. -/
  | trainComplete
  /-- TRAIN_TIMEOUT (R247): Training fails within its 20 ms; lanes are mapped out or the generation steps back. -/
  | trainTimeout
  /-- FOM_SAMPLE (R246): The figure of merit of each lane is sampled every 100 µs. -/
  | fomSample (eyes : List (Nat × Nat))
  /-- REALIGN_TIMEOUT (R243): REALIGN fails to reach UP within 5 ms and the link steps down or goes DOWN. -/
  | realignTimeout
  /-- FRAME_HEADER_RX (R233): A FRAME_START and frame header are received. -/
  | frameHeaderRx (h : List Byte) (lane : Nat)
  /-- ROW_PACKET_RX (R233): A row packet is received and checked. -/
  | rowPacketRx (p : List Byte) (lane : Nat)
  /-- FRAME_TRAILER_RX (R236): A frame trailer is received and the frame completes or is discarded. -/
  | frameTrailerRx (p : List Byte) (lane : Nat)
  /-- GAP_TIMEOUT (R253): A link UP for GAP_MS with no frame accepted declares input loss. -/
  | gapTimeout
  /-- HOLD_TIMEOUT (R254): The hold timer expires; the input state becomes FALLEN and the base may fall back. -/
  | holdTimeout
  /-- LOCK_FRAME_TIMEOUT (R50): No input frame completes within 2 × V and locked mode falls back to ACQUIRING. -/
  | lockFrameTimeout
  /-- HELLO_SEND (R327): A follower sends HELLO when its input hop enters UP and every 1 s until admitted. -/
  | helloSend
  /-- HELLO_RX (R328): The master admits or refuses the follower named in a HELLO. -/
  | helloRx (m : List Byte)
  /-- STATE_SEND (R327): A follower sends its STATE entries every 2 ms and on every change. -/
  | stateSend
  /-- STATE_RX (R327): A STATE message is received and relayed or recorded. -/
  | stateRx (m : List Byte)
  /-- FOLLOWER_STATUS_TIMEOUT (R349): No valid STATE from a follower for 25 ms makes it unknown and withdraws its admission. -/
  | followerStatusTimeout (pos : Nat)
  /-- MARK_SEND (R333): The master sends a marker 30 µs to 40 µs before each boundary. -/
  | markSend
  /-- MARK_RX (R333): A follower places its boundary from a received marker and forwards it. -/
  | markRx (r : List Byte) (h : Nat)
  /-- MARKER_MISSING (R336): No valid marker by the expected boundary; the frame runs with the last T and F. -/
  | markerMissing
  /-- TAKE_SEND (R339): The master sends a TAKE record at B − 0.95 ms. -/
  | takeSend
  /-- TAKE_RX (R339): A module takes up the named frame for the boundary, or repeats. -/
  | takeRx (r : List Byte)
  /-- CLONE_FRAME_SEND (R342): The master sends each composition as a CLONE frame for the following boundary. -/
  | cloneFrameSend
  /-- CASCADE_CMD_RX (R345): A CMD block is received and executed or forwarded. -/
  | cascadeCmdRx (block : List Byte)
  /-- UP_PACKET_RX (R346): A reply or event from a follower is reassembled, checked, resealed and placed. -/
  | upPacketRx (m : List Byte)
  /-- SPI_WRITE_TRANSACTION (R298): A native SPI write transaction ends and its packet enters ring 0. -/
  | spiWriteTransaction (bytes : List Byte) (low : Nat)
  /-- SPI_READ_TRANSACTION (R299): An SPI read shifts out LEN and the head packet of ring 8. -/
  | spiReadTransaction (address clocked : Nat)
  /-- CAN_FRAME_RX (R302): A CAN FD frame on the receive identifier is taken as a packet segment. -/
  | canFrameRx (ident : Nat) (ide fd : Bool) (dlc : Nat) (data : List Byte)
  /-- CAN_ASSEMBLY_TIMEOUT (R304): A CAN packet assembly with no segment for 55 ms is abandoned. -/
  | canAssemblyTimeout
  /-- CAN_SEGMENT_SENT (R305): A CAN segment has been sent and the next one enters arbitration. -/
  | canSegmentSent
  /-- CAN_BUSOFF (R305): The CAN controller goes bus-off. -/
  | canBusoff
  /-- CAN_BUSOFF_RECOVERY (R305): The CAN controller recovers from bus-off and resends the interrupted packet whole. -/
  | canBusoffRecovery
  /-- T1S_FRAME_RX (R306): A 10BASE-T1S frame to this address is received and its packet taken. -/
  | t1sFrameRx (dst src etherType : Nat) (tagged fcsGood : Bool) (payload : List Byte) (noise : Nat)
  /-- PLCA_STATUS_LOSS (R309): PLCA status is no longer OK and the node falls back to CSMA/CD. -/
  | plcaStatusLoss
  /-- PLCA_BEACON_RESUME (R309): Beacons resume and the node returns to PLCA. -/
  | plcaBeaconResume
  /-- DALI_FORWARD_FRAME (R311): A DALI-2 forward frame to the gear is received and handled as IEC 62386-102 defines. -/
  | daliForwardFrame (addr data : Nat)
  /-- DALI_GO_TO_SCENE (R313): GO TO SCENE sets the scene level and may place a pattern selection in ring 6. -/
  | daliGoToScene (scene : Nat)
  /-- DALI_ARC_POWER (R314): An arc power command starts a fade of the L7 LEVEL. -/
  | daliArcPower (level : Nat)
  /-- DALI_QUERY (R311): A DALI query is answered with a backward frame. -/
  | daliQuery (query : Nat)
  /-- DALI_SYSTEM_FAILURE (R315): A DALI bus held low for 550 ms sends the gear to its system-failure level. -/
  | daliSystemFailure (low : Nat)
  /-- LEGACY_WRITE_SEG (R320): Legacy WRITE_SEG writes converted segment levels into the SEGMENT layer's back copy. -/
  | legacyWriteSeg (first : Nat) (levels : List Nat)
  /-- LEGACY_UPDATE (R211): Legacy UPDATE completes a legacy update and commits a flip of L1. -/
  | legacyUpdate
  /-- LEGACY_WRITE_REG (R320): Legacy WRITE_REG writes one legacy register. -/
  | legacyWriteReg (reg value : Nat)
  /-- LEGACY_READ_REG (R320): Legacy READ_REG reads up to 16 legacy registers. -/
  | legacyReadReg (first count : Nat)
  /-- LEGACY_STATUS (R319): Legacy STATUS collects the result of the previous frame. -/
  | legacyStatus
  /-- PACKET_DISPATCH (R275): The CP takes the next packet from the command-in rings in turn, safety packets first. -/
  | packetDispatch
  /-- FRAGMENT_TIMEOUT (R278): A fragment assembly still incomplete 110 ms after its first fragment is abandoned. -/
  | fragmentTimeout (ring : Nat)
  /-- EVENTS_LOST_PLACE (R281): Once a reply ring has room, an EVENTS_LOST event is placed before any other event. -/
  | eventsLostPlace (ring : Nat)
  /-- SYS_IDENTIFY (R286): Replies with the variant, life-cycle, serial, node tag and versions. -/
  | sysIdentify (r : Req)
  /-- SYS_STATUS (R287): Replies with the power state, mode, safety, fault and time status. -/
  | sysStatus (r : Req)
  /-- SYS_RESET (R288): Resets the module or the command core 2 ms after the reply. -/
  | sysReset (r : Req)
  /-- REG_READ (R290): Reads up to 1,012 words within one address region. -/
  | regRead (r : Req)
  /-- REG_WRITE (R291): Writes registers that have no row of their own, all or nothing. -/
  | regWrite (r : Req)
  /-- SCN_TICK_WRITE (R46): A write of SCN_TICK.TICK is accepted in READY only and takes effect at the next boundary. -/
  | scnTickWrite (r : Req) (value : Nat)
  /-- DIAG_CTRL_WRITE (R147): A write of DIAG_CTRL is accepted only in MANUFACTURE and SERVICE. -/
  | diagCtrlWrite (r : Req) (value : Nat)
  /-- HST_REGISTER_WRITE (R321): A write of HST_ bus settings takes effect at once or after the reply on its own bus. -/
  | hstRegisterWrite (r : Req) (offset value : Nat)
  /-- LAYER_BUFFER_WRITE (R202): A write into the layer buffer area is accepted only within one back copy whose flip is not pending. -/
  | layerBufferWrite (r : Req) (offset : Nat) (words : List Nat)
  /-- CHK_GO (R538): The owner writes GO and the check unit starts a scan with its latched settings. -/
  | chkGo (unit_ poly : Nat) (foldEn compare : Bool) (start len fold expect : Nat) (abort : Bool)
  /-- CHK_ABORT (R540): The owner writes ABORT and the scan stops with ERROR ABORTED. -/
  | chkAbort (unit_ : Nat)
  /-- CHK_SCAN_DONE (R538): A check scan ends with its result, DONE and MATCH, or an error. -/
  | chkScanDone (unit_ : Nat) (corrected : List Nat) (stop : Option ScanStop)
  /-- CHK_CNT_CLEAR (R549): A write of a counter address to CHK_CNT_CLEAR sets that counter to zero. -/
  | chkCntClear (r : Req) (address : Nat)
  /-- PWR_MEAS_START (R457): A write of START begins a supply conversion. -/
  | pwrMeasStart (r : Req) (supply : Nat)
  /-- MEAS_DONE (R457): A supply conversion completes within 20 µs and its result is published. -/
  | measDone (mv : Nat)
  /-- SYS_LIFECYCLE (R289): A signed token moves the life-cycle state, written to OTP. -/
  | sysLifecycle (r : Req)
  /-- BEAM_SELECT_PATTERN (R164): Selects a base source and pattern with a fade, loading it if needed. -/
  | beamSelectPattern (r : Req)
  /-- BEAM_OBJECT_SET (R172): Sets one object context from a 32-byte entry, optionally committing. -/
  | beamObjectSet (r : Req)
  /-- BEAM_OBJECT_CLEAR (R179): Releases the masked or all contexts, with or without fade. -/
  | beamObjectClear (r : Req)
  /-- BEAM_OBJECT_LIST (R181): Accepts one part of an object list; the complete list commits. -/
  | beamObjectList (r : Req)
  /-- BEAM_FIELD_MAP (R190): Stages a field-map part, and with COMMIT on part 1 commits the map. -/
  | beamFieldMap (r : Req)
  /-- FADE_SET (R178): Changes the fade time, curve and level of a context that is not FREE. -/
  | fadeSet (r : Req)
  /-- LAYER_CONFIG (R221): Replaces one layer descriptor, staged when it touches the flattened run. -/
  | layerConfig (r : Req)
  /-- LAYER_ENABLE (R222): Sets the enable of all layers and requests flips. -/
  | layerEnable (r : Req)
  /-- SYMBOL_PLACE (R223): Sets a SYMBOL context at a pixel anchor. -/
  | symbolPlace (r : Req)
  /-- BISQUE_FLATTEN (R224): Sets the static layer set and starts a bisque build. -/
  | bisqueFlatten (r : Req)
  /-- LIBRARY_INSTALL_BEGIN (R225): Begins an installation of a pattern or symbol entry. -/
  | libraryInstallBegin (r : Req)
  /-- LIBRARY_INSTALL_DATA (R225): Writes the next chunk of the entry being installed. -/
  | libraryInstallData (r : Req)
  /-- LIBRARY_INSTALL_END (R217): Checks the installed entry and writes it into a new index copy. -/
  | libraryInstallEnd (r : Req)
  /-- LIBRARY_INSTALL_DELETE (R218): Deletes a library entry unless it is resident or named. -/
  | libraryInstallDelete (r : Req)
  /-- LIBRARY_INSTALL_ABORT (R225): Abandons the running installation. -/
  | libraryInstallAbort (r : Req)
  /-- STORE_READ (R226): Reads bytes from a container in external flash. -/
  | storeRead (r : Req)
  /-- STORE_WRITE (R226): Writes a checked chunk to a container of kind 3 to 6. -/
  | storeWrite (r : Req)
  /-- LINK_STATUS (R258): Replies with the link state, figures of merit, cable and partner. -/
  | linkStatus (r : Req)
  /-- LINK_TRAIN_RETRAIN (R259): Starts training at the current generation. -/
  | linkTrainRetrain (r : Req)
  /-- LINK_TRAIN_RESTART (R259): Clears lane map-outs and starts a full bring-up. -/
  | linkTrainRestart (r : Req)
  /-- LINK_TRAIN_STEP_DOWN (R259): Steps the link down one generation on command. -/
  | linkTrainStepDown (r : Req)
  /-- LINK_TRAIN_STEP_UP (R259): Steps the link up one generation on command within the ceiling. -/
  | linkTrainStepUp (r : Req)
  /-- LINK_POLICY (R260): Sets the link policy fields, each taking effect as stated. -/
  | linkPolicy (r : Req)
  /-- SAFETY_STATUS (R400): Replies with the safety, input, Kiln Shutter and lock-out status. -/
  | safetyStatus (r : Req)
  /-- COMMISSION_LOAD (R401): Stages a safety parameter block and replies with its check value. -/
  | commissionLoad (r : Req)
  /-- COMMISSION_CONFIRM (R402): Confirms the staged or stored block and starts the commissioning writes. -/
  | commissionConfirm (r : Req)
  /-- SAFETY_RESET_ARM (R403): Arms a lock-out reset and replies with a nonce. -/
  | safetyResetArm (r : Req)
  /-- SAFETY_RESET_CONFIRM (R404): Leaves lock-out when the window and all conditions of R390 are met. -/
  | safetyResetConfirm (r : Req)
  /-- FAULT_READ_FIRST (R428): Replies with the first-fault record. -/
  | faultReadFirst (r : Req)
  /-- FAULT_READ_HISTORY (R429): Replies with entries of the kiln log or the persistent log. -/
  | faultReadHistory (r : Req)
  /-- FAULT_CLEAR (R422): The MP clears uncleared faults that are not standing and their sticky bits. -/
  | faultClear (r : Req)
  /-- FAULT_INJECT (R431): Arms one checker to see inverted check bits for COUNT checks. -/
  | faultInject (r : Req)
  /-- FAULT_POLICY (R432): Sets FIRST_MIN, the event classes, HOLD and IRQ_EN. -/
  | faultPolicy (r : Req)
  /-- POWER_STATE (R464): Requests a power state, starting an entry or a transition. -/
  | powerState (r : Req)
  /-- ENTRY_QUIESCE_DONE (R437): Entry step 1 ends once the packets already executing complete, and the fade is committed. -/
  | entryQuiesceDone
  /-- ENTRY_FADE_DONE (R438): Step 2 ends once d = 0 is shown and no string has conducted for 12 ms. -/
  | entryFadeDone
  /-- SHUTDOWN_TEST_DONE (R502): The shutdown ABIST ends and its result is held for step 3. -/
  | shutdownTestDone
  /-- ENTRY_SAVE_DONE (R437): Step 3 ends once the pending NVM writes and the register image save are complete. -/
  | entrySaveDone
  /-- ENTRY_CHECK_DONE (R437): Step 4 ends once waiting commits have landed and the retention CRCs are computed. -/
  | entryCheckDone
  /-- ENTRY_SWITCH (R439): Step 5 switches the domains off in order once the reply rings are empty or 10 ms have passed. -/
  | entrySwitch
  /-- WAKE_CONFIG (R465): Sets the wake sources, their targets, SERVICE_IDLE and the alarm. -/
  | wakeConfig (r : Req)
  /-- TIME_GET (R466): Replies with the elapsed time, quality, epoch and error bound. -/
  | timeGet (r : Req)
  /-- TIME_SET (R467): Sets the time offset, uncertainty and possibly the epoch. -/
  | timeSet (r : Req)
  /-- SPI_WAKE_MATCH (R444): The clockless matcher sees WAKE_ADDR and starts a wake. -/
  | spiWakeMatch (first : Nat)
  /-- ALARM_FIRE (R444): The elapsed time reaches ALARM at a slow-clock tick; the alarm wakes the module or gives an event. -/
  | alarmFire
  /-- DALI_WAKE (R316): The start of a DALI frame wakes the module from STANDBY or SLEEP. -/
  | daliWake (addr data : Nat)
  /-- CASCADE_CLOCK_WAKE (R326): A clock returning on the PL_ clock lane wakes a follower. -/
  | cascadeClockWake
  /-- RETENTION_CHECK (R451): On wake from STANDBY each retained bank is checked against its CRC and voltage flag. -/
  | retentionCheck (crc vflag : Nat) (image : Bool) (cores : Nat) (readable : Bool)
  /-- BANK_REBUILD_DONE (R451): An invalid or unretained bank finishes its rebuild from its source. -/
  | bankRebuildDone (bank : Nat) (readable : Bool)
  /-- WAKE_TARGET_REACHED (R446): The wake reaches its target power state and WAKE_DONE is set. -/
  | wakeTargetReached (lost : List Nat) (readable : Bool)
  /-- SERVICE_IDLE_EXPIRY (R445): No packet for SERVICE_IDLE returns the module from SERVICE to the state it left. -/
  | serviceIdleExpiry
  /-- ONDEMAND_WAKE_DONE (R453): A domain or bank powered by an access comes up and the stalled access proceeds. -/
  | ondemandWakeDone (code : Nat)
  /-- ONDEMAND_WAKE_TIMEOUT (R453): An access stalled at 510 µs ends in a bus error and WAKE_TIMEOUT. -/
  | ondemandWakeTimeout (code addr master access stalled : Nat)
  /-- CAL_RUN (R129): Starts a calibration run over the selected tiles. -/
  | calRun (r : Req)
  /-- CAL_RUN_COMMIT (R123): The MP commits the recomputed tiles of a calibration at meeting place 3. -/
  | calRunCommit
  /-- CALIBRATION_COMPLETE (R127): The commit has landed and all blocks are written; CAL_COUNT and CAL_LAST update. -/
  | calibrationComplete
  /-- AUTO_CALIBRATION_START (R128): AUTO_INTERVAL hours of on-time start a calibration with AGEING and RESELECT. -/
  | autoCalibrationStart
  /-- DEFECT_FOLLOWUP_COMMIT (R116): Within 100 ms of a diagnosis notice the MP commits gains for the site's new state. -/
  | defectFollowupCommit
  /-- CAL_STATUS (R130): Replies with the calibration state, counts and limits. -/
  | calStatus (r : Req)
  /-- DEFECT_MAP_READ (R131): Reads the front defect state as a list or a row. -/
  | defectMapRead (r : Req)
  /-- AGEING_ACCUMULATE (R117): Every second the MP reads the tile accumulators and updates equivalent hours. -/
  | ageingAccumulate
  /-- ET_RECORD_WRITE (R117): Every hour of on-time the MP writes Et to the repair record. -/
  | etRecordWrite
  /-- TEMP_SWEEP (R471): The MP starts a sweep of all 20 temperature sensors. -/
  | tempSweep (codes : List Nat)
  /-- TILE_ESTIMATE (R473): The sweep results and tile junction estimates are published. -/
  | tileEstimate
  /-- THROTTLE_EVALUATION (R476): Every 200 ms the MP steps LIMIT down, up or holds it. -/
  | throttleEvaluation
  /-- BOOST_END (R478): A boost ends after BOOST_MS and BUDGET returns to 300. -/
  | boostEnd
  /-- STOP_FADE_COMPLETE (R479): The stop weight reaches 4,096 and the thermal state becomes STOPPED. -/
  | stopFadeComplete
  /-- THERMAL_STATUS (R484): Replies with the thermal state, limit, estimates and sensor codes. -/
  | thermalStatus (r : Req)
  /-- THERMAL_POLICY (R485): Sets the thermal thresholds and limits, and may request a boost. -/
  | thermalPolicy (r : Req)
  /-- BIST_RUN (R505): Starts an ABIST or LBIST run in READY. -/
  | bistRun (r : Req)
  /-- BIST_RESULT (R506): Replies with the result of the last ABIST, LBIST or shutdown test. -/
  | bistResult (r : Req)
  /-- UPDATE_BEGIN (R513): Checks an image header and prepares the image region. -/
  | updateBegin (r : Req)
  /-- UPDATE_PREPARE_DONE (R513): Archive, state word and region erase are done, and BEGIN_DONE is sent. -/
  | updatePrepareDone (written : Bool)
  /-- UPDATE_DATA (R515): Writes one checked image chunk to NVM. -/
  | updateData (r : Req)
  /-- UPDATE_VERIFY (R516): Starts the read-back check of the whole image. -/
  | updateVerify (r : Req)
  /-- UPDATE_VERIFY_DONE (R516): The image verifies and the state becomes VERIFIED, or the event reports FAILED. -/
  | updateVerifyDone
  /-- UPDATE_ACTIVATE (R518): Writes FIRED and restarts the target core from the new image. -/
  | updateActivate (r : Req)
  /-- UPDATE_CONFIRM (R522): Writes CONFIRMED and raises the OTP anti-rollback level. -/
  | updateConfirm (r : Req)
  /-- UPDATE_FALLBACK (R525): Starts restoring the archived image of the target core. -/
  | updateFallback (r : Req)
  /-- FALLBACK_COMPLETE (R525): The archive is copied and checked, CONFIRMED is written and the core restarts. -/
  | fallbackComplete
  /-- UPDATE_STATUS (R531): Replies with the session and per-core image states. -/
  | updateStatus (r : Req)
  /-- CONFIRM_WINDOW_EXPIRY (R521): The confirm window expires and EXPIRED is set. -/
  | confirmWindowExpiry (core : Nat)
  /-- ON_TIME_WRITE (R521): Every 60 s the MP writes the confirm-window ON_TIME. -/
  | onTimeWrite
  /-- CASCADE_STATUS (R352): Replies with the cascade status of the module named in TARGET. -/
  | cascadeStatus (r : Req)
  /-- CASCADE_MODE (R353): Sets the cascade mode, slice map and shares, landing with the next marker. -/
  | cascadeMode (r : Req)
  /-- SENSE_CONFIG (R157): Sets the sensing, zone and sensed-source dimming configuration. -/
  | senseConfig (r : Req)
  /-- SENSE_READ (R158): Replies with one row of a sensing map or the zone values from one reading. -/
  | senseRead (r : Req)
  /-- FAULT_REPORT (R408): The fault collector takes a report, logs it and raises, merges or shadows it. -/
  | faultReport (fs : List FaultIn)
  /-- REACTION_WINDOW_CLOSE (R415): A reaction's window closes as set out in Table 13-4. -/
  | reactionWindowClose (reaction item : Nat)
  /-- FAULT_N_PULSE_END (R421): A FAULT_N pulse in pulse mode ends and a waiting pulse may follow. -/
  | faultNPulseEnd
  /-- INJECT_TIMEOUT (R424): An armed checker with no check within 1 s is disarmed and INJECT_UNUSED raised. -/
  | injectTimeout
  /-- PERSISTENT_LOG_WRITE (R425): A raised or merged CONTAINED or FATAL fault is written to the persistent log. -/
  | persistentLogWrite
  /-- FAULT_LOG_EXPORT (R426): The MP exports new persistent records to the fault log export container. -/
  | faultLogExport
  /-- CROSSING_STALL (R546): A crossing waits beyond its stall limit; both sides reset and CROSSING_OVERRUN is raised. -/
  | crossingStall (crossing waited items : Nat)
  /-- CROSSING_RESET_DONE (R545): Both sides of a crossing have seen reset-done and the crossing restarts. -/
  | crossingResetDone (crossing items : Nat)
  /-- BC_REQUEST_RX (R323): The upstream module of a hop receives a back-channel request of Table 8-7 (CAPS_REQ, ECHO, TX_PRESET, GEN_CHANGE, POLL) from downstream, replies, and applies presets or generation changes within 100 µs. -/
  | bcRequestRx (m : List Byte)
  /-- T1S_FRAME_SENT (R308): A reply or event frame leaves on 10BASE-T1S and its packet leaves reply ring 10. -/
  | t1sFrameSent (collisions : Nat)
  /-- SYS_RESET_BEGIN (R288): The reset of scope MODULE or COMMAND_CORE begins 2 ms after the SYS_RESET reply entered its reply ring. -/
  | sysResetBegin
  /-- LEGACY_FRAME_INVALID (R318): A legacy frame with a bad CRC, an unknown CMD, a wrong length or an out-of-range ADDR or COUNT is discarded, counted in HST_LEGACY_ERR_COUNT and reported by the next STATUS. -/
  | legacyFrameInvalid (status : Nat)
  /-- DOMAIN_SWITCH_OFF (R453): The MP switches off again a domain or bank that an on-demand access powered, or one no longer in use. -/
  | domainSwitchOff (code : Nat)
deriving DecidableEq, Repr

end Sys2Proof
end

