-- ==== Sys2Proof/WellFormed.lean ====
section
/-! DEFINITION. Which commands can be sent at all: an Emgor request has the ranges of Table 9-1, and what arrives at a pad or
happens in the outside world has the width of the thing it is. The meanings are total on ill-formed commands too. -/

namespace Sys2Proof

/-- A number that fits a range. -/
def below (limit n : Nat) : Bool := decide (n < limit)

/-- A request as a command-in ring can carry it: rings 0 to 7 (Table 1-9), one byte of SEQ, four bits of TARGET, at most 4,056
parameter bytes (R277). -/
def Req.wf (r : Req) : Bool := below 8 r.ring && below 256 r.seq && below 16 r.target && decide (r.params.length ≤ 4056)

/-- A supply that a monitor watches: 1 VCORE, 2 VANA, 3 VAUX (R455). -/
def supplyOk (n : Nat) : Bool := decide (1 ≤ n ∧ n ≤ 3)

/-- A pixel site of the 2,048 by 512 array. -/
def siteOk (n : Nat) : Bool := below 1048576 n

/-- A position below the master: 1 to 3 (R322). -/
def followerOk (n : Nat) : Bool := decide (1 ≤ n ∧ n ≤ 3)

/-- A channel that sees the dual inputs: 1 the SP, 2 the Kiln Shutter (R379). -/
def channelOk (n : Nat) : Bool := decide (1 ≤ n ∧ n ≤ 2)

/-- A probe reading names a column and one of the phases A, B and C (Table 5-4). -/
def Probe.wf (p : Probe) : Bool := below 2048 p.col && below 3 p.phase

/-- A fault report: nine bits of source, an address, the master and access codes of Table 13-1. -/
def FaultIn.wf (f : FaultIn) : Bool := below 512 f.source && below (2 ^ 32) f.addr && below 16 f.master && below 8 f.access

/-- Whether a command can be sent. -/
def Instr.wf : Instr → Bool
  | .powerUp mv => below 65536 mv
  | .controllerResetRelease _ role _ _ vcore vana => below 4 role && below 65536 vcore && below 65536 vana
  | .resetNLow _ => true
  | .supplyWarning supply mv => supplyOk supply && below 65536 mv
  | .supplyWarningClear supply mv => supplyOk supply && below 65536 mv
  | .supplyMonitorReset supply mv => supplyOk supply && below 65536 mv
  | .vauxLoss => true
  | .ksNvmCheck _ => true
  | .loaderImageCheck => true
  | .imageBoot core _ => below 3 core
  | .startupLbist => true
  | .lbistUnitComplete _ signature _ => below (2 ^ 64) signature
  | .spCoverageTest _ => true
  | .startupAbist _ => true
  | .abistItemComplete _ vstr => below 65536 vstr
  | .abistItemTimeout => true
  | .startupReady lost _ => lost.all (below 65536)
  | .clockCompareWindow _ => true
  | .forwardedClockStop => true
  | .xtalStop _ => true
  | .xtalReturn => true
  | .lightFrameBoundary => true
  | .driveConversion => true
  | .rowPacedLoad level => below 17 level
  | .rowTransferReceived transfers _ => below 103 transfers
  | .rowDeadline => true
  | .lateReload transfers _ => below 103 transfers
  | .slotStart => true
  | .signatureCompute _ => true
  | .spLimitCheck => true
  | .spOutputCheck row => (match row with | none => true | some r => below 512 r)
  | .swapDecision => true
  | .complianceFlag string mv => below 131072 string && below 65536 mv
  | .openClamp site mv => siteOk site && below 65536 mv
  | .fwdLitSample site mv _ => siteOk site && below 65536 mv
  | .fwdDarkSample site mv _ => siteOk site && below 65536 mv
  | .openProbeRow readings => readings.all Probe.wf
  | .reverseSensingReading lux => lux.length == 16384
  | .presenceHoldExpiry zone => below 8 zone
  | .limpRampStep => true
  | .heartbeatToggle _ => true
  | .heartbeatTimeout => true
  | .lockoutRecordWrite copy => below 3 copy
  | .permitRise => true
  | .permitFall => true
  | .coveringTimeout => true
  | .dualInputChange channel pair _ _ _ => channelOk channel && below 2 pair
  | .discrepancyTimeout channel pair => channelOk channel && below 2 pair
  | .cutoffLimiterUpdate => true
  | .cutoffGuardArm => true
  | .cutoffWindowEnd row _ => below 512 row
  | .tempHighTrip comparator theta => below 8 comparator && below 4096 theta
  | .tempHighRelease comparator theta => below 8 comparator && below 4096 theta
  | .tempCutTrip comparator theta => below 8 comparator && below 4096 theta
  | .tempCutRelease comparator theta => below 8 comparator && below 4096 theta
  | .vstrOvervoltageTrip mv _ => below 65536 mv
  | .vstrOvervoltageRelease mv => below 65536 mv
  | .commissionWritesDone _ => true
  | .commissionStageExpiry => true
  | .watchT1Expiry => true
  | .watchT2Expiry => true
  | .staleLoadTimeout => true
  | .objectListTimeout => true
  | .patternLoadComplete _ => true
  | .crossfadeComplete => true
  | .fadeComplete ctx => below 256 ctx
  | .symbolLoadComplete _ => true
  | .bisqueBuildComplete => true
  | .flipCopyComplete layer => below 8 layer
  | .installTimeout => true
  | .linkClockDetect => true
  | .linkClockLoss _ => true
  | .laneLock lane _ _ => below 4 lane
  | .laneLockLoss lane errors _ _ => below 4 lane && decide (errors ≤ 256)
  | .alignTimeout => true
  | .bcReply _ _ => true
  | .bcReplyTimeout => true
  | .capsRetry => true
  | .linkPoll => true
  | .trainComplete => true
  | .trainTimeout => true
  | .fomSample eyes => decide (eyes.length ≤ 4) && eyes.all (fun e => below 256 e.1 && below 256 e.2)
  | .realignTimeout => true
  | .frameHeaderRx h _ => h.length == 32
  | .rowPacketRx _ _ => true
  | .frameTrailerRx _ _ => true
  | .gapTimeout => true
  | .holdTimeout => true
  | .lockFrameTimeout => true
  | .helloSend => true
  | .helloRx _ => true
  | .stateSend => true
  | .stateRx _ => true
  | .followerStatusTimeout pos => followerOk pos
  | .markSend => true
  | .markRx r _ => decide (0 < r.length)
  | .markerMissing => true
  | .takeSend => true
  | .takeRx r => r.length == 32
  | .cloneFrameSend => true
  | .cascadeCmdRx _ => true
  | .upPacketRx _ => true
  | .spiWriteTransaction bytes _ => decide (0 < bytes.length)
  | .spiReadTransaction address _ => below 256 address
  | .canFrameRx ident ide _ dlc data => below (if ide then 2 ^ 29 else 2 ^ 11) ident && below 16 dlc && decide (data.length ≤ 64)
  | .canAssemblyTimeout => true
  | .canSegmentSent => true
  | .canBusoff => true
  | .canBusoffRecovery => true
  | .t1sFrameRx dst src etherType _ _ payload _ => below (2 ^ 48) dst && below (2 ^ 48) src && below 65536 etherType && decide (payload.length ≤ 1500)
  | .plcaStatusLoss => true
  | .plcaBeaconResume => true
  | .daliForwardFrame addr data => below 256 addr && below 256 data
  | .daliGoToScene scene => below 16 scene
  | .daliArcPower level => below 256 level
  | .daliQuery query => decide (144 ≤ query ∧ query ≤ 197)
  | .daliSystemFailure _ => true
  | .legacyWriteSeg first levels => below 65536 first && levels.all (below 65536)
  | .legacyUpdate => true
  | .legacyWriteReg reg value => below 256 reg && below 65536 value
  | .legacyReadReg first count => below 256 first && below 256 count
  | .legacyStatus => true
  | .packetDispatch => true
  | .fragmentTimeout ring => below 8 ring
  | .eventsLostPlace ring => decide (8 ≤ ring ∧ ring ≤ 15)
  | .sysIdentify r => r.wf
  | .sysStatus r => r.wf
  | .sysReset r => r.wf
  | .regRead r => r.wf
  | .regWrite r => r.wf
  | .scnTickWrite r value => r.wf && below (2 ^ 32) value
  | .diagCtrlWrite r value => r.wf && below (2 ^ 32) value
  | .hstRegisterWrite r offset value => r.wf && below (2 ^ 18) offset && below (2 ^ 32) value
  | .layerBufferWrite r offset words => r.wf && below (2 ^ 20) offset && words.all (below (2 ^ 32))
  | .chkGo unit_ poly _ _ start len fold expect _ => below 4 unit_ && below (2 ^ 32) poly && below (2 ^ 32) start && below (2 ^ 32) len && below (2 ^ 32) fold && below (2 ^ 32) expect
  | .chkAbort unit_ => below 4 unit_
  | .chkScanDone unit_ _ _ => below 4 unit_
  | .chkCntClear r address => r.wf && below (2 ^ 32) address
  | .pwrMeasStart r supply => r.wf && below 4 supply
  | .measDone mv => below 65536 mv
  | .sysLifecycle r => r.wf
  | .beamSelectPattern r => r.wf
  | .beamObjectSet r => r.wf
  | .beamObjectClear r => r.wf
  | .beamObjectList r => r.wf
  | .beamFieldMap r => r.wf
  | .fadeSet r => r.wf
  | .layerConfig r => r.wf
  | .layerEnable r => r.wf
  | .symbolPlace r => r.wf
  | .bisqueFlatten r => r.wf
  | .libraryInstallBegin r => r.wf
  | .libraryInstallData r => r.wf
  | .libraryInstallEnd r => r.wf
  | .libraryInstallDelete r => r.wf
  | .libraryInstallAbort r => r.wf
  | .storeRead r => r.wf
  | .storeWrite r => r.wf
  | .linkStatus r => r.wf
  | .linkTrainRetrain r => r.wf
  | .linkTrainRestart r => r.wf
  | .linkTrainStepDown r => r.wf
  | .linkTrainStepUp r => r.wf
  | .linkPolicy r => r.wf
  | .safetyStatus r => r.wf
  | .commissionLoad r => r.wf
  | .commissionConfirm r => r.wf
  | .safetyResetArm r => r.wf
  | .safetyResetConfirm r => r.wf
  | .faultReadFirst r => r.wf
  | .faultReadHistory r => r.wf
  | .faultClear r => r.wf
  | .faultInject r => r.wf
  | .faultPolicy r => r.wf
  | .powerState r => r.wf
  | .entryQuiesceDone => true
  | .entryFadeDone => true
  | .shutdownTestDone => true
  | .entrySaveDone => true
  | .entryCheckDone => true
  | .entrySwitch => true
  | .wakeConfig r => r.wf
  | .timeGet r => r.wf
  | .timeSet r => r.wf
  | .spiWakeMatch first => below 256 first
  | .alarmFire => true
  | .daliWake addr data => below 256 addr && below 256 data
  | .cascadeClockWake => true
  | .retentionCheck crc vflag _ cores _ => below (2 ^ 32) crc && below 256 vflag && below 8 cores
  | .bankRebuildDone bank _ => below 32 bank
  | .wakeTargetReached lost _ => lost.all (below 65536)
  | .serviceIdleExpiry => true
  | .ondemandWakeDone code => below 256 code
  | .ondemandWakeTimeout code addr master access _ => below 256 code && below (2 ^ 32) addr && below 16 master && below 8 access
  | .calRun r => r.wf
  | .calRunCommit => true
  | .calibrationComplete => true
  | .autoCalibrationStart => true
  | .defectFollowupCommit => true
  | .calStatus r => r.wf
  | .defectMapRead r => r.wf
  | .ageingAccumulate => true
  | .etRecordWrite => true
  | .tempSweep codes => codes.length == 20 && codes.all (below 4096)
  | .tileEstimate => true
  | .throttleEvaluation => true
  | .boostEnd => true
  | .stopFadeComplete => true
  | .thermalStatus r => r.wf
  | .thermalPolicy r => r.wf
  | .bistRun r => r.wf
  | .bistResult r => r.wf
  | .updateBegin r => r.wf
  | .updatePrepareDone _ => true
  | .updateData r => r.wf
  | .updateVerify r => r.wf
  | .updateVerifyDone => true
  | .updateActivate r => r.wf
  | .updateConfirm r => r.wf
  | .updateFallback r => r.wf
  | .fallbackComplete => true
  | .updateStatus r => r.wf
  | .confirmWindowExpiry core => below 3 core
  | .onTimeWrite => true
  | .cascadeStatus r => r.wf
  | .cascadeMode r => r.wf
  | .senseConfig r => r.wf
  | .senseRead r => r.wf
  | .faultReport fs => fs.all FaultIn.wf
  | .reactionWindowClose _ _ => true
  | .faultNPulseEnd => true
  | .injectTimeout => true
  | .persistentLogWrite => true
  | .faultLogExport => true
  | .crossingStall crossing _ _ => below 16 crossing
  | .crossingResetDone crossing _ => below 16 crossing
  | .bcRequestRx _ => true
  | .t1sFrameSent collisions => below 17 collisions
  | .sysResetBegin => true
  | .legacyFrameInvalid status => decide (1 ≤ status ∧ status ≤ 3)
  | .domainSwitchOff code => below 256 code

end Sys2Proof
end

