-- ==== Sys2Proof/Decode.lean ====
section
/-! DEFINITION. Reading a command from a word. The command table gives no row any bits: the block's commands are packets,
transactions, messages and events, not words of an instruction memory. -/

namespace Sys2Proof

/-- The command that a word of `nbits` bits spells by the command table: none, since no row of it has bits. -/
def decodeTableWord (_nbits _w : Nat) : Option Instr := none

end Sys2Proof
end

