-- ==== Sys2Proof/Config.lean ====
section
/-! DEFINITION. What an implementation fixes and the spec leaves open: constants and functions WITHOUT A BODY, so that
no proof can see a value of one. Each is named in the assumption log. -/

namespace Sys2Proof.Config

/-- A value the spec leaves free, drawn afresh: the `n`-th draw of the run (notes/assumptions/3.md). -/
opaque free : Nat → Nat

/-- Either outcome of a band of the spec (rule number, key of the case): within the band either may occur
(00_scope, Notation; notes/assumptions/4.md). -/
opaque choice : Nat → Nat → Bool

/-- The SHA-256 digest of bytes (32 bytes), named by the spec and defined by its standard (notes/assumptions/5.md). -/
opaque sha256 : List Byte → List Byte

/-- Whether an ECDSA P-256 signature (64 bytes) over a digest is good for a public key (64 bytes)
(notes/assumptions/5.md). -/
opaque ecdsaGood : (key digest signature : List Byte) → Bool

/-- A forward-voltage reading in mV at a class and tile temperature (0.1 °C), corrected to 45 °C and class 40, in mV: the
spec names the correction and gives no formula (R118, R137; notes/assumptions/6.md). -/
opaque vfCorrected : (mv cls : Nat) → (theta : Int) → Int

/-- A byte read at an address whose content the spec names without giving its layout or values, at an instant: firmware images
as delivered, the settings store, drive buffers, the symbol cache (notes/assumptions/7.md). -/
opaque unlaid : (addr now : Nat) → Nat

/-- The quotient of a calibrated target by a class efficacy of 0, which R82 does not state (notes/assumptions/70.md). -/
opaque byZero : Nat → Nat

end Sys2Proof.Config
end

