-- ==== Sys2Proof/Machine/Maps.lean ====
section
/-! DEFINITION. Sparse data by key: a list of (key, value) pairs in one canonical form, keys strictly rising and no
entry equal to what an unlisted key reads as. Every memory, latch array and table of the machine is held so. -/

namespace Sys2Proof.Machine

/-- A sparse map from numbers to values. -/
abbrev Assoc (α : Type) := List (Nat × α)

/-- A sparse map of numbers, 0 where nothing is listed. -/
abbrev NMap := Assoc Nat

/-- A memory: bytes by address (Host.Cell). -/
abbrev Memory := List Host.Cell

/-- What a key reads as; `d` is what an unlisted key reads as. -/
def Assoc.get {α : Type} (d : α) : Assoc α → Nat → α
  | [], _ => d
  | (k, v) :: m, a => if a = k then v else Assoc.get d m a

/-- The map without any entry for a key. -/
def Assoc.erase {α : Type} : Assoc α → Nat → Assoc α
  | [], _ => []
  | (k, v) :: m, a => if a = k then Assoc.erase m a else (k, v) :: Assoc.erase m a

/-- The map with an entry put before the first greater key. -/
def Assoc.put {α : Type} : Assoc α → Nat → α → Assoc α
  | [], k, v => [(k, v)]
  | (k₀, v₀) :: m, k, v => if k < k₀ then (k, v) :: (k₀, v₀) :: m else (k₀, v₀) :: Assoc.put m k v

/-- The map after a write; writing `d`, what an unlisted key reads as, removes the entry. -/
def Assoc.set {α : Type} [DecidableEq α] (d : α) (m : Assoc α) (k : Nat) (v : α) : Assoc α :=
  if v = d then Assoc.erase m k else Assoc.put (Assoc.erase m k) k v

/-- The entry of a key, if one is listed. -/
def Assoc.find {α : Type} : Assoc α → Nat → Option α
  | [], _ => none
  | (k, v) :: m, a => if a = k then some v else Assoc.find m a

/-- The map with one entry for a key. -/
def Assoc.insert {α : Type} (m : Assoc α) (k : Nat) (v : α) : Assoc α := Assoc.put (Assoc.erase m k) k v

/-- Whether every key of the map lies above `lo`, keys rise strictly and no entry equals `d`. -/
def Assoc.wfFrom {α : Type} [DecidableEq α] (d : α) : Nat → Assoc α → Bool
  | _, [] => true
  | lo, (k, v) :: m => decide (lo ≤ k) && decide (v ≠ d) && Assoc.wfFrom d (k + 1) m

/-- The canonical form: keys strictly rising, no entry equal to what an unlisted key reads as. -/
def Assoc.wf {α : Type} [DecidableEq α] (d : α) (m : Assoc α) : Bool := Assoc.wfFrom d 0 m

/-- The canonical form of a memory whose unlisted bytes read as `d`. -/
def Memory.wf (d : Byte) (m : Memory) : Bool := Assoc.wf d m

/-- One byte of a memory. -/
def Memory.read (d : Byte) (m : Memory) (a : Nat) : Byte := Assoc.get d m a

/-- One byte written. -/
def Memory.write (d : Byte) (m : Memory) (a : Nat) (b : Byte) : Memory := Assoc.set d m a b

/-- `n` bytes read in rising address order. -/
def Memory.readN (d : Byte) (m : Memory) : Nat → Nat → List Byte
  | _, 0 => []
  | a, n + 1 => Memory.read d m a :: Memory.readN d m (a + 1) n

/-- Bytes written in rising address order. -/
def Memory.writeN (d : Byte) (m : Memory) : Nat → List Byte → Memory
  | _, [] => m
  | a, b :: bs => Memory.writeN d (Memory.write d m a b) (a + 1) bs

/-- Every entry whose key lies in `[lo, hi)` removed. -/
def Assoc.clearRange {α : Type} (m : Assoc α) (lo hi : Nat) : Assoc α :=
  m.filter (fun p => decide (p.1 < lo) || decide (hi ≤ p.1))

/-- The entries whose keys lie in `[lo, lo + n)`. -/
def keysIn {α : Type} (m : Assoc α) (lo n : Nat) : Assoc α := m.filter (fun p => decide (lo ≤ p.1 ∧ p.1 < lo + n))

/-- The value of key `k` after every byte of `[lo, lo + n)` was set to `b`: the bytes of the range listed. -/
def Memory.fill (d : Byte) (m : Memory) (lo n : Nat) (b : Byte) : Memory :=
  if b = d then Assoc.clearRange m lo (lo + n) else Memory.writeN d m lo (List.replicate n b)

/-- The bytes of `[lo, lo + bs.length)` replaced in one pass. -/
def Memory.store (d : Byte) (m : Memory) (lo : Nat) (bs : List Byte) : Memory :=
  let hi := lo + bs.length
  m.filter (fun p => decide (p.1 < lo)) ++ ((bs.mapIdx (fun i b => (lo + i, b))).filter (fun p => decide (p.2 ≠ d)))
    ++ m.filter (fun p => decide (hi ≤ p.1))

/-- A list's element at an index, or `d`. -/
def nth {α : Type} (d : α) (l : List α) (i : Nat) : α := l.getD i d

/-- A list with the element at an index replaced; an index past the end changes nothing. -/
def setNth {α : Type} : List α → Nat → α → List α
  | [], _, _ => []
  | _ :: l, 0, v => v :: l
  | x :: l, i + 1, v => x :: setNth l i v

end Sys2Proof.Machine
end

