-- ==== Sys2Proof/Laws/Maps.lean ====
section
/-! SUPPORT. The laws of sparse maps and memories: a read after a write, and every operation keeps the canonical form. -/

namespace Sys2Proof.Machine

variable {α : Type}

/-! ### Reading -/

theorem Assoc.get_erase_same (d : α) (m : Assoc α) (k : Nat) : Assoc.get d (Assoc.erase m k) k = d := by
  induction m with
  | nil => rfl
  | cons p m ih =>
    obtain ⟨a, v⟩ := p
    by_cases h : k = a
    · simp [Assoc.erase, h]; simpa [h] using ih
    · simp [Assoc.erase, Assoc.get, h, ih]

theorem Assoc.get_erase_other (d : α) (m : Assoc α) {k a : Nat} (h : a ≠ k) : Assoc.get d (Assoc.erase m k) a = Assoc.get d m a := by
  induction m with
  | nil => rfl
  | cons p m ih =>
    obtain ⟨b, v⟩ := p
    by_cases hb : k = b
    · subst hb; simp [Assoc.erase, Assoc.get, h, ih]
    · by_cases ha : a = b <;> simp [Assoc.erase, Assoc.get, hb, ha, ih]

theorem Assoc.get_put_same (d : α) (m : Assoc α) (k : Nat) (v : α) (h : Assoc.find m k = none) : Assoc.get d (Assoc.put m k v) k = v := by
  induction m with
  | nil => simp [Assoc.put, Assoc.get]
  | cons p m ih =>
    obtain ⟨b, w⟩ := p
    by_cases hb : k = b
    · simp [Assoc.find, hb] at h
    · simp only [Assoc.find, hb, if_false] at h
      by_cases hl : k < b <;> simp [Assoc.put, Assoc.get, hl, hb, ih h]

theorem Assoc.get_put_other (d : α) (m : Assoc α) {k a : Nat} (v : α) (h : a ≠ k) : Assoc.get d (Assoc.put m k v) a = Assoc.get d m a := by
  induction m with
  | nil => simp [Assoc.put, Assoc.get, h]
  | cons p m ih =>
    obtain ⟨b, w⟩ := p
    by_cases hl : k < b <;> by_cases ha : a = b <;> simp [Assoc.put, Assoc.get, hl, ha, h, ih]
    intro hk; omega

theorem Assoc.find_erase_same (m : Assoc α) (k : Nat) : Assoc.find (Assoc.erase m k) k = none := by
  induction m with
  | nil => rfl
  | cons p m ih =>
    obtain ⟨b, v⟩ := p
    by_cases h : k = b
    · simp only [Assoc.erase, h, if_true]; rw [← h]; exact ih
    · simp [Assoc.erase, Assoc.find, h, ih]

/-- A read after a write to the same key gives the value written. -/
@[simp] theorem Assoc.get_set_same [DecidableEq α] (d : α) (m : Assoc α) (k : Nat) (v : α) : Assoc.get d (Assoc.set d m k v) k = v := by
  unfold Assoc.set
  split
  · rename_i h; rw [h]; exact Assoc.get_erase_same d m k
  · exact Assoc.get_put_same d _ k v (Assoc.find_erase_same m k)

/-- A write leaves every other key alone. -/
theorem Assoc.get_set_other [DecidableEq α] (d : α) (m : Assoc α) {k a : Nat} (v : α) (h : a ≠ k) :
    Assoc.get d (Assoc.set d m k v) a = Assoc.get d m a := by
  unfold Assoc.set
  split
  · exact Assoc.get_erase_other d m h
  · rw [Assoc.get_put_other d _ v h, Assoc.get_erase_other d m h]

/-! ### The canonical form -/

theorem Assoc.wfFrom_mono [DecidableEq α] (d : α) {lo lo' : Nat} (m : Assoc α) (h : lo ≤ lo') (w : Assoc.wfFrom d lo' m = true) :
    Assoc.wfFrom d lo m = true := by
  cases m with
  | nil => rfl
  | cons p m =>
    obtain ⟨k, v⟩ := p
    simp only [Assoc.wfFrom, Bool.and_eq_true, decide_eq_true_eq] at w ⊢
    exact ⟨⟨Nat.le_trans h w.1.1, w.1.2⟩, w.2⟩

theorem Assoc.wfFrom_erase [DecidableEq α] (d : α) (m : Assoc α) (k : Nat) : ∀ lo, Assoc.wfFrom d lo m = true → Assoc.wfFrom d lo (Assoc.erase m k) = true := by
  induction m with
  | nil => intro _ _; rfl
  | cons p m ih =>
    obtain ⟨b, v⟩ := p
    intro lo w
    simp only [Assoc.wfFrom, Bool.and_eq_true, decide_eq_true_eq] at w
    by_cases h : k = b
    · simp only [Assoc.erase, h, if_true]
      exact h ▸ ih lo (Assoc.wfFrom_mono d m (by omega) w.2)
    · simp only [Assoc.erase, h, if_false, Assoc.wfFrom, Bool.and_eq_true, decide_eq_true_eq]
      exact ⟨w.1, ih _ w.2⟩

theorem Assoc.wfFrom_put [DecidableEq α] (d : α) (m : Assoc α) (k : Nat) (v : α) (hv : v ≠ d) :
    ∀ lo, lo ≤ k → Assoc.find m k = none → Assoc.wfFrom d lo m = true → Assoc.wfFrom d lo (Assoc.put m k v) = true := by
  induction m with
  | nil => intro lo h _ _; simp [Assoc.put, Assoc.wfFrom, h, hv]
  | cons p m ih =>
    obtain ⟨b, w⟩ := p
    intro lo hlo hf hw
    simp only [Assoc.wfFrom, Bool.and_eq_true, decide_eq_true_eq] at hw
    have hb : k ≠ b := by rintro rfl; simp [Assoc.find] at hf
    simp only [Assoc.find, hb, if_false] at hf
    by_cases hl : k < b
    · simp only [Assoc.put, hl, if_true, Assoc.wfFrom, Bool.and_eq_true, decide_eq_true_eq]
      exact ⟨⟨hlo, hv⟩, ⟨by omega, hw.1.2⟩, hw.2⟩
    · simp only [Assoc.put, hl, if_false, Assoc.wfFrom, Bool.and_eq_true, decide_eq_true_eq]
      exact ⟨hw.1, ih _ (by omega) hf hw.2⟩

/-- A write keeps the canonical form. -/
theorem Assoc.wf_set [DecidableEq α] (d : α) (m : Assoc α) (k : Nat) (v : α) (h : Assoc.wf d m = true) : Assoc.wf d (Assoc.set d m k v) = true := by
  unfold Assoc.wf Assoc.set at *
  split
  · exact Assoc.wfFrom_erase d m k 0 h
  · rename_i hv
    exact Assoc.wfFrom_put d _ k v hv 0 (Nat.zero_le _) (Assoc.find_erase_same m k) (Assoc.wfFrom_erase d m k 0 h)

theorem Assoc.wfFrom_filter [DecidableEq α] (d : α) (p : Nat × α → Bool) (m : Assoc α) : ∀ lo, Assoc.wfFrom d lo m = true → Assoc.wfFrom d lo (m.filter p) = true := by
  induction m with
  | nil => intro _ _; rfl
  | cons x m ih =>
    obtain ⟨k, v⟩ := x
    intro lo w
    simp only [Assoc.wfFrom, Bool.and_eq_true, decide_eq_true_eq] at w
    by_cases h : p (k, v) = true
    · simp only [List.filter, h, Assoc.wfFrom, Bool.and_eq_true, decide_eq_true_eq]
      exact ⟨w.1, ih _ w.2⟩
    · simp only [Bool.not_eq_true] at h
      simp only [List.filter, h]
      exact ih lo (Assoc.wfFrom_mono d m (by omega) w.2)

/-- Clearing a range keeps the canonical form. -/
theorem Assoc.wf_clearRange [DecidableEq α] (d : α) (m : Assoc α) (lo hi : Nat) (h : Assoc.wf d m = true) : Assoc.wf d (Assoc.clearRange m lo hi) = true :=
  Assoc.wfFrom_filter d _ m 0 h

theorem Assoc.wf_filter [DecidableEq α] (d : α) (p : Nat × α → Bool) (m : Assoc α) (h : Assoc.wf d m = true) : Assoc.wf d (m.filter p) = true :=
  Assoc.wfFrom_filter d p m 0 h

theorem Memory.wf_write (d : Byte) (m : Memory) (a : Nat) (b : Byte) (h : Memory.wf d m = true) : Memory.wf d (Memory.write d m a b) = true :=
  Assoc.wf_set d m a b h

theorem Memory.wf_writeN (d : Byte) (bs : List Byte) : ∀ (m : Memory) (a : Nat), Memory.wf d m = true → Memory.wf d (Memory.writeN d m a bs) = true := by
  induction bs with
  | nil => intro _ _ h; exact h
  | cons b bs ih => intro m a h; exact ih _ _ (Memory.wf_write d m a b h)

theorem Memory.wf_fill (d : Byte) (m : Memory) (lo n : Nat) (b : Byte) (h : Memory.wf d m = true) : Memory.wf d (Memory.fill d m lo n b) = true := by
  unfold Memory.fill
  split
  · exact Assoc.wf_clearRange d m _ _ h
  · exact Memory.wf_writeN d _ m lo h

/-- The canonical form of two maps joined: the first lies below the bound from which the second is canonical. -/
theorem Assoc.wfFrom_append [DecidableEq α] (d : α) (hi : Nat) (y : Assoc α) (hy : Assoc.wfFrom d hi y = true) (x : Assoc α) :
    ∀ lo, lo ≤ hi → Assoc.wfFrom d lo x = true → (∀ p ∈ x, p.1 < hi) → Assoc.wfFrom d lo (x ++ y) = true := by
  induction x with
  | nil => intro lo h _ _; exact Assoc.wfFrom_mono d y h hy
  | cons p x ih =>
    obtain ⟨k, v⟩ := p
    intro lo _ w b
    simp only [Assoc.wfFrom, Bool.and_eq_true, decide_eq_true_eq] at w
    simp only [List.cons_append, Assoc.wfFrom, Bool.and_eq_true, decide_eq_true_eq]
    have hk : k < hi := b (k, v) (by simp)
    exact ⟨w.1, ih _ (by omega) w.2 (fun q hq => b q (by simp [hq]))⟩

theorem Assoc.wfFrom_above [DecidableEq α] (d : α) (hi : Nat) (m : Assoc α) : ∀ lo, Assoc.wfFrom d lo m = true → (∀ p ∈ m, hi ≤ p.1) → Assoc.wfFrom d hi m = true := by
  cases m with
  | nil => intro _ _ _; rfl
  | cons p m =>
    obtain ⟨k, v⟩ := p
    intro lo w b
    simp only [Assoc.wfFrom, Bool.and_eq_true, decide_eq_true_eq] at w ⊢
    exact ⟨⟨b (k, v) (by simp), w.1.2⟩, w.2⟩

theorem Memory.wfFrom_bytes (d : Byte) (bs : List Byte) : ∀ lo : Nat,
    Assoc.wfFrom d lo ((bs.mapIdx (fun i b => (lo + i, b))).filter (fun p => decide (p.2 ≠ d))) = true := by
  induction bs with
  | nil => intro _; rfl
  | cons b bs ih =>
    intro lo
    have hshift : bs.mapIdx (fun i b => (lo + (i + 1), b)) = bs.mapIdx (fun i b => (lo + 1 + i, b)) := by
      congr 1; funext i b; congr 1; omega
    simp only [List.mapIdx_cons, Nat.add_zero, List.filter_cons, hshift]
    split
    · rename_i hb
      simp only [Assoc.wfFrom, Nat.le_refl, decide_true, Bool.true_and, Bool.and_eq_true]
      exact ⟨hb, ih (lo + 1)⟩
    · exact Assoc.wfFrom_mono d _ (Nat.le_succ lo) (ih (lo + 1))

theorem Memory.bytes_below (d : Byte) (bs : List Byte) (lo : Nat) :
    ∀ p ∈ (bs.mapIdx (fun i b => (lo + i, b))).filter (fun p => decide (p.2 ≠ d)), p.1 < lo + bs.length := by
  intro p hp
  obtain ⟨i, h, rfl⟩ := List.mem_mapIdx.1 (List.mem_filter.1 hp).1
  simp [h]

/-- Replacing a run of bytes keeps the canonical form. -/
theorem Memory.wf_store (d : Byte) (m : Memory) (lo : Nat) (bs : List Byte) (h : Memory.wf d m = true) : Memory.wf d (Memory.store d m lo bs) = true := by
  unfold Memory.wf Assoc.wf Memory.store
  rw [List.append_assoc]
  have hhi : Assoc.wfFrom d (lo + bs.length) (m.filter (fun p => decide (lo + bs.length ≤ p.1))) = true :=
    Assoc.wfFrom_above d _ _ 0 (Assoc.wfFrom_filter d _ m 0 h) (fun p hp => by simpa using (List.mem_filter.1 hp).2)
  have hmid := Assoc.wfFrom_append d (lo + bs.length) _ hhi _ lo (by omega) (Memory.wfFrom_bytes d bs lo) (Memory.bytes_below d bs lo)
  exact Assoc.wfFrom_append d lo _ hmid _ 0 (Nat.zero_le _) (Assoc.wfFrom_filter d _ m 0 h) (fun p hp => by simpa using (List.mem_filter.1 hp).2)

end Sys2Proof.Machine
end

