-- ==== Sys2Proof/Laws/FastMaps.lean ====
section
/-! SUPPORT. Reads after writes of runs of bytes; two canonical maps that read alike are equal; and with them the one-pass forms of
reading and writing a run of bytes, proved equal to the definitions, which compiled code uses in their place. -/

namespace Sys2Proof.Machine

variable {α : Type}

/-! ### Canonical maps that read alike are equal -/

theorem Assoc.get_below [DecidableEq α] (d : α) (m : Assoc α) : ∀ lo a, Assoc.wfFrom d lo m = true → a < lo → Assoc.get d m a = d := by
  induction m with
  | nil => intro _ _ _ _; rfl
  | cons p m ih =>
    obtain ⟨k, v⟩ := p
    intro lo a w h
    simp only [Assoc.wfFrom, Bool.and_eq_true, decide_eq_true_eq] at w
    simp only [Assoc.get, show a ≠ k by omega, if_false]
    exact ih (k + 1) a w.2 (by omega)

theorem Assoc.ext_from [DecidableEq α] (d : α) (x : Assoc α) : ∀ (y : Assoc α) (lo : Nat), Assoc.wfFrom d lo x = true →
    Assoc.wfFrom d lo y = true → (∀ a, Assoc.get d x a = Assoc.get d y a) → x = y := by
  induction x with
  | nil =>
    intro y lo _ wy h
    cases y with
    | nil => rfl
    | cons q y =>
      obtain ⟨k, v⟩ := q
      simp only [Assoc.wfFrom, Bool.and_eq_true, decide_eq_true_eq] at wy
      have := h k
      simp only [Assoc.get, if_true] at this
      exact absurd this.symm wy.1.2
  | cons p x ih =>
    obtain ⟨j, u⟩ := p
    intro y lo wx wy h
    simp only [Assoc.wfFrom, Bool.and_eq_true, decide_eq_true_eq] at wx
    cases y with
    | nil =>
      have := h j
      simp only [Assoc.get, if_true] at this
      exact absurd this wx.1.2
    | cons q y =>
      obtain ⟨k, v⟩ := q
      simp only [Assoc.wfFrom, Bool.and_eq_true, decide_eq_true_eq] at wy
      have hjk : j = k := by
        rcases Nat.lt_trichotomy j k with hl | he | hg
        · have := h j
          rw [show Assoc.get d ((j, u) :: x) j = u by simp [Assoc.get], show Assoc.get d ((k, v) :: y) j = Assoc.get d y j by simp [Assoc.get, show j ≠ k by omega],
            Assoc.get_below d y (k + 1) j wy.2 (by omega)] at this
          exact absurd this wx.1.2
        · exact he
        · have := h k
          rw [show Assoc.get d ((k, v) :: y) k = v by simp [Assoc.get], show Assoc.get d ((j, u) :: x) k = Assoc.get d x k by simp [Assoc.get, show k ≠ j by omega],
            Assoc.get_below d x (j + 1) k wx.2 (by omega)] at this
          exact absurd this.symm wy.1.2
      subst hjk
      have huv : u = v := by have := h j; simpa [Assoc.get] using this
      subst huv
      congr 1
      refine ih y (j + 1) wx.2 wy.2 (fun a => ?_)
      by_cases ha : a = j
      · subst ha
        rw [Assoc.get_below d x (a + 1) a wx.2 (by omega), Assoc.get_below d y (a + 1) a wy.2 (by omega)]
      · have := h a
        simpa [Assoc.get, ha] using this

/-- Two canonical maps that read alike everywhere are equal. -/
theorem Assoc.wf_ext [DecidableEq α] (d : α) {x y : Assoc α} (hx : Assoc.wf d x = true) (hy : Assoc.wf d y = true)
    (h : ∀ a, Assoc.get d x a = Assoc.get d y a) : x = y :=
  Assoc.ext_from d x y 0 hx hy h

/-! ### Reads after a run of bytes was written -/

/-- A write of a run leaves every byte outside it alone. -/
theorem Memory.read_writeN_other (d : Byte) (bs : List Byte) : ∀ (m : Memory) (lo a : Nat), a < lo ∨ lo + bs.length ≤ a →
    Memory.read d (Memory.writeN d m lo bs) a = Memory.read d m a := by
  induction bs with
  | nil => intro m lo a _; rfl
  | cons b bs ih =>
    intro m lo a h
    simp only [List.length_cons] at h
    rw [Memory.writeN, ih _ _ _ (by omega)]
    exact Assoc.get_set_other d m b (by omega)

/-- A read inside a run that was written gives the byte of the run. -/
theorem Memory.read_writeN_same (d : Byte) (bs : List Byte) : ∀ (m : Memory) (lo i : Nat) (h : i < bs.length),
    Memory.read d (Memory.writeN d m lo bs) (lo + i) = bs[i] := by
  induction bs with
  | nil => intro _ _ i h; simp at h
  | cons b bs ih =>
    intro m lo i h
    rw [Memory.writeN]
    cases i with
    | zero =>
      rw [Memory.read_writeN_other d bs _ _ _ (by omega)]
      exact Assoc.get_set_same d m lo b
    | succ i =>
      have := ih (Memory.write d m lo b) (lo + 1) i (by simpa using h)
      rw [show lo + (i + 1) = lo + 1 + i by omega, this]
      rfl

theorem Assoc.get_append (d : α) (x y : Assoc α) (a : Nat) (h : ∀ p ∈ x, p.1 ≠ a) : Assoc.get d (x ++ y) a = Assoc.get d y a := by
  induction x with
  | nil => rfl
  | cons p x ih =>
    obtain ⟨k, v⟩ := p
    have hk : a ≠ k := fun e => h (k, v) (by simp) e.symm
    simp only [List.cons_append, Assoc.get, hk, if_false]
    exact ih (fun q hq => h q (by simp [hq]))

theorem Assoc.get_append_right (d : α) (x y : Assoc α) (a : Nat) (h : ∀ p ∈ y, p.1 ≠ a) : Assoc.get d (x ++ y) a = Assoc.get d x a := by
  induction x with
  | nil =>
    have := Assoc.get_append d y [] a h
    simpa [Assoc.get] using this
  | cons p x ih =>
    obtain ⟨k, v⟩ := p
    simp only [List.cons_append, Assoc.get]
    rw [ih]

theorem Assoc.get_filter (d : α) (p : Nat × α → Bool) (m : Assoc α) (a : Nat) (h : ∀ v, p (a, v) = true) :
    Assoc.get d (m.filter p) a = Assoc.get d m a := by
  induction m with
  | nil => rfl
  | cons q m ih =>
    obtain ⟨k, v⟩ := q
    by_cases ha : a = k
    · subst ha; simp [List.filter, h v, Assoc.get]
    · by_cases hp : p (k, v) = true
      · simp [List.filter, hp, Assoc.get, ha, ih]
      · simp only [Bool.not_eq_true] at hp
        simp [List.filter, hp, Assoc.get, ha, ih]

theorem Memory.read_bytes (d : Byte) (bs : List Byte) : ∀ (lo i : Nat) (h : i < bs.length),
    Assoc.get d ((bs.mapIdx (fun i b => (lo + i, b))).filter (fun p => decide (p.2 ≠ d))) (lo + i) = bs[i] := by
  induction bs with
  | nil => intro _ i h; simp at h
  | cons b bs ih =>
    intro lo i h
    have hshift : bs.mapIdx (fun i b => (lo + (i + 1), b)) = bs.mapIdx (fun i b => (lo + 1 + i, b)) := by
      congr 1; funext i b; congr 1; omega
    simp only [List.mapIdx_cons, Nat.add_zero, List.filter_cons, hshift]
    cases i with
    | zero =>
      split
      · simp [Assoc.get]
      · rename_i hb
        have hb : b = d := by simpa using hb
        have := Assoc.get_below d _ (lo + 1) lo (Memory.wfFrom_bytes d bs (lo + 1)) (by omega)
        simp only [Nat.add_zero, List.getElem_cons_zero, hb]
        exact this
    | succ i =>
      have := ih (lo + 1) i (by simpa using h)
      rw [show lo + 1 + i = lo + (i + 1) by omega] at this
      split
      · simp only [Assoc.get, show lo + (i + 1) ≠ lo by omega, if_false, List.getElem_cons_succ]; exact this
      · exact this

theorem Memory.bytes_keys (d : Byte) (bs : List Byte) (lo : Nat) :
    ∀ p ∈ (bs.mapIdx (fun i b => (lo + i, b))).filter (fun p => decide (p.2 ≠ d)), lo ≤ p.1 ∧ p.1 < lo + bs.length := by
  intro p hp
  obtain ⟨i, h, rfl⟩ := List.mem_mapIdx.1 (List.mem_filter.1 hp).1
  exact ⟨by simp, by simp [h]⟩

/-- A replaced run leaves every byte outside it alone. -/
theorem Memory.read_store_other (d : Byte) (m : Memory) (lo : Nat) (bs : List Byte) (a : Nat) (h : a < lo ∨ lo + bs.length ≤ a) :
    Memory.read d (Memory.store d m lo bs) a = Memory.read d m a := by
  simp only [Memory.read, Memory.store]
  rcases h with h | h
  · rw [List.append_assoc, Assoc.get_append_right, Assoc.get_filter]
    · intro v; simpa using h
    · intro p hp
      rcases List.mem_append.1 hp with hp | hp
      · have := (Memory.bytes_keys d bs lo p hp).1; omega
      · have := (List.mem_filter.1 hp).2; simp only [decide_eq_true_eq] at this; omega
  · rw [Assoc.get_append, Assoc.get_filter]
    · intro v; simpa using h
    · intro p hp
      rcases List.mem_append.1 hp with hp | hp
      · have := (List.mem_filter.1 hp).2; simp only [decide_eq_true_eq] at this; omega
      · have := (Memory.bytes_keys d bs lo p hp).2; omega

/-- A read inside a replaced run gives the byte of the run. -/
theorem Memory.read_store_same (d : Byte) (m : Memory) (lo : Nat) (bs : List Byte) (i : Nat) (h : i < bs.length) :
    Memory.read d (Memory.store d m lo bs) (lo + i) = bs[i] := by
  simp only [Memory.read, Memory.store]
  rw [List.append_assoc, Assoc.get_append, Assoc.get_append_right, Memory.read_bytes d bs lo i h]
  · intro p hp
    have := (List.mem_filter.1 hp).2; simp only [decide_eq_true_eq] at this; omega
  · intro p hp
    have := (List.mem_filter.1 hp).2; simp only [decide_eq_true_eq] at this; omega

/-! ### One pass in place of one pass a byte -/

/-- Writing a run byte by byte and replacing it in one pass give one memory. -/
theorem Memory.writeN_eq_store (d : Byte) (m : Memory) (lo : Nat) (bs : List Byte) (h : Memory.wf d m = true) :
    Memory.writeN d m lo bs = Memory.store d m lo bs := by
  refine Assoc.wf_ext d (Memory.wf_writeN d bs m lo h) (Memory.wf_store d m lo bs h) (fun a => ?_)
  change Memory.read d _ a = Memory.read d _ a
  by_cases ha : a < lo ∨ lo + bs.length ≤ a
  · rw [Memory.read_writeN_other d bs m lo a ha, Memory.read_store_other d m lo bs a ha]
  · obtain ⟨i, rfl⟩ : ∃ i, a = lo + i := ⟨a - lo, by omega⟩
    rw [Memory.read_writeN_same d bs m lo i (by omega), Memory.read_store_same d m lo bs i (by omega)]

/-- The entries of a memory from an address on, up to the first that lies there or above. -/
def Memory.from_ : Memory → Nat → Memory
  | [], _ => []
  | (k, v) :: m, a => if k < a then Memory.from_ m a else (k, v) :: m

/-- A run of bytes read in one pass over a canonical memory. -/
def Memory.walk (d : Byte) : Memory → Nat → Nat → List Byte → List Byte
  | _, _, 0, acc => acc.reverse
  | m, a, n + 1, acc =>
    match Memory.from_ m a with
    | [] => acc.reverseAux (List.replicate (n + 1) d)
    | (k, v) :: t => if k = a then Memory.walk d t (a + 1) n (v :: acc) else Memory.walk d ((k, v) :: t) (a + 1) n (d :: acc)

theorem Memory.wfFrom_from (d : Byte) (m : Memory) : ∀ lo a, Assoc.wfFrom d lo m = true → Assoc.wfFrom d a (Memory.from_ m a) = true := by
  induction m with
  | nil => intro _ _ _; rfl
  | cons p m ih =>
    obtain ⟨k, v⟩ := p
    intro lo a w
    simp only [Memory.from_]
    simp only [Assoc.wfFrom, Bool.and_eq_true, decide_eq_true_eq] at w
    split
    · exact ih _ a w.2
    · simp only [Assoc.wfFrom, Bool.and_eq_true, decide_eq_true_eq]
      exact ⟨⟨by omega, w.1.2⟩, w.2⟩

theorem Memory.read_from (d : Byte) (m : Memory) (lo a : Nat) (h : lo ≤ a) : Memory.read d (Memory.from_ m lo) a = Memory.read d m a := by
  induction m with
  | nil => rfl
  | cons p m ih =>
    obtain ⟨k, v⟩ := p
    simp only [Memory.from_]
    split
    · rename_i hk
      rw [ih]
      simp [Memory.read, Assoc.get, show a ≠ k by omega]
    · rfl

theorem Memory.readN_congr (d : Byte) (x y : Memory) (n : Nat) : ∀ lo, (∀ a, lo ≤ a → Memory.read d x a = Memory.read d y a) →
    Memory.readN d x lo n = Memory.readN d y lo n := by
  induction n with
  | zero => intro _ _; rfl
  | succ n ih =>
    intro lo h
    simp only [Memory.readN]
    rw [h lo (Nat.le_refl _), ih (lo + 1) (fun a ha => h a (by omega))]

theorem Memory.readN_nil (d : Byte) (n : Nat) : ∀ lo, Memory.readN d [] lo n = List.replicate n d := by
  induction n with
  | zero => intro _; rfl
  | succ n ih => intro lo; simp only [Memory.readN, ih, List.replicate_succ]; rfl

theorem Memory.walk_eq (d : Byte) (n : Nat) : ∀ (m : Memory) (lo a : Nat) (acc : List Byte), Assoc.wfFrom d lo m = true →
    Memory.walk d m a n acc = acc.reverse ++ Memory.readN d m a n := by
  induction n with
  | zero => intro m lo a acc _; simp [Memory.walk, Memory.readN]
  | succ n ih =>
    intro m lo a acc w
    have hr : Memory.readN d m a (n + 1) = Memory.readN d (Memory.from_ m a) a (n + 1) :=
      Memory.readN_congr d _ _ _ _ (fun x hx => (Memory.read_from d m a x hx).symm)
    have wf := Memory.wfFrom_from d m lo a w
    rw [hr, Memory.walk]
    match hm : Memory.from_ m a with
    | [] => simp [Memory.readN_nil, List.reverseAux_eq]
    | (k, v) :: t =>
      rw [hm] at wf
      have wt := wf
      simp only [Assoc.wfFrom, Bool.and_eq_true, decide_eq_true_eq] at wt
      simp only
      split
      · rename_i hk
        subst hk
        rw [ih t (k + 1) (k + 1) (v :: acc) wt.2]
        simp only [Memory.readN, List.reverse_cons, List.append_assoc, List.singleton_append]
        congr 1
        rw [show Memory.read d ((k, v) :: t) k = v by simp [Memory.read, Assoc.get]]
        congr 1
        refine Memory.readN_congr d _ _ _ _ (fun x hx => ?_)
        simp [Memory.read, Assoc.get, show x ≠ k by omega]
      · rename_i hk
        rw [ih ((k, v) :: t) a (a + 1) (d :: acc) wf]
        simp only [Memory.readN, List.reverse_cons, List.append_assoc, List.singleton_append]
        congr 2
        have := Assoc.get_below d ((k, v) :: t) (a + 1) a
          (by simp only [Assoc.wfFrom, Bool.and_eq_true, decide_eq_true_eq]; exact ⟨⟨by omega, wt.1.2⟩, wt.2⟩) (by omega)
        exact this.symm

/-- Reading a run: one pass where the run is long and the memory canonical. -/
def Memory.readNFast (d : Byte) (m : Memory) (a n : Nat) : List Byte :=
  if 8 < n ∧ Memory.wf d m then Memory.walk d m a n [] else Memory.readN d m a n

/-- Writing a run: one pass where the run is long and the memory canonical. -/
def Memory.writeNFast (d : Byte) (m : Memory) (a : Nat) (bs : List Byte) : Memory :=
  if 8 < bs.length ∧ Memory.wf d m then Memory.store d m a bs else Memory.writeN d m a bs

@[csimp] theorem Memory.readN_eq_fast : @Memory.readN = @Memory.readNFast := by
  funext d m a n
  unfold Memory.readNFast
  split
  · rename_i h; simpa using (Memory.walk_eq d n m 0 a [] h.2).symm
  · rfl

@[csimp] theorem Memory.writeN_eq_fast : @Memory.writeN = @Memory.writeNFast := by
  funext d m a bs
  unfold Memory.writeNFast
  split
  · rename_i h; exact Memory.writeN_eq_store d m a bs h.2
  · rfl

end Sys2Proof.Machine
end

