-- ==== Sys2Proof/Machine/Crc.lean ====
section
/-! DEFINITION. The four check computations of Table 18-1 and the fold rule (R534 to R536). -/

namespace Sys2Proof.Machine

/-- Eight shifts of a non-reflected CRC register of `w` bits (R534: most significant bit first). -/
def crcMsbShift (w poly : Nat) : Nat → Nat → Nat
  | 0, c => c
  | k + 1, c =>
    crcMsbShift w poly k
      (if c / 2 ^ (w - 1) % 2 = 1 then (2 * c ^^^ poly) % 2 ^ w else 2 * c % 2 ^ w)

/-- A non-reflected CRC over bytes, from a register value. -/
def crcMsb (w poly : Nat) (c : Nat) (bs : List Byte) : Nat :=
  bs.foldl (fun c b => crcMsbShift w poly 8 (c ^^^ b.toNat * 2 ^ (w - 8))) c

/-- Eight shifts of a reflected CRC register (R534: least significant bit first); `poly` is bit-reversed. -/
def crcLsbShift (poly : Nat) : Nat → Nat → Nat
  | 0, c => c
  | k + 1, c => crcLsbShift poly k (if c % 2 = 1 then c / 2 ^^^ poly else c / 2)

/-- A reflected CRC over bytes, from a register value. -/
def crcLsb (poly : Nat) (c : Nat) (bs : List Byte) : Nat :=
  bs.foldl (fun c b => crcLsbShift poly 8 (c ^^^ b.toNat)) c

/-- CRC-8 of Table 18-1, no fold word. -/
def crc8 (bs : List Byte) : Nat := crcMsb 8 0x1D 0xFF bs ^^^ 0xFF

/-- CRC-16 of Table 18-1, no fold word. -/
def crc16 (bs : List Byte) : Nat := crcMsb 16 0x1021 0xFFFF bs

/-- CRC-32 of Table 18-1, no fold word (0x04C1_1DB7 bit-reversed is 0xEDB8_8320). -/
def crc32 (bs : List Byte) : Nat := crcLsb 0xEDB88320 0xFFFFFFFF bs ^^^ 0xFFFFFFFF

/-- CRC-32C of Table 18-1, no fold word (0x1EDC_6F41 bit-reversed is 0x82F6_3B78). -/
def crc32c (bs : List Byte) : Nat := crcLsb 0x82F63B78 0xFFFFFFFF bs ^^^ 0xFFFFFFFF

/-- The bytes a check with fold word `f` runs over (R535): the fold word, least significant byte first, then the data. -/
def folded (f : Nat) (bs : List Byte) : List Byte := le 4 f ++ bs

/-- The trailer check of a packet (R265): CRC-16 with the node tag as fold word. -/
def trailer (tag : Nat) (bs : List Byte) : Nat := crc16 (folded tag bs)

/-- A CRC-32C with a fold word. -/
def crc32cFold (f : Nat) (bs : List Byte) : Nat := crc32c (folded f bs)

end Sys2Proof.Machine
end

