-- ==== Sys2Proof/Machine/Default.lean ====
section
/-! DEFINITION. What a module holds as delivered: the default safety parameter block of a variant (Table 12-6). -/

namespace Sys2Proof.Machine

/-- The default safety parameter block: 0 FK8210-AW, 1 FK8210-IW (Table 12-6). -/
def deliveredBlock (variant : Nat) : List Byte :=
  let aw := variant == 0
  le 4 0x50534B46 ++ le 2 1 ++ [byte variant, byte (if aw then 3 else 0)] ++ le 4 0 ++ le 4 0
    ++ le 2 256 ++ [byte 16, byte 40] ++ le 2 1000 ++ [byte 32, byte 0] ++ le 2 50 ++ le 2 100 ++ le 2 0 ++ le 2 64
    ++ le 2 100 ++ le 2 500 ++ le 2 200 ++ [byte 192, byte 0] ++ le 2 500
    ++ le 2 (if aw then 32768 else 65535) ++ [byte 1, byte 0, byte 0, byte 0]
    ++ [byte 80, byte 175, byte 26, byte 31] ++ le 124 0 ++ le 336 0

end Sys2Proof.Machine
end

