-- ==== Sys2Proof/Machine/RegTable.lean ====
section
/-! DEFINITION. The register map of the spec: one field for every row of the chapters' register tables
(Tables 2-7 to 2-12, 3-4 to 3-11, 4-12, 4-13, 5-13 to 5-17, 6-15 to 6-18, 7-16 to 7-18, 8-17 to 8-20, 9-16 to 9-18,
10-10 to 10-13, 11-12 to 11-14, 12-13 to 12-16, 13-11 to 13-13, 14-14 to 14-16, 15-5 to 15-7, 16-12 to 16-14,
17-9, 17-10, 18-6, 18-7), with its address, bits, access code (Table 0-4) and reset value (R11).
A reset value that Table 0-1 makes different in the variants stands here as that of the FK8210-AW; one given as
"From NVM", "From OTP", "From straps" or "From record" stands here as 0 and is loaded at start. -/

namespace Sys2Proof.Machine

/-- Table 0-4: the register access codes. -/
inductive Access where
  | ro | rw | wo | w1c | rws
deriving DecidableEq, Repr

/-- One field of a register: word address, lowest bit, width, access code, reset value. -/
structure Field where
  addr : Nat
  lo : Nat
  width : Nat
  acc : Access
  reset : Nat
deriving DecidableEq, Repr

/-- Registers of one layout: first address, distance, number, fields of the first. -/
structure RegFamily where
  base : Nat
  stride : Nat
  count : Nat
  fields : List Field
deriving DecidableEq, Repr

namespace Reg

def SYS_STATE.POWER : Field := ⟨0x40000000, 0, 3, .ro, 2⟩
def SYS_STATE.MODE : Field := ⟨0x40000000, 3, 2, .ro, 0⟩
def SYS_STATE.LIFECYCLE : Field := ⟨0x40000000, 5, 3, .ro, 0⟩
def SYS_STATE.POSITION : Field := ⟨0x40000000, 8, 2, .ro, 0⟩
def SYS_STATE.VARIANT : Field := ⟨0x40000000, 10, 1, .ro, 0⟩
def SYS_RESET_CAUSE.CAUSE : Field := ⟨0x40000004, 0, 4, .ro, 0⟩
def SYS_RESET_CAUSE.COUNT : Field := ⟨0x40000004, 16, 16, .ro, 0⟩
def SYS_NODE_TAG.TAG : Field := ⟨0x40000008, 0, 32, .ro, 0⟩
def SYS_FLASH_PAGE.PAGE : Field := ⟨0x4000000C, 0, 5, .rw, 0⟩
def SYS_EVENT_ROUTE.ROUTE : Field := ⟨0x40000010, 0, 5, .rw, 7⟩
def SYS_FLAGS.CNT_SAT : Field := ⟨0x40000014, 0, 1, .w1c, 0⟩
def SYS_FLAGS.EVT_LOST : Field := ⟨0x40000014, 1, 1, .w1c, 0⟩
def SYS_CMD_COUNT.COUNT : Field := ⟨0x40000020, 0, 32, .ro, 0⟩
def SYS_ERR_COUNT.COUNT : Field := ⟨0x40000024, 0, 32, .ro, 0⟩
def SYS_DUP_COUNT.COUNT : Field := ⟨0x40000028, 0, 32, .ro, 0⟩
def SYS_FRAG_ABANDON_COUNT.COUNT : Field := ⟨0x4000002C, 0, 32, .ro, 0⟩
def SYS_EVENT_DROP_COUNT.COUNT : Field := ⟨0x40000030, 0, 32, .ro, 0⟩
def PWR_STATE.POWER : Field := ⟨0x40100000, 0, 3, .ro, 2⟩
def PWR_STATE.STEP : Field := ⟨0x40100000, 3, 3, .ro, 0⟩
def PWR_STATE.WAKE : Field := ⟨0x40100000, 6, 1, .ro, 0⟩
def PWR_STATE.SERVICE : Field := ⟨0x40100000, 7, 1, .ro, 0⟩
def PWR_STATE.TARGET : Field := ⟨0x40100000, 8, 3, .ro, 0⟩
def PWR_STATE.SHUTDOWN : Field := ⟨0x40100000, 11, 1, .ro, 0⟩
def PWR_STATE.CNT_SAT : Field := ⟨0x40100000, 12, 1, .w1c, 0⟩
def PWR_WAKE_CFG.SOURCES : Field := ⟨0x40100004, 0, 5, .ro, 7⟩
def PWR_WAKE_CFG.WAKE_ADDR : Field := ⟨0x40100004, 8, 7, .ro, 42⟩
def PWR_WAKE_CFG.SERVICE_IDLE : Field := ⟨0x40100004, 16, 16, .ro, 1000⟩
def PWR_WAKE_TARGET.SPI : Field := ⟨0x40100008, 0, 2, .ro, 0⟩
def PWR_WAKE_TARGET.ALARM : Field := ⟨0x40100008, 2, 2, .ro, 1⟩
def PWR_WAKE_TARGET.INPUTS : Field := ⟨0x40100008, 4, 2, .ro, 1⟩
def PWR_WAKE_TARGET.DALI : Field := ⟨0x40100008, 6, 2, .ro, 2⟩
def PWR_WAKE_CAUSE.CAUSE : Field := ⟨0x4010000C, 0, 4, .ro, 0⟩
def PWR_WAKE_CAUSE.INPUTS : Field := ⟨0x4010000C, 4, 4, .ro, 0⟩
def PWR_DOMAIN.ON : Field := ⟨0x40100010, 0, 13, .ro, 8191⟩
def PWR_BANK_STATE_LO.BANK (k : Nat) : Field := ⟨0x40100014, 2 * k, 2, .ro, 2⟩
def PWR_BANK_STATE_HI.BANK (k : Nat) : Field := ⟨0x40100018, 2 * k, 2, .ro, 2⟩
def PWR_RET_MASK.MASK : Field := ⟨0x4010001C, 0, 32, .ro, 0⟩
def PWR_RET_RESULT.INVALID : Field := ⟨0x40100020, 0, 32, .w1c, 0⟩
def PWR_RET_INFO.VFLAG : Field := ⟨0x40100024, 0, 8, .ro, 0⟩
def PWR_RET_INFO.IMAGE_BAD : Field := ⟨0x40100024, 8, 1, .ro, 0⟩
def PWR_RET_INFO.CORE_BAD : Field := ⟨0x40100024, 9, 3, .ro, 0⟩
def PWR_SUPPLY.WARN_NOW : Field := ⟨0x40100028, 0, 3, .ro, 0⟩
def PWR_SUPPLY.WARN_SEEN : Field := ⟨0x40100028, 4, 3, .w1c, 0⟩
def PWR_MEAS_CTRL.SUPPLY : Field := ⟨0x4010002C, 0, 2, .rw, 0⟩
def PWR_MEAS_CTRL.START : Field := ⟨0x4010002C, 8, 1, .wo, 0⟩
def PWR_MEAS_CTRL.BUSY : Field := ⟨0x4010002C, 9, 1, .ro, 0⟩
def PWR_MEAS_RESULT.MV : Field := ⟨0x40100030, 0, 16, .ro, 0⟩
def PWR_MEAS_RESULT.SUPPLY : Field := ⟨0x40100030, 16, 2, .ro, 0⟩
def PWR_MEAS_RESULT.VALID : Field := ⟨0x40100030, 18, 1, .ro, 0⟩
def PWR_TIME_LO.TIME : Field := ⟨0x40100034, 0, 32, .ro, 0⟩
def PWR_TIME_HI.TIME : Field := ⟨0x40100038, 0, 32, .ro, 0⟩
def PWR_TIME_STATUS.QUALITY : Field := ⟨0x4010003C, 0, 2, .ro, 3⟩
def PWR_TIME_STATUS.XTAL : Field := ⟨0x4010003C, 2, 1, .ro, 0⟩
def PWR_TIME_STATUS.SRC_CHANGE : Field := ⟨0x4010003C, 3, 1, .w1c, 0⟩
def PWR_TIME_STATUS.COMP_FROZEN : Field := ⟨0x4010003C, 4, 1, .ro, 0⟩
def PWR_TIME_STATUS.EPOCH : Field := ⟨0x4010003C, 16, 16, .ro, 0⟩
def PWR_TIME_ERR.ERR : Field := ⟨0x40100040, 0, 32, .ro, 0⟩
def PWR_ALARM_LO.ALARM : Field := ⟨0x40100044, 0, 32, .ro, 0⟩
def PWR_ALARM_HI.ALARM : Field := ⟨0x40100048, 0, 32, .ro, 0⟩
def PWR_RET_COUNT.COUNT : Field := ⟨0x4010004C, 0, 12, .ro, 0⟩
def PWR_WAKE_COUNT.COUNT : Field := ⟨0x40100060, 0, 32, .ro, 0⟩
def PWR_ABANDON_COUNT.COUNT : Field := ⟨0x40100064, 0, 32, .ro, 0⟩
def PWR_ONDEMAND_COUNT.COUNT : Field := ⟨0x40100068, 0, 32, .ro, 0⟩
def PWR_REBUILD_COUNT.COUNT : Field := ⟨0x4010006C, 0, 32, .ro, 0⟩
def PWR_XTAL_LOSS_COUNT.COUNT : Field := ⟨0x40100070, 0, 32, .ro, 0⟩
def FLT_STATUS.UNCLEARED : Field := ⟨0x40200000, 0, 9, .ro, 0⟩
def FLT_STATUS.FIRST_VALID : Field := ⟨0x40200000, 9, 1, .ro, 0⟩
def FLT_STATUS.WINDOW : Field := ⟨0x40200000, 10, 1, .ro, 0⟩
def FLT_STATUS.PULSE_MODE : Field := ⟨0x40200000, 11, 1, .ro, 0⟩
def FLT_STATUS.HIGHEST : Field := ⟨0x40200000, 12, 2, .ro, 0⟩
def FLT_STATUS.KILN_HEAD : Field := ⟨0x40200000, 14, 4, .ro, 0⟩
def FLT_STATUS.KILN_COUNT : Field := ⟨0x40200000, 18, 5, .ro, 0⟩
def FLT_STATUS.SEQ_WRAP : Field := ⟨0x40200000, 23, 1, .w1c, 0⟩
def FLT_STATUS.CNT_SAT : Field := ⟨0x40200000, 24, 1, .w1c, 0⟩
def FLT_STATUS.PLOG_WRAP : Field := ⟨0x40200000, 25, 1, .w1c, 0⟩
def FLT_POLICY.FIRST_MIN : Field := ⟨0x40200004, 0, 2, .ro, 2⟩
def FLT_POLICY.EVENT_CLASSES : Field := ⟨0x40200004, 2, 3, .ro, 6⟩
def FLT_POLICY.HOLD : Field := ⟨0x40200004, 5, 1, .ro, 0⟩
def FLT_IRQ_EN.EN : Field := ⟨0x40200008, 0, 9, .rw, 174⟩
def FLT_IRQ_STATUS.CAUSE : Field := ⟨0x4020000C, 0, 9, .w1c, 0⟩
def FLT_FAULTN.LEVEL : Field := ⟨0x40200010, 0, 1, .ro, 0⟩
def FLT_FAULTN.PIN : Field := ⟨0x40200010, 1, 1, .ro, 0⟩
def FLT_INJECT.CHECKER : Field := ⟨0x40200014, 0, 8, .ro, 0⟩
def FLT_INJECT.ARMED : Field := ⟨0x40200014, 8, 1, .ro, 0⟩
def FLT_INJECT.REMAIN : Field := ⟨0x40200014, 9, 4, .ro, 0⟩
def FLT_FIRST_ID.SEQ : Field := ⟨0x40200020, 0, 16, .ro, 0⟩
def FLT_FIRST_ID.SOURCE : Field := ⟨0x40200020, 16, 9, .ro, 0⟩
def FLT_FIRST_ID.CLASS : Field := ⟨0x40200020, 25, 2, .ro, 0⟩
def FLT_FIRST_ID.MASTER : Field := ⟨0x40200020, 27, 4, .ro, 0⟩
def FLT_FIRST_INFO.ACCESS : Field := ⟨0x40200024, 0, 3, .ro, 0⟩
def FLT_FIRST_INFO.REACTION : Field := ⟨0x40200024, 3, 3, .ro, 0⟩
def FLT_FIRST_INFO.HIGHEST : Field := ⟨0x40200024, 6, 2, .ro, 0⟩
def FLT_FIRST_INFO.INJECTED : Field := ⟨0x40200024, 8, 1, .ro, 0⟩
def FLT_FIRST_INFO.RESTORED : Field := ⟨0x40200024, 9, 1, .ro, 0⟩
def FLT_FIRST_INFO.STANDING : Field := ⟨0x40200024, 10, 1, .ro, 0⟩
def FLT_FIRST_INFO.MERGES : Field := ⟨0x40200024, 16, 16, .ro, 0⟩
def FLT_FIRST_ADDR.ADDRESS : Field := ⟨0x40200028, 0, 32, .ro, 0⟩
def FLT_FIRST_TIME_LO.TIME : Field := ⟨0x4020002C, 0, 32, .ro, 0⟩
def FLT_FIRST_TIME_HI.TIME : Field := ⟨0x40200030, 0, 32, .ro, 0⟩
def FLT_FIRST_EPOCH.EPOCH : Field := ⟨0x40200034, 0, 16, .ro, 0⟩
def FLT_FIRST_EPOCH.QUALITY : Field := ⟨0x40200034, 16, 2, .ro, 0⟩
def FLT_CORRECTED_COUNT.COUNT : Field := ⟨0x40200040, 0, 32, .ro, 0⟩
def FLT_CONTAINED_COUNT.COUNT : Field := ⟨0x40200044, 0, 32, .ro, 0⟩
def FLT_FATAL_COUNT.COUNT : Field := ⟨0x40200048, 0, 32, .ro, 0⟩
def FLT_SHADOW_COUNT.COUNT : Field := ⟨0x4020004C, 0, 32, .ro, 0⟩
def FLT_MERGE_COUNT.COUNT : Field := ⟨0x40200050, 0, 32, .ro, 0⟩
def FLT_PULSE_DROP_COUNT.COUNT : Field := ⟨0x40200054, 0, 32, .ro, 0⟩
def FLT_PLOG_SEQ.SEQ : Field := ⟨0x40200058, 0, 32, .ro, 0⟩
def CHK_CTRL.POLY (n : Nat) : Field := ⟨0x40300000 + 64 * n, 0, 2, .rw, 3⟩
def CHK_CTRL.FOLD_EN (n : Nat) : Field := ⟨0x40300000 + 64 * n, 2, 1, .rw, 1⟩
def CHK_CTRL.COMPARE (n : Nat) : Field := ⟨0x40300000 + 64 * n, 3, 1, .rw, 0⟩
def CHK_CTRL.GO (n : Nat) : Field := ⟨0x40300000 + 64 * n, 4, 1, .wo, 0⟩
def CHK_CTRL.ABORT (n : Nat) : Field := ⟨0x40300000 + 64 * n, 5, 1, .wo, 0⟩
def CHK_STATUS.BUSY (n : Nat) : Field := ⟨0x40300004 + 64 * n, 0, 1, .ro, 0⟩
def CHK_STATUS.DONE (n : Nat) : Field := ⟨0x40300004 + 64 * n, 1, 1, .w1c, 0⟩
def CHK_STATUS.MATCH (n : Nat) : Field := ⟨0x40300004 + 64 * n, 2, 1, .ro, 0⟩
def CHK_STATUS.ERROR (n : Nat) : Field := ⟨0x40300004 + 64 * n, 3, 3, .ro, 0⟩
def CHK_STATUS.GO_LOST (n : Nat) : Field := ⟨0x40300004 + 64 * n, 6, 1, .w1c, 0⟩
def CHK_STATUS.INJECT (n : Nat) : Field := ⟨0x40300004 + 64 * n, 7, 1, .ro, 0⟩
def CHK_START.ADDRESS (n : Nat) : Field := ⟨0x40300008 + 64 * n, 0, 32, .rw, 0⟩
def CHK_LENGTH.BYTES (n : Nat) : Field := ⟨0x4030000C + 64 * n, 0, 27, .rw, 1⟩
def CHK_FOLD.FOLD (n : Nat) : Field := ⟨0x40300010 + 64 * n, 0, 32, .rw, 0⟩
def CHK_EXPECT.VALUE (n : Nat) : Field := ⟨0x40300014 + 64 * n, 0, 32, .rw, 0⟩
def CHK_RESULT.VALUE (n : Nat) : Field := ⟨0x40300018 + 64 * n, 0, 32, .ro, 0⟩
def CHK_FLAGS.CNT_SAT : Field := ⟨0x40300100, 0, 1, .w1c, 0⟩
def CHK_CNT_CLEAR.ADDRESS : Field := ⟨0x40300104, 0, 32, .wo, 0⟩
def CHK_XING_OVERRUN.MAP : Field := ⟨0x40300108, 0, 16, .rws, 0⟩
def CHK_XING_STALL.MAP : Field := ⟨0x4030010C, 0, 16, .rws, 0⟩
def CHK_XING_FLUSH.COUNT (n : Nat) : Field := ⟨0x40300140 + 4 * n, 0, 32, .ro, 0⟩
def LNK_STATUS.STATE : Field := ⟨0x40400000, 0, 4, .ro, 0⟩
def LNK_STATUS.GEN : Field := ⟨0x40400000, 4, 2, .ro, 0⟩
def LNK_STATUS.LANES : Field := ⟨0x40400000, 6, 3, .ro, 0⟩
def LNK_STATUS.LOCK : Field := ⟨0x40400000, 9, 4, .ro, 0⟩
def LNK_STATUS.INPUT : Field := ⟨0x40400000, 13, 3, .ro, 0⟩
def LNK_STATUS.BC_OK : Field := ⟨0x40400000, 16, 1, .ro, 0⟩
def LNK_STATUS.HOLDOFF : Field := ⟨0x40400000, 17, 1, .ro, 0⟩
def LNK_STATUS.REF_FWD : Field := ⟨0x40400000, 18, 1, .ro, 0⟩
def LNK_STATUS.MAPPED_OUT : Field := ⟨0x40400000, 19, 4, .ro, 0⟩
def LNK_STATUS.CNT_SAT : Field := ⟨0x40400000, 23, 1, .w1c, 0⟩
def LNK_POLICY.FLAGS : Field := ⟨0x40400004, 0, 5, .ro, 7⟩
def LNK_POLICY.MAX_GEN : Field := ⟨0x40400004, 8, 2, .ro, 3⟩
def LNK_POLICY.MAX_LANES : Field := ⟨0x40400004, 12, 3, .ro, 4⟩
def LNK_POLICY.VELOCITY : Field := ⟨0x40400004, 16, 7, .ro, 70⟩
def LNK_TIMING.HOLD_MS : Field := ⟨0x40400008, 0, 11, .ro, 100⟩
def LNK_TIMING.GAP_MS : Field := ⟨0x40400008, 16, 10, .ro, 50⟩
def LNK_CABLE.LENGTH : Field := ⟨0x4040000C, 0, 10, .ro, 1023⟩
def LNK_CABLE.GEN_LIMIT : Field := ⟨0x4040000C, 10, 2, .ro, 1⟩
def LNK_PARTNER.GENS : Field := ⟨0x40400010, 0, 3, .ro, 0⟩
def LNK_PARTNER.LANES : Field := ⟨0x40400010, 3, 3, .ro, 0⟩
def LNK_PARTNER.FORMATS : Field := ⟨0x40400010, 6, 3, .ro, 0⟩
def LNK_PARTNER.WIDTHS : Field := ⟨0x40400010, 9, 4, .ro, 0⟩
def LNK_PARTNER.PRESETS : Field := ⟨0x40400010, 13, 5, .ro, 0⟩
def LNK_PARTNER.MAX_RATE : Field := ⟨0x40400010, 18, 9, .ro, 0⟩
def LNK_PARTNER.VALID : Field := ⟨0x40400010, 27, 1, .ro, 0⟩
def LNK_FOM.FOM (k : Nat) : Field := ⟨0x40400014, 8 * k, 8, .ro, 0⟩
def LNK_SEQ.LAST : Field := ⟨0x40400018, 0, 16, .ro, 0⟩
def LNK_SEQ.RX : Field := ⟨0x40400018, 16, 16, .ro, 0⟩
def LNK_LAST_ERR.CAUSE : Field := ⟨0x4040001C, 0, 4, .ro, 0⟩
def LNK_LAST_ERR.ROW : Field := ⟨0x4040001C, 4, 9, .ro, 0⟩
def LNK_EQ.CTLE (n : Nat) : Field := ⟨0x40400020 + 4 * n, 0, 4, .ro, 0⟩
def LNK_EQ.PRESET (n : Nat) : Field := ⟨0x40400020 + 4 * n, 22, 4, .ro, 0⟩
def LNK_EQ.DFE1 (n : Nat) : Field := ⟨0x40400020 + 4 * n, 4, 6, .ro, 0⟩
def LNK_EQ.DFE2 (n : Nat) : Field := ⟨0x40400020 + 4 * n, 10, 6, .ro, 0⟩
def LNK_EQ.DFE3 (n : Nat) : Field := ⟨0x40400020 + 4 * n, 16, 6, .ro, 0⟩
def LNK_FRAME_RX_COUNT.COUNT : Field := ⟨0x40400040, 0, 32, .ro, 0⟩
def LNK_FRAME_ACCEPT_COUNT.COUNT : Field := ⟨0x40400044, 0, 32, .ro, 0⟩
def LNK_FRAME_DROP_COUNT.COUNT : Field := ⟨0x40400048, 0, 32, .ro, 0⟩
def LNK_FRAME_ERR_COUNT.COUNT : Field := ⟨0x4040004C, 0, 32, .ro, 0⟩
def LNK_FRAME_INCOMPLETE_COUNT.COUNT : Field := ⟨0x40400050, 0, 32, .ro, 0⟩
def LNK_SEQ_GAP_COUNT.COUNT : Field := ⟨0x40400054, 0, 32, .ro, 0⟩
def LNK_DUP_COUNT.COUNT : Field := ⟨0x40400058, 0, 32, .ro, 0⟩
def LNK_LOSS_COUNT.COUNT : Field := ⟨0x4040005C, 0, 32, .ro, 0⟩
def LNK_STEP_DOWN_COUNT.COUNT : Field := ⟨0x40400060, 0, 32, .ro, 0⟩
def LNK_STEP_FAIL_COUNT.COUNT : Field := ⟨0x40400064, 0, 32, .ro, 0⟩
def LNK_CODE_ERR_COUNT.COUNT : Field := ⟨0x40400068, 0, 32, .ro, 0⟩
def LNK_RS_CORR_COUNT.COUNT : Field := ⟨0x4040006C, 0, 32, .ro, 0⟩
def LNK_RS_UNCORR_COUNT.COUNT : Field := ⟨0x40400070, 0, 32, .ro, 0⟩
def LNK_BC_ERR_COUNT.COUNT : Field := ⟨0x40400074, 0, 32, .ro, 0⟩
def CAS_STATUS.POSITION : Field := ⟨0x40500000, 0, 2, .ro, 0⟩
def CAS_STATUS.FOLLOWER : Field := ⟨0x40500000, 2, 1, .ro, 0⟩
def CAS_STATUS.ALIGN : Field := ⟨0x40500000, 3, 2, .ro, 0⟩
def CAS_STATUS.ADMIT : Field := ⟨0x40500000, 5, 3, .ro, 0⟩
def CAS_STATUS.EPOCH : Field := ⟨0x40500000, 8, 8, .ro, 0⟩
def CAS_STATUS.HOP_GEN : Field := ⟨0x40500000, 16, 2, .ro, 0⟩
def CAS_STATUS.UP_OK : Field := ⟨0x40500000, 18, 1, .ro, 0⟩
def CAS_MODE.MODE : Field := ⟨0x40500004, 0, 2, .ro, 0⟩
def CAS_MODE.CLONE : Field := ⟨0x40500004, 2, 1, .ro, 0⟩
def CAS_MODE.SLICE_MAP : Field := ⟨0x40500004, 8, 8, .ro, 228⟩
def CAS_SHARE01.SHARE_0 : Field := ⟨0x40500008, 0, 13, .ro, 1024⟩
def CAS_SHARE01.SHARE_1 : Field := ⟨0x40500008, 16, 13, .ro, 1024⟩
def CAS_SHARE23.SHARE_2 : Field := ⟨0x4050000C, 0, 13, .ro, 1024⟩
def CAS_SHARE23.SHARE_3 : Field := ⟨0x4050000C, 16, 13, .ro, 1024⟩
def CAS_PHASE.ERR : Field := ⟨0x40500010, 0, 32, .ro, 0⟩
def CAS_FWD.ROW_MIN : Field := ⟨0x40500014, 0, 16, .ro, 0⟩
def CAS_FWD.MAX_RATE : Field := ⟨0x40500014, 16, 9, .ro, 240⟩
def CAS_FWD.QUEUE : Field := ⟨0x40500014, 25, 6, .ro, 0⟩
def CAS_MEMBER.P (k : Nat) : Field := ⟨0x40500018, 8 * k, 8, .ro, 0⟩
def CAS_FLAGS.CNT_SAT : Field := ⟨0x4050001C, 0, 1, .w1c, 0⟩
def CAS_MARK_MISS_COUNT.COUNT : Field := ⟨0x40500040, 0, 32, .ro, 0⟩
def CAS_REALIGN_COUNT.COUNT : Field := ⟨0x40500044, 0, 32, .ro, 0⟩
def CAS_FWD_COUNT.COUNT : Field := ⟨0x40500048, 0, 32, .ro, 0⟩
def CAS_FWD_ABORT_COUNT.COUNT : Field := ⟨0x4050004C, 0, 32, .ro, 0⟩
def CAS_TAKE_MISS_COUNT.COUNT : Field := ⟨0x40500050, 0, 32, .ro, 0⟩
def CAS_UP_ERR_COUNT.COUNT : Field := ⟨0x40500054, 0, 32, .ro, 0⟩
def BEAM_CTRL.EXTRAP_MAX : Field := ⟨0x40600000, 0, 8, .rw, 50⟩
def BEAM_STATUS.SOURCE : Field := ⟨0x40600004, 0, 2, .ro, 2⟩
def BEAM_STATUS.WATCH : Field := ⟨0x40600004, 2, 2, .ro, 0⟩
def BEAM_STATUS.MAP_VALID : Field := ⟨0x40600004, 4, 1, .ro, 0⟩
def BEAM_STATUS.LOADING : Field := ⟨0x40600004, 5, 1, .ro, 0⟩
def BEAM_STATUS.QUEUED : Field := ⟨0x40600004, 6, 1, .ro, 0⟩
def BEAM_STATUS.XFADE : Field := ⟨0x40600004, 7, 1, .ro, 0⟩
def BEAM_STATUS.BANK : Field := ⟨0x40600004, 8, 1, .ro, 0⟩
def BEAM_STATUS.STALE_RESIDENT : Field := ⟨0x40600004, 9, 1, .ro, 0⟩
def BEAM_STATUS.MARK_CLAMPED : Field := ⟨0x40600004, 10, 1, .w1c, 0⟩
def BEAM_STATUS.CNT_SAT : Field := ⟨0x40600004, 11, 1, .w1c, 0⟩
def BEAM_PATTERN.CURRENT : Field := ⟨0x40600008, 0, 8, .ro, 0⟩
def BEAM_PATTERN.NEXT : Field := ⟨0x40600008, 8, 8, .ro, 0⟩
def BEAM_PATTERN.QUEUED_ID : Field := ⟨0x40600008, 16, 8, .ro, 0⟩
def BEAM_PATTERN.XFADE_K : Field := ⟨0x40600008, 24, 8, .ro, 0⟩
def BEAM_LIST_SEQ.LAST : Field := ⟨0x4060000C, 0, 16, .ro, 0⟩
def BEAM_LIST_SEQ.PENDING : Field := ⟨0x4060000C, 16, 16, .ro, 0⟩
def BEAM_LIST_AGE.MS : Field := ⟨0x40600010, 0, 16, .ro, 65535⟩
def BEAM_LIST_COUNT.COUNT : Field := ⟨0x40600014, 0, 32, .ro, 0⟩
def BEAM_LIST_ABANDON_COUNT.COUNT : Field := ⟨0x40600018, 0, 32, .ro, 0⟩
def BEAM_SUPERSEDED_COUNT.COUNT : Field := ⟨0x4060001C, 0, 32, .ro, 0⟩
def BEAM_EXTRAP_CLIP_COUNT.COUNT : Field := ⟨0x40600020, 0, 32, .ro, 0⟩
def BEAM_FIELD_MAP_CHECK.CHK : Field := ⟨0x40600024, 0, 32, .ro, 0⟩
def BEAM_FIELD_GRID_H.H0 : Field := ⟨0x40600028, 0, 16, .ro, 0⟩
def BEAM_FIELD_GRID_H.DH : Field := ⟨0x40600028, 16, 16, .ro, 0⟩
def BEAM_FIELD_GRID_V.V0 : Field := ⟨0x4060002C, 0, 16, .ro, 0⟩
def BEAM_FIELD_GRID_V.DV : Field := ⟨0x4060002C, 16, 16, .ro, 0⟩
def BEAM_WATCH.T1 : Field := ⟨0x40600030, 0, 16, .ro, 100⟩
def BEAM_WATCH.T2 : Field := ⟨0x40600030, 16, 16, .ro, 500⟩
def BEAM_GROW.RATE : Field := ⟨0x40600034, 0, 16, .ro, 200⟩
def BEAM_GROW.MAX : Field := ⟨0x40600034, 16, 8, .ro, 192⟩
def BEAM_GROW.WATCH_EN : Field := ⟨0x40600034, 24, 1, .ro, 1⟩
def BEAM_STALE.PATTERN : Field := ⟨0x40600038, 0, 8, .ro, 0⟩
def BEAM_STALE.FADE : Field := ⟨0x40600038, 8, 14, .ro, 500⟩
def BEAM_MARK_LIMIT.LIMIT : Field := ⟨0x4060003C, 0, 16, .ro, 32768⟩
def BEAM_ACTIVE.MAP (n : Nat) : Field := ⟨0x40600040 + 4 * n, 0, 32, .ro, 0⟩
def BEAM_RELEASING.MAP (n : Nat) : Field := ⟨0x40600050 + 4 * n, 0, 32, .ro, 0⟩
def BEAM_CTX_STATE.STATE (n : Nat) : Field := ⟨0x40611000 + 4 * n, 0, 2, .ro, 0⟩
def BEAM_CTX_STATE.TYPE (n : Nat) : Field := ⟨0x40611000 + 4 * n, 2, 2, .ro, 0⟩
def BEAM_CTX_STATE.U (n : Nat) : Field := ⟨0x40611000 + 4 * n, 4, 12, .ro, 0⟩
def BEAM_CTX_STATE.LEVEL (n : Nat) : Field := ⟨0x40611000 + 4 * n, 16, 16, .ro, 0⟩
def CMP_STATUS.BUILD : Field := ⟨0x40700000, 0, 2, .ro, 0⟩
def CMP_STATUS.QUEUED : Field := ⟨0x40700000, 2, 1, .ro, 0⟩
def CMP_STATUS.LIVE : Field := ⟨0x40700000, 3, 1, .ro, 0⟩
def CMP_STATUS.FRONT : Field := ⟨0x40700000, 4, 1, .ro, 0⟩
def CMP_STATUS.STATIC_LIVE : Field := ⟨0x40700000, 5, 1, .ro, 0⟩
def CMP_STATUS.CNT_SAT : Field := ⟨0x40700000, 6, 1, .w1c, 0⟩
def CMP_ENABLE.ENABLE : Field := ⟨0x40700004, 0, 8, .ro, 1⟩
def CMP_ENABLE.STATIC : Field := ⟨0x40700004, 8, 8, .ro, 0⟩
def CMP_ENABLE.RUN : Field := ⟨0x40700004, 16, 8, .ro, 0⟩
def CMP_BUILD_COUNT.COUNT : Field := ⟨0x40700008, 0, 32, .ro, 0⟩
def CMP_LIVE_COUNT.COUNT : Field := ⟨0x4070000C, 0, 32, .ro, 0⟩
def CMP_SYM_CACHE.USED : Field := ⟨0x40700010, 0, 13, .ro, 0⟩
def CMP_SYM_CACHE.RESIDENT : Field := ⟨0x40700010, 13, 13, .ro, 0⟩
def CMP_SYM_MISS_COUNT.COUNT : Field := ⟨0x40700014, 0, 32, .ro, 0⟩
def CMP_SYM_EVICT_COUNT.COUNT : Field := ⟨0x40700018, 0, 32, .ro, 0⟩
def CMP_LIB_STATUS.FLASH : Field := ⟨0x4070001C, 0, 2, .ro, 0⟩
def CMP_LIB_STATUS.DIR_VALID : Field := ⟨0x4070001C, 2, 1, .ro, 0⟩
def CMP_LIB_STATUS.PATTERNS : Field := ⟨0x4070001C, 3, 9, .ro, 0⟩
def CMP_LIB_STATUS.SYMBOLS : Field := ⟨0x4070001C, 12, 13, .ro, 0⟩
def CMP_LIB_STATUS.RAM_STORE : Field := ⟨0x4070001C, 25, 1, .ro, 0⟩
def CMP_LIB_STATUS.INSTALL : Field := ⟨0x4070001C, 26, 1, .ro, 0⟩
def CMP_LIB_ERR_COUNT.COUNT : Field := ⟨0x40700020, 0, 32, .ro, 0⟩
def CMP_LEGACY_DROP_COUNT.COUNT : Field := ⟨0x40700024, 0, 32, .ro, 0⟩
def CMP_LAYER_STATUS.FRONT_COPY (n : Nat) : Field := ⟨0x40700040 + 4 * n, 0, 1, .ro, 0⟩
def CMP_LAYER_STATUS.FLIP_PENDING (n : Nat) : Field := ⟨0x40700040 + 4 * n, 1, 1, .ro, 0⟩
def CMP_LAYER_STATUS.STAGED (n : Nat) : Field := ⟨0x40700040 + 4 * n, 2, 1, .ro, 0⟩
def CMP_LAYER_STATUS.LOST (n : Nat) : Field := ⟨0x40700040 + 4 * n, 3, 1, .w1c, 0⟩
def CMP_LAYER_STATUS.SYMBOLS (n : Nat) : Field := ⟨0x40700040 + 4 * n, 4, 8, .ro, 0⟩
def SCN_CTRL.SPLIT4 : Field := ⟨0x40800000, 0, 1, .rw, 0⟩
def SCN_CTRL.CASC_TX_EN : Field := ⟨0x40800000, 1, 1, .rw, 0⟩
def SCN_TICK.TICK : Field := ⟨0x40800004, 0, 7, .rw, 60⟩
def SCN_FRAME_PERIOD.PERIOD : Field := ⟨0x40800008, 0, 19, .ro, 250000⟩
def SCN_LOCK_CTRL.EN : Field := ⟨0x4080000C, 0, 1, .rw, 0⟩
def SCN_LOCK_CTRL.OFFSET : Field := ⟨0x4080000C, 8, 19, .rw, 100000⟩
def SCN_LOCK_STATUS.STATE : Field := ⟨0x40800010, 0, 2, .ro, 0⟩
def SCN_LOCK_STATUS.N : Field := ⟨0x40800010, 2, 6, .ro, 0⟩
def SCN_LOCK_STATUS.F : Field := ⟨0x40800010, 8, 12, .ro, 0⟩
def SCN_LOCK_STATUS.T : Field := ⟨0x40800010, 20, 7, .ro, 60⟩
def SCN_LOCK_PHASE.ERR : Field := ⟨0x40800014, 0, 32, .ro, 0⟩
def SCN_FRAME_COUNT.COUNT : Field := ⟨0x40800018, 0, 32, .ro, 0⟩
def SCN_STATUS.LB_LEVEL : Field := ⟨0x4080001C, 0, 3, .ro, 0⟩
def SCN_STATUS.PRIO : Field := ⟨0x4080001C, 3, 2, .ro, 0⟩
def SCN_STATUS.REPEAT_RUN : Field := ⟨0x4080001C, 5, 2, .ro, 0⟩
def SCN_STATUS.LAST_SWAP : Field := ⟨0x4080001C, 7, 1, .ro, 0⟩
def SCN_STATUS.HELD : Field := ⟨0x4080001C, 8, 1, .ro, 0⟩
def SCN_STATUS.COUNT_WRAP : Field := ⟨0x4080001C, 9, 1, .w1c, 0⟩
def SCN_STATUS.ROW_REP_SAT : Field := ⟨0x4080001C, 10, 1, .w1c, 0⟩
def SCN_STATUS.FRAME_REP_SAT : Field := ⟨0x4080001C, 11, 1, .w1c, 0⟩
def SCN_STATUS.PRIO_SAT : Field := ⟨0x4080001C, 12, 1, .w1c, 0⟩
def SCN_STATUS.RELOAD_SAT : Field := ⟨0x4080001C, 13, 1, .w1c, 0⟩
def SCN_STATUS.D2D_SAT : Field := ⟨0x4080001C, 14, 1, .w1c, 0⟩
def SCN_STATUS.FREEZE : Field := ⟨0x4080001C, 15, 1, .rws, 0⟩
def SCN_ROW_REPEAT_COUNT.COUNT : Field := ⟨0x40800020, 0, 32, .ro, 0⟩
def SCN_FRAME_REPEAT_COUNT.COUNT : Field := ⟨0x40800024, 0, 32, .ro, 0⟩
def SCN_URGENT_COUNT.COUNT : Field := ⟨0x40800028, 0, 32, .ro, 0⟩
def SCN_CRITICAL_COUNT.COUNT : Field := ⟨0x4080002C, 0, 32, .ro, 0⟩
def SCN_SIG_CONTENT.SIG : Field := ⟨0x40800030, 0, 32, .ro, 0⟩
def SCN_SIG_WITNESS.SIG : Field := ⟨0x40800034, 0, 32, .ro, 0⟩
def SCN_SIG_FRAME.COUNT : Field := ⟨0x40800038, 0, 32, .ro, 0⟩
def SCN_RELOAD_COUNT.COUNT : Field := ⟨0x4080003C, 0, 32, .ro, 0⟩
def SCN_D2D_ERR_COUNT.COUNT : Field := ⟨0x40800040, 0, 32, .ro, 0⟩
def SCN_ROWCHK_BUILD.CHK (n : Nat) : Field := ⟨0x40801000 + 4 * n, 0, 32, .ro, 0⟩
def SCN_ROWCHK_SHOWN.CHK (n : Nat) : Field := ⟨0x40802000 + 4 * n, 0, 32, .ro, 0⟩
def STR_CTRL.SOFTSTART_EN : Field := ⟨0x40900000, 0, 1, .rw, 1⟩
def STR_CTRL.VTRACK_EN : Field := ⟨0x40900000, 1, 1, .rw, 1⟩
def STR_STATUS.LIMP_ENGAGED : Field := ⟨0x40900004, 0, 1, .ro, 0⟩
def STR_STATUS.HEADROOM : Field := ⟨0x40900004, 1, 1, .ro, 0⟩
def STR_STATUS.PENDING : Field := ⟨0x40900004, 2, 1, .ro, 0⟩
def STR_STATUS.WORD_CLAMPED : Field := ⟨0x40900004, 3, 1, .w1c, 0⟩
def STR_STATUS.CLIP_SAT : Field := ⟨0x40900004, 4, 1, .w1c, 0⟩
def STR_STATUS.CLAMP_SAT : Field := ⟨0x40900004, 5, 1, .w1c, 0⟩
def STR_POWER_LIMIT.BUDGET : Field := ⟨0x40900008, 0, 9, .ro, 300⟩
def STR_POWER_LIMIT.LIMIT : Field := ⟨0x40900008, 9, 7, .ro, 100⟩
def STR_POWER_LIMIT.DROP : Field := ⟨0x40900008, 16, 6, .ro, 0⟩
def STR_POWER_LIMIT.VSET : Field := ⟨0x40900008, 22, 10, .ro, 300⟩
def STR_POWER_PENDING.BUDGET : Field := ⟨0x4090000C, 0, 9, .ro, 300⟩
def STR_POWER_PENDING.LIMIT : Field := ⟨0x4090000C, 9, 7, .ro, 100⟩
def STR_POWER_PENDING.DROP : Field := ⟨0x4090000C, 16, 6, .ro, 0⟩
def STR_POWER_PENDING.VSET : Field := ⟨0x4090000C, 22, 10, .ro, 300⟩
def STR_GAIN.G : Field := ⟨0x40900010, 0, 13, .ro, 4096⟩
def STR_GAIN.SOFT_J : Field := ⟨0x40900010, 16, 4, .ro, 8⟩
def STR_CHARGE_LO.SUM : Field := ⟨0x40900014, 0, 32, .ro, 0⟩
def STR_CHARGE_HI.SUM : Field := ⟨0x40900018, 0, 16, .ro, 0⟩
def STR_POWER_EST.MW : Field := ⟨0x4090001C, 0, 20, .ro, 0⟩
def STR_PEAK_CURRENT.MA : Field := ⟨0x40900020, 0, 16, .ro, 0⟩
def STR_CMPL_COUNT.COUNT : Field := ⟨0x40900024, 0, 18, .ro, 0⟩
def STR_VREG_MIN.V : Field := ⟨0x40900028, 0, 8, .ro, 255⟩
def STR_HEADROOM_CTRL.THRESH : Field := ⟨0x4090002C, 0, 8, .rw, 1⟩
def STR_HEADROOM_CTRL.VSTEP : Field := ⟨0x4090002C, 8, 8, .rw, 33⟩
def STR_HEADROOM_CTRL.RELEASE : Field := ⟨0x4090002C, 16, 8, .rw, 40⟩
def STR_HEADROOM_CTRL.TARGET : Field := ⟨0x4090002C, 24, 8, .rw, 80⟩
def STR_CLIP_COUNT.COUNT : Field := ⟨0x40900030, 0, 32, .ro, 0⟩
def STR_CLAMP_COUNT.COUNT : Field := ⟨0x40900034, 0, 32, .ro, 0⟩
def STR_LIMP_STATUS.CLASS : Field := ⟨0x40900038, 0, 6, .ro, 0⟩
def STR_LIMP_STATUS.LIT_BINS : Field := ⟨0x40900038, 6, 15, .ro, 0⟩
def STR_CMPL_TILE.MAP (n : Nat) : Field := ⟨0x40900040 + 4 * n, 0, 32, .ro, 0⟩
def CAL_CTRL.AUTO_EN : Field := ⟨0x40A00000, 0, 1, .rw, 1⟩
def CAL_CTRL.AUTO_INTERVAL : Field := ⟨0x40A00000, 8, 8, .rw, 50⟩
def CAL_STATUS.STATE : Field := ⟨0x40A00004, 0, 2, .ro, 0⟩
def CAL_STATUS.LAST_RESULT : Field := ⟨0x40A00004, 2, 3, .ro, 0⟩
def CAL_STATUS.LIST_FULL : Field := ⟨0x40A00004, 5, 1, .ro, 0⟩
def CAL_STATUS.SHIP_OK : Field := ⟨0x40A00004, 6, 1, .ro, 0⟩
def CAL_STATUS.FIELD_LIMIT : Field := ⟨0x40A00004, 7, 1, .rws, 0⟩
def CAL_STATUS.SPARE_ROWS_OUT : Field := ⟨0x40A00004, 8, 1, .ro, 0⟩
def CAL_STATUS.COUNT_SAT : Field := ⟨0x40A00004, 9, 1, .w1c, 0⟩
def CAL_COUNT.COUNT : Field := ⟨0x40A00008, 0, 32, .ro, 0⟩
def CAL_LAST_LO.TIME : Field := ⟨0x40A0000C, 0, 32, .ro, 0⟩
def CAL_LAST_HI.TIME : Field := ⟨0x40A00010, 0, 32, .ro, 0⟩
def CAL_LAST_INFO.QUALITY : Field := ⟨0x40A00014, 0, 2, .ro, 0⟩
def CAL_LAST_INFO.EPOCH : Field := ⟨0x40A00014, 16, 16, .ro, 0⟩
def CAL_SPARE_COUNT.COUNT : Field := ⟨0x40A00018, 0, 21, .ro, 0⟩
def CAL_DARK_COUNT.COUNT : Field := ⟨0x40A0001C, 0, 21, .ro, 0⟩
def CAL_WEAK_COUNT.COUNT : Field := ⟨0x40A00020, 0, 21, .ro, 0⟩
def CAL_CHROMA_OUT_COUNT.COUNT : Field := ⟨0x40A00024, 0, 21, .ro, 0⟩
def CAL_CONCEAL_COUNT.COUNT : Field := ⟨0x40A00028, 0, 21, .ro, 0⟩
def CAL_WINDOW.MASK : Field := ⟨0x40A0002C, 0, 16, .ro, 0⟩
def CAL_ZONE_COL.FIRST : Field := ⟨0x40A00030, 0, 11, .ro, 0⟩
def CAL_ZONE_COL.LAST : Field := ⟨0x40A00030, 16, 11, .ro, 0⟩
def CAL_ZONE_ROW.FIRST : Field := ⟨0x40A00034, 0, 9, .ro, 0⟩
def CAL_ZONE_ROW.LAST : Field := ⟨0x40A00034, 16, 9, .ro, 0⟩
def CAL_SRAM_SPARE.USED : Field := ⟨0x40A00038, 0, 9, .ro, 0⟩
def CAL_TILE_COPY.MAP (n : Nat) : Field := ⟨0x40A00040 + 4 * n, 0, 32, .ro, 0⟩
def CAL_REF_SEL.SEL (n : Nat) : Field := ⟨0x40A00060 + 4 * n, 0, 32, .ro, 0⟩
def DIAG_CTRL.FWD_EN : Field := ⟨0x40B00000, 0, 1, .rw, 1⟩
def DIAG_CTRL.PROBE_EN : Field := ⟨0x40B00000, 1, 1, .rw, 1⟩
def DIAG_CTRL.AUTO_REPAIR : Field := ⟨0x40B00000, 2, 1, .rw, 1⟩
def DIAG_STATUS.GROUP : Field := ⟨0x40B00004, 0, 7, .ro, 0⟩
def DIAG_STATUS.QUEUE : Field := ⟨0x40B00004, 7, 5, .ro, 0⟩
def DIAG_STATUS.HELD : Field := ⟨0x40B00004, 12, 1, .ro, 0⟩
def DIAG_STATUS.FIND_SAT : Field := ⟨0x40B00004, 13, 1, .w1c, 0⟩
def DIAG_STATUS.HINT_SAT : Field := ⟨0x40B00004, 14, 1, .w1c, 0⟩
def DIAG_STATUS.MISC_SAT : Field := ⟨0x40B00004, 15, 1, .w1c, 0⟩
def DIAG_SWEEP_COUNT.COUNT : Field := ⟨0x40B00008, 0, 32, .ro, 0⟩
def DIAG_OPEN_COUNT.COUNT : Field := ⟨0x40B0000C, 0, 32, .ro, 0⟩
def DIAG_LOW_COUNT.COUNT : Field := ⟨0x40B00010, 0, 32, .ro, 0⟩
def DIAG_STUCK_COUNT.COUNT : Field := ⟨0x40B00014, 0, 32, .ro, 0⟩
def DIAG_BRIDGE_COUNT.COUNT : Field := ⟨0x40B00018, 0, 32, .ro, 0⟩
def DIAG_HINT_COUNT.COUNT : Field := ⟨0x40B0001C, 0, 32, .ro, 0⟩
def DIAG_HINT_DROP_COUNT.COUNT : Field := ⟨0x40B00020, 0, 32, .ro, 0⟩
def DIAG_VOID_COUNT.COUNT : Field := ⟨0x40B00024, 0, 32, .ro, 0⟩
def DIAG_DEFER_COUNT.COUNT : Field := ⟨0x40B00028, 0, 32, .ro, 0⟩
def DIAG_STROUT_COUNT.COUNT : Field := ⟨0x40B0002C, 0, 18, .ro, 0⟩
def DIAG_LAST_SITE.INDEX : Field := ⟨0x40B00030, 0, 20, .ro, 0⟩
def DIAG_LAST_SITE.FINDING : Field := ⟨0x40B00030, 20, 3, .ro, 0⟩
def DIAG_LAST_SITE.EMITTER : Field := ⟨0x40B00030, 23, 1, .ro, 0⟩
def DIAG_LAST_SITE.SOURCE : Field := ⟨0x40B00030, 24, 2, .ro, 0⟩
def DIAG_LAST_SITE.ACTION : Field := ⟨0x40B00030, 26, 3, .ro, 0⟩
def DIAG_LAST_FRAME.COUNT : Field := ⟨0x40B00034, 0, 32, .ro, 0⟩
def DIAG_PAD_SHORT.MAP (n : Nat) : Field := ⟨0x40B00040 + 4 * n, 0, 32, .rws, 0⟩
def SNS_CTRL.ENABLE : Field := ⟨0x40B10000, 0, 4, .ro, 7⟩
def SNS_CTRL.ZONE_EN : Field := ⟨0x40B10000, 4, 8, .ro, 0⟩
def SNS_CTRL.BG_SHIFT : Field := ⟨0x40B10000, 12, 4, .ro, 10⟩
def SNS_THRESH.BRIGHT_THR : Field := ⟨0x40B10004, 0, 16, .ro, 128⟩
def SNS_THRESH.CHANGE_THR : Field := ⟨0x40B10004, 16, 16, .ro, 64⟩
def SNS_SSD.MARGIN : Field := ⟨0x40B10008, 0, 4, .ro, 1⟩
def SNS_SSD.LEVEL : Field := ⟨0x40B10008, 8, 8, .ro, 15⟩
def SNS_SSD.RELEASE : Field := ⟨0x40B10008, 16, 14, .ro, 1000⟩
def SNS_ZONE_CFG.CHANGE_COUNT : Field := ⟨0x40B1000C, 0, 7, .ro, 4⟩
def SNS_ZONE_CFG.PRESENCE_HOLD : Field := ⟨0x40B1000C, 16, 12, .ro, 60⟩
def SNS_STATUS.LIMP : Field := ⟨0x40B10010, 0, 1, .ro, 0⟩
def SNS_STATUS.SSD_ACTIVE : Field := ⟨0x40B10010, 1, 1, .ro, 0⟩
def SNS_STATUS.BRIGHT_ANY : Field := ⟨0x40B10010, 2, 1, .ro, 0⟩
def SNS_STATUS.UNSTEADY : Field := ⟨0x40B10010, 3, 1, .ro, 0⟩
def SNS_STATUS.PRESENCE : Field := ⟨0x40B10010, 4, 8, .ro, 0⟩
def SNS_STATUS.SEQ_WRAP : Field := ⟨0x40B10010, 12, 1, .w1c, 0⟩
def SNS_SEQ.SEQ : Field := ⟨0x40B10014, 0, 32, .ro, 0⟩
def SNS_AMB_MEAN.CODE : Field := ⟨0x40B10018, 0, 12, .ro, 0⟩
def SNS_BRIGHT_COUNT.COUNT : Field := ⟨0x40B1001C, 0, 15, .ro, 0⟩
def SNS_ZONE_RECT.COL_FIRST (n : Nat) : Field := ⟨0x40B10020 + 4 * n, 0, 8, .ro, 0⟩
def SNS_ZONE_RECT.COL_LAST (n : Nat) : Field := ⟨0x40B10020 + 4 * n, 8, 8, .ro, 0⟩
def SNS_ZONE_RECT.ROW_FIRST (n : Nat) : Field := ⟨0x40B10020 + 4 * n, 16, 6, .ro, 0⟩
def SNS_ZONE_RECT.ROW_LAST (n : Nat) : Field := ⟨0x40B10020 + 4 * n, 24, 6, .ro, 0⟩
def SNS_ZONE_LEVEL.CODE (n : Nat) : Field := ⟨0x40B10040 + 4 * n, 0, 12, .ro, 0⟩
def SNS_ZONE_LEVEL.PRESENT (n : Nat) : Field := ⟨0x40B10040 + 4 * n, 16, 1, .ro, 0⟩
def SAF_STATUS.LOCKED_OUT : Field := ⟨0x40C00000, 0, 1, .ro, 0⟩
def SAF_STATUS.COMMISSIONED : Field := ⟨0x40C00000, 1, 1, .ro, 0⟩
def SAF_STATUS.SP_CONFIRMED : Field := ⟨0x40C00000, 2, 1, .ro, 0⟩
def SAF_STATUS.MAP_MATCH : Field := ⟨0x40C00000, 3, 1, .ro, 0⟩
def SAF_STATUS.PERMIT : Field := ⟨0x40C00000, 4, 1, .ro, 0⟩
def SAF_STATUS.KS_ALLOW : Field := ⟨0x40C00000, 5, 1, .ro, 0⟩
def SAF_STATUS.COVERING : Field := ⟨0x40C00000, 6, 1, .ro, 0⟩
def SAF_STATUS.SP_LIMP : Field := ⟨0x40C00000, 7, 1, .ro, 0⟩
def SAF_STATUS.SAFE_STATE : Field := ⟨0x40C00000, 8, 1, .ro, 1⟩
def SAF_STATUS.ARMED : Field := ⟨0x40C00000, 9, 1, .ro, 0⟩
def SAF_STATUS.CUTOFF_ARMED : Field := ⟨0x40C00000, 10, 1, .ro, 0⟩
def SAF_STATUS.CONFIG_OK : Field := ⟨0x40C00000, 11, 1, .ro, 0⟩
def SAF_STATUS.CNT_SAT : Field := ⟨0x40C00000, 12, 1, .w1c, 0⟩
def SAF_INPUTS.RAW_A : Field := ⟨0x40C00004, 0, 4, .ro, 0⟩
def SAF_INPUTS.RAW_B : Field := ⟨0x40C00004, 4, 4, .ro, 0⟩
def SAF_INPUTS.HPERM : Field := ⟨0x40C00004, 8, 1, .ro, 0⟩
def SAF_INPUTS.LIMP : Field := ⟨0x40C00004, 9, 1, .ro, 0⟩
def SAF_INPUTS.DISC : Field := ⟨0x40C00004, 10, 2, .ro, 0⟩
def SAF_KS_STATUS.TEMP_HIGH : Field := ⟨0x40C00008, 0, 8, .ro, 0⟩
def SAF_KS_STATUS.TEMP_CUT : Field := ⟨0x40C00008, 8, 8, .ro, 0⟩
def SAF_KS_STATUS.VSTR_OVER : Field := ⟨0x40C00008, 16, 1, .ro, 0⟩
def SAF_KS_STATUS.HB_FAULT : Field := ⟨0x40C00008, 17, 1, .ro, 0⟩
def SAF_KS_STATUS.KS_COPY : Field := ⟨0x40C00008, 18, 1, .ro, 0⟩
def SAF_KS_STATUS.TRIP_ROW : Field := ⟨0x40C00008, 23, 9, .ro, 0⟩
def SAF_LOCKOUT.CAUSE : Field := ⟨0x40C0000C, 0, 8, .ro, 0⟩
def SAF_LOCKOUT.CHANNEL : Field := ⟨0x40C0000C, 8, 2, .ro, 0⟩
def SAF_LOCKOUT.LIMP_PATH : Field := ⟨0x40C0000C, 10, 1, .ro, 0⟩
def SAF_LOCKOUT.QUALITY : Field := ⟨0x40C0000C, 11, 2, .ro, 0⟩
def SAF_LOCKOUT.EPOCH : Field := ⟨0x40C0000C, 16, 16, .ro, 0⟩
def SAF_LOCKOUT_TIME_LO.TIME : Field := ⟨0x40C00010, 0, 32, .ro, 0⟩
def SAF_LOCKOUT_TIME_HI.TIME : Field := ⟨0x40C00014, 0, 32, .ro, 0⟩
def SAF_PARAM_CRC.CRC : Field := ⟨0x40C00018, 0, 32, .ro, 0⟩
def SAF_KS_CRC.CRC : Field := ⟨0x40C0001C, 0, 32, .ro, 0⟩
def SAF_CUTOFF.SET : Field := ⟨0x40C00020, 0, 1, .ro, 0⟩
def SAF_CUTOFF.PENDING : Field := ⟨0x40C00020, 1, 1, .ro, 0⟩
def SAF_HB.INTERVAL : Field := ⟨0x40C00024, 0, 16, .ro, 0⟩
def SAF_SP_DIGEST.BYTES (n : Nat) : Field := ⟨0x40C00040 + 4 * n, 0, 32, .ro, 0⟩
def SAF_COMMISSION_COUNT.COUNT : Field := ⟨0x40C00060, 0, 32, .ro, 0⟩
def SAF_LOCKOUT_COUNT.COUNT : Field := ⟨0x40C00064, 0, 32, .ro, 0⟩
def SAF_OUTPUT_ERR_COUNT.COUNT : Field := ⟨0x40C00068, 0, 32, .ro, 0⟩
def SAF_CHANGE_MISS_COUNT.COUNT : Field := ⟨0x40C0006C, 0, 32, .ro, 0⟩
def SAF_COVER_COUNT.COUNT : Field := ⟨0x40C00070, 0, 32, .ro, 0⟩
def SAF_SP_LIMP_COUNT.COUNT : Field := ⟨0x40C00074, 0, 32, .ro, 0⟩
def SAF_BOX0.COL_FIRST (n : Nat) : Field := ⟨0x40C10000 + 8 * n, 0, 11, .ro, 0⟩
def SAF_BOX0.COL_LAST (n : Nat) : Field := ⟨0x40C10000 + 8 * n, 16, 11, .ro, 0⟩
def SAF_BOX0.VALID (n : Nat) : Field := ⟨0x40C10000 + 8 * n, 31, 1, .ro, 0⟩
def SAF_BOX1.ROW_FIRST (n : Nat) : Field := ⟨0x40C10004 + 8 * n, 0, 9, .ro, 0⟩
def SAF_BOX1.ROW_LAST (n : Nat) : Field := ⟨0x40C10004 + 8 * n, 16, 9, .ro, 0⟩
def SAF_BOX_MAX.MAX (n : Nat) : Field := ⟨0x40C10400 + 4 * n, 0, 16, .ro, 0⟩
def SAF_BOX_MAX.OVER (n : Nat) : Field := ⟨0x40C10400 + 4 * n, 16, 1, .ro, 0⟩
def SAF_ROW_Q.Q (n : Nat) : Field := ⟨0x40C10800 + 4 * n, 0, 25, .ro, 0⟩
def TMP_STATUS.STATE : Field := ⟨0x40D00000, 0, 2, .ro, 0⟩
def TMP_STATUS.LIMIT : Field := ⟨0x40D00000, 2, 7, .ro, 100⟩
def TMP_STATUS.BOOST : Field := ⟨0x40D00000, 9, 1, .ro, 0⟩
def TMP_STATUS.HOT_TILE : Field := ⟨0x40D00000, 10, 8, .ro, 0⟩
def TMP_STATUS.SUSPECT_ANY : Field := ⟨0x40D00000, 18, 1, .ro, 0⟩
def TMP_STATUS.CNT_SAT : Field := ⟨0x40D00000, 19, 1, .w1c, 0⟩
def TMP_STATUS.SWEEP_WRAP : Field := ⟨0x40D00000, 20, 1, .w1c, 0⟩
def TMP_HOT.THETA : Field := ⟨0x40D00004, 0, 16, .ro, 0⟩
def TMP_HOT.RATE : Field := ⟨0x40D00004, 16, 16, .ro, 0⟩
def TMP_POLICY_T.STEP_HI : Field := ⟨0x40D00008, 0, 16, .ro, 1250⟩
def TMP_POLICY_T.STEP_LO : Field := ⟨0x40D00008, 16, 16, .ro, 1150⟩
def TMP_POLICY_S.STOP_T : Field := ⟨0x40D0000C, 0, 16, .ro, 1450⟩
def TMP_POLICY_S.STOP_LEVEL : Field := ⟨0x40D0000C, 16, 16, .ro, 12000⟩
def TMP_POLICY_B.BOOST_BUDGET : Field := ⟨0x40D00010, 0, 9, .ro, 400⟩
def TMP_POLICY_B.FLOOR : Field := ⟨0x40D00010, 9, 7, .ro, 25⟩
def TMP_POLICY_B.STOP_EN : Field := ⟨0x40D00010, 16, 1, .ro, 1⟩
def TMP_BOOST.BOOST_MS : Field := ⟨0x40D00014, 0, 14, .ro, 10000⟩
def TMP_BOOST.BOOST_COOL : Field := ⟨0x40D00014, 16, 12, .ro, 60⟩
def TMP_MODEL.K : Field := ⟨0x40D00018, 0, 9, .ro, 80⟩
def TMP_SWEEP.SEQ : Field := ⟨0x40D0001C, 0, 16, .ro, 0⟩
def TMP_SWEEP.AGE : Field := ⟨0x40D0001C, 16, 16, .ro, 65535⟩
def TMP_SWEEP_COUNT.COUNT : Field := ⟨0x40D00020, 0, 32, .ro, 0⟩
def TMP_STEP_COUNT.COUNT : Field := ⟨0x40D00024, 0, 32, .ro, 0⟩
def TMP_STOP_COUNT.COUNT : Field := ⟨0x40D00028, 0, 32, .ro, 0⟩
def TMP_BOOST_COUNT.COUNT : Field := ⟨0x40D0002C, 0, 32, .ro, 0⟩
def TMP_SUSPECT_COUNT.COUNT : Field := ⟨0x40D00030, 0, 32, .ro, 0⟩
def TMP_SENSOR.CODE (n : Nat) : Field := ⟨0x40D00040 + 4 * n, 0, 12, .ro, 0⟩
def TMP_SENSOR.SUSPECT (n : Nat) : Field := ⟨0x40D00040 + 4 * n, 12, 1, .ro, 0⟩
def TMP_SENSOR.DISAGREE (n : Nat) : Field := ⟨0x40D00040 + 4 * n, 13, 1, .ro, 0⟩
def TMP_TILE.THETA (n : Nat) : Field := ⟨0x40D01000 + 4 * n, 0, 16, .ro, 0⟩
def TMP_TILE.PT (n : Nat) : Field := ⟨0x40D01000 + 4 * n, 16, 16, .ro, 0⟩
def BST_CTRL.STARTUP_LBIST_EN : Field := ⟨0x40E00000, 0, 1, .rw, 1⟩
def BST_CTRL.REUSE_EN : Field := ⟨0x40E00000, 1, 1, .rw, 1⟩
def BST_STATUS.RUNNING : Field := ⟨0x40E00004, 0, 1, .ro, 0⟩
def BST_STATUS.ENGINE : Field := ⟨0x40E00004, 1, 1, .ro, 0⟩
def BST_STATUS.ITEM : Field := ⟨0x40E00004, 2, 3, .ro, 0⟩
def BST_STATUS.ORIGIN : Field := ⟨0x40E00004, 5, 2, .ro, 3⟩
def BST_STATUS.CNT_SAT : Field := ⟨0x40E00004, 7, 1, .w1c, 0⟩
def BST_ABIST_RESULT.VERDICT : Field := ⟨0x40E00008, 21, 3, .ro, 0⟩
def BST_ABIST_RESULT.ORIGIN : Field := ⟨0x40E00008, 24, 2, .ro, 3⟩
def BST_ABIST_RESULT.ITEM (k : Nat) : Field := ⟨0x40E00008, 3 * k, 3, .ro, 0⟩
def BST_LBIST_RESULT.VERDICT : Field := ⟨0x40E0000C, 15, 3, .ro, 0⟩
def BST_LBIST_RESULT.ORIGIN : Field := ⟨0x40E0000C, 18, 2, .ro, 3⟩
def BST_LBIST_RESULT.UNIT (k : Nat) : Field := ⟨0x40E0000C, 3 * k, 3, .ro, 0⟩
def BST_PORT_OUT.PL_LANES : Field := ⟨0x40E00010, 0, 4, .ro, 0⟩
def BST_PORT_OUT.PL_PORT : Field := ⟨0x40E00010, 4, 1, .ro, 0⟩
def BST_PORT_OUT.CO_LANES : Field := ⟨0x40E00010, 5, 2, .ro, 0⟩
def BST_PORT_OUT.CO_PORT : Field := ⟨0x40E00010, 7, 1, .ro, 0⟩
def BST_SHUT_INFO.VERDICT : Field := ⟨0x40E00014, 0, 3, .ro, 0⟩
def BST_SHUT_INFO.SKIPPED : Field := ⟨0x40E00014, 3, 1, .ro, 0⟩
def BST_SHUT_INFO.CONSUMED : Field := ⟨0x40E00014, 4, 1, .ro, 0⟩
def BST_SHUT_INFO.VALID : Field := ⟨0x40E00014, 5, 1, .ro, 0⟩
def BST_SHUT_INFO.QUALITY : Field := ⟨0x40E00014, 6, 2, .ro, 0⟩
def BST_SHUT_INFO.EPOCH : Field := ⟨0x40E00014, 16, 16, .ro, 0⟩
def BST_SHUT_TIME_LO.TIME : Field := ⟨0x40E00018, 0, 32, .ro, 0⟩
def BST_SHUT_TIME_HI.TIME : Field := ⟨0x40E0001C, 0, 32, .ro, 0⟩
def BST_LBIST_SIG_LO.SIG (n : Nat) : Field := ⟨0x40E00040 + 8 * n, 0, 32, .ro, 0⟩
def BST_LBIST_SIG_HI.SIG (n : Nat) : Field := ⟨0x40E00044 + 8 * n, 0, 32, .ro, 0⟩
def BST_LBIST_PAT.COUNT (n : Nat) : Field := ⟨0x40E00080 + 4 * n, 0, 17, .ro, 0⟩
def BST_ABIST_COUNT.COUNT : Field := ⟨0x40E000A0, 0, 32, .ro, 0⟩
def BST_LBIST_COUNT.COUNT : Field := ⟨0x40E000A4, 0, 32, .ro, 0⟩
def BST_FAIL_COUNT.COUNT : Field := ⟨0x40E000A8, 0, 32, .ro, 0⟩
def BST_INCOMPLETE_COUNT.COUNT : Field := ⟨0x40E000AC, 0, 32, .ro, 0⟩
def BST_REUSE_COUNT.COUNT : Field := ⟨0x40E000B0, 0, 32, .ro, 0⟩
def UPD_CTRL.CONFIRM_WINDOW : Field := ⟨0x40F00000, 0, 11, .rw, 10⟩
def UPD_SESSION.TARGET : Field := ⟨0x40F00004, 0, 8, .ro, 255⟩
def UPD_SESSION.STATE : Field := ⟨0x40F00004, 8, 3, .ro, 0⟩
def UPD_SESSION.NEXT_SEQ : Field := ⟨0x40F00004, 16, 16, .ro, 0⟩
def UPD_RECEIVED.BYTES : Field := ⟨0x40F00008, 0, 20, .ro, 0⟩
def UPD_CORE.STATE (n : Nat) : Field := ⟨0x40F00010 + 4 * n, 0, 3, .ro, 0⟩
def UPD_CORE.ATTEMPTS (n : Nat) : Field := ⟨0x40F00010 + 4 * n, 3, 8, .ro, 0⟩
def UPD_CORE.EXPIRED (n : Nat) : Field := ⟨0x40F00010 + 4 * n, 11, 1, .ro, 0⟩
def UPD_CORE.MIGRATION_FAILED (n : Nat) : Field := ⟨0x40F00010 + 4 * n, 12, 1, .ro, 0⟩
def UPD_CORE.ARCHIVE (n : Nat) : Field := ⟨0x40F00010 + 4 * n, 13, 1, .ro, 0⟩
def UPD_CORE.OTP_ROLLBACK (n : Nat) : Field := ⟨0x40F00010 + 4 * n, 14, 6, .ro, 0⟩
def UPD_NVM_VER.VERSION (n : Nat) : Field := ⟨0x40F00020 + 4 * n, 0, 32, .ro, 0⟩
def UPD_RUN_VER.VERSION (n : Nat) : Field := ⟨0x40F00030 + 4 * n, 0, 32, .ro, 0⟩
def UPD_ARC_VER.VERSION (n : Nat) : Field := ⟨0x40F00040 + 4 * n, 0, 32, .ro, 0⟩
def UPD_WINDOW.LEFT (n : Nat) : Field := ⟨0x40F00050 + 4 * n, 0, 32, .ro, 0⟩
def UPD_FLAGS.CNT_SAT : Field := ⟨0x40F00060, 0, 1, .w1c, 0⟩
def UPD_CHUNK_ERR_COUNT.COUNT : Field := ⟨0x40F00080, 0, 32, .ro, 0⟩
def UPD_ACTIVATE_COUNT.COUNT : Field := ⟨0x40F00084, 0, 32, .ro, 0⟩
def UPD_AUTO_FALLBACK_COUNT.COUNT : Field := ⟨0x40F00088, 0, 32, .ro, 0⟩
def HST_CTRL.SPI_EN : Field := ⟨0x41000000, 0, 1, .rw, 1⟩
def HST_CTRL.CAN_EN : Field := ⟨0x41000000, 1, 1, .rw, 1⟩
def HST_CTRL.T1S_EN : Field := ⟨0x41000000, 2, 1, .rw, 1⟩
def HST_CTRL.DALI_EN : Field := ⟨0x41000000, 3, 1, .rw, 0⟩
def HST_SPI_CFG.ADDR : Field := ⟨0x41000004, 0, 7, .rw, 42⟩
def HST_CAN_CFG.IDE : Field := ⟨0x41000008, 0, 1, .rw, 0⟩
def HST_CAN_CFG.DATA_RATE : Field := ⟨0x41000008, 1, 3, .rw, 2⟩
def HST_CAN_ID_RX.ID : Field := ⟨0x4100000C, 0, 29, .rw, 1728⟩
def HST_CAN_ID_TX.ID : Field := ⟨0x41000010, 0, 29, .rw, 1736⟩
def HST_CAN_STATUS.STATE : Field := ⟨0x41000014, 0, 2, .ro, 0⟩
def HST_CAN_STATUS.TEC : Field := ⟨0x41000014, 8, 8, .ro, 0⟩
def HST_CAN_STATUS.REC : Field := ⟨0x41000014, 16, 8, .ro, 0⟩
def HST_T1S_PLCA.EN : Field := ⟨0x41000018, 0, 1, .rw, 1⟩
def HST_T1S_PLCA.NODE_ID : Field := ⟨0x41000018, 8, 8, .rw, 1⟩
def HST_T1S_PLCA.NODE_COUNT : Field := ⟨0x41000018, 16, 8, .rw, 8⟩
def HST_T1S_PLCA.TO_TIMER : Field := ⟨0x41000018, 24, 8, .rw, 32⟩
def HST_T1S_BURST.MAX_BURST : Field := ⟨0x4100001C, 0, 8, .rw, 0⟩
def HST_T1S_BURST.BURST_TIMER : Field := ⟨0x4100001C, 8, 8, .rw, 128⟩
def HST_T1S_STATUS.PLCA_OK : Field := ⟨0x41000020, 0, 1, .ro, 0⟩
def HST_T1S_STATUS.MODE : Field := ⟨0x41000020, 1, 1, .ro, 0⟩
def HST_T1S_STATUS.COORD : Field := ⟨0x41000020, 2, 1, .ro, 0⟩
def HST_DALI_STATUS.SHORT_ADDR : Field := ⟨0x41000024, 0, 7, .ro, 127⟩
def HST_DALI_STATUS.ACTUAL : Field := ⟨0x41000024, 8, 8, .ro, 0⟩
def HST_DALI_STATUS.SCENE : Field := ⟨0x41000024, 16, 4, .ro, 0⟩
def HST_DALI_STATUS.SYS_FAIL : Field := ⟨0x41000024, 20, 1, .ro, 0⟩
def HST_DALI_STATUS.CURVE : Field := ⟨0x41000024, 21, 1, .ro, 0⟩
def HST_FLAGS.CNT_SAT : Field := ⟨0x41000028, 0, 1, .w1c, 0⟩
def HST_SPI_FRAME_ERR_COUNT.COUNT : Field := ⟨0x41000040, 0, 32, .ro, 0⟩
def HST_SPI_OVERRUN_COUNT.COUNT : Field := ⟨0x41000044, 0, 32, .ro, 0⟩
def HST_SPI_SHORT_READ_COUNT.COUNT : Field := ⟨0x41000048, 0, 32, .ro, 0⟩
def HST_SPI_TIMEOUT_COUNT.COUNT : Field := ⟨0x4100004C, 0, 32, .ro, 0⟩
def HST_CAN_RX_COUNT.COUNT : Field := ⟨0x41000050, 0, 32, .ro, 0⟩
def HST_CAN_SEG_ERR_COUNT.COUNT : Field := ⟨0x41000054, 0, 32, .ro, 0⟩
def HST_CAN_FMT_ERR_COUNT.COUNT : Field := ⟨0x41000058, 0, 32, .ro, 0⟩
def HST_CAN_FRAME_ERR_COUNT.COUNT : Field := ⟨0x4100005C, 0, 32, .ro, 0⟩
def HST_CAN_OVERRUN_COUNT.COUNT : Field := ⟨0x41000060, 0, 32, .ro, 0⟩
def HST_CAN_BUSOFF_COUNT.COUNT : Field := ⟨0x41000064, 0, 32, .ro, 0⟩
def HST_T1S_RX_COUNT.COUNT : Field := ⟨0x41000068, 0, 32, .ro, 0⟩
def HST_T1S_FOREIGN_COUNT.COUNT : Field := ⟨0x4100006C, 0, 32, .ro, 0⟩
def HST_T1S_OTHER_COUNT.COUNT : Field := ⟨0x41000070, 0, 32, .ro, 0⟩
def HST_T1S_FCS_ERR_COUNT.COUNT : Field := ⟨0x41000074, 0, 32, .ro, 0⟩
def HST_T1S_OVERRUN_COUNT.COUNT : Field := ⟨0x41000078, 0, 32, .ro, 0⟩
def HST_T1S_COLL_COUNT.COUNT : Field := ⟨0x4100007C, 0, 32, .ro, 0⟩
def HST_T1S_NOISE_COUNT.COUNT : Field := ⟨0x41000080, 0, 32, .ro, 0⟩
def HST_T1S_PLCA_LOSS_COUNT.COUNT : Field := ⟨0x41000084, 0, 32, .ro, 0⟩
def HST_DALI_RX_COUNT.COUNT : Field := ⟨0x41000088, 0, 32, .ro, 0⟩
def HST_DALI_ERR_COUNT.COUNT : Field := ⟨0x4100008C, 0, 32, .ro, 0⟩
def HST_LEGACY_ERR_COUNT.COUNT : Field := ⟨0x41000090, 0, 32, .ro, 0⟩

end Reg

/-- The registers of the SYS_ region. -/
def regsSYS : List RegFamily :=
  [⟨0x40000000, 0, 1, [Reg.SYS_STATE.POWER, Reg.SYS_STATE.MODE, Reg.SYS_STATE.LIFECYCLE, Reg.SYS_STATE.POSITION, Reg.SYS_STATE.VARIANT]⟩,
    ⟨0x40000004, 0, 1, [Reg.SYS_RESET_CAUSE.CAUSE, Reg.SYS_RESET_CAUSE.COUNT]⟩,
    ⟨0x40000008, 0, 1, [Reg.SYS_NODE_TAG.TAG]⟩,
    ⟨0x4000000C, 0, 1, [Reg.SYS_FLASH_PAGE.PAGE]⟩,
    ⟨0x40000010, 0, 1, [Reg.SYS_EVENT_ROUTE.ROUTE]⟩,
    ⟨0x40000014, 0, 1, [Reg.SYS_FLAGS.CNT_SAT, Reg.SYS_FLAGS.EVT_LOST]⟩,
    ⟨0x40000020, 0, 1, [Reg.SYS_CMD_COUNT.COUNT]⟩,
    ⟨0x40000024, 0, 1, [Reg.SYS_ERR_COUNT.COUNT]⟩,
    ⟨0x40000028, 0, 1, [Reg.SYS_DUP_COUNT.COUNT]⟩,
    ⟨0x4000002C, 0, 1, [Reg.SYS_FRAG_ABANDON_COUNT.COUNT]⟩,
    ⟨0x40000030, 0, 1, [Reg.SYS_EVENT_DROP_COUNT.COUNT]⟩]

/-- The registers of the PWR_ region. -/
def regsPWR : List RegFamily :=
  [⟨0x40100000, 0, 1, [Reg.PWR_STATE.POWER, Reg.PWR_STATE.STEP, Reg.PWR_STATE.WAKE, Reg.PWR_STATE.SERVICE, Reg.PWR_STATE.TARGET, Reg.PWR_STATE.SHUTDOWN, Reg.PWR_STATE.CNT_SAT]⟩,
    ⟨0x40100004, 0, 1, [Reg.PWR_WAKE_CFG.SOURCES, Reg.PWR_WAKE_CFG.WAKE_ADDR, Reg.PWR_WAKE_CFG.SERVICE_IDLE]⟩,
    ⟨0x40100008, 0, 1, [Reg.PWR_WAKE_TARGET.SPI, Reg.PWR_WAKE_TARGET.ALARM, Reg.PWR_WAKE_TARGET.INPUTS, Reg.PWR_WAKE_TARGET.DALI]⟩,
    ⟨0x4010000C, 0, 1, [Reg.PWR_WAKE_CAUSE.CAUSE, Reg.PWR_WAKE_CAUSE.INPUTS]⟩,
    ⟨0x40100010, 0, 1, [Reg.PWR_DOMAIN.ON]⟩,
    ⟨0x40100014, 0, 1, [Reg.PWR_BANK_STATE_LO.BANK 0, Reg.PWR_BANK_STATE_LO.BANK 1, Reg.PWR_BANK_STATE_LO.BANK 2, Reg.PWR_BANK_STATE_LO.BANK 3, Reg.PWR_BANK_STATE_LO.BANK 4, Reg.PWR_BANK_STATE_LO.BANK 5, Reg.PWR_BANK_STATE_LO.BANK 6, Reg.PWR_BANK_STATE_LO.BANK 7, Reg.PWR_BANK_STATE_LO.BANK 8, Reg.PWR_BANK_STATE_LO.BANK 9, Reg.PWR_BANK_STATE_LO.BANK 10, Reg.PWR_BANK_STATE_LO.BANK 11, Reg.PWR_BANK_STATE_LO.BANK 12, Reg.PWR_BANK_STATE_LO.BANK 13, Reg.PWR_BANK_STATE_LO.BANK 14, Reg.PWR_BANK_STATE_LO.BANK 15]⟩,
    ⟨0x40100018, 0, 1, [Reg.PWR_BANK_STATE_HI.BANK 0, Reg.PWR_BANK_STATE_HI.BANK 1, Reg.PWR_BANK_STATE_HI.BANK 2, Reg.PWR_BANK_STATE_HI.BANK 3, Reg.PWR_BANK_STATE_HI.BANK 4, Reg.PWR_BANK_STATE_HI.BANK 5, Reg.PWR_BANK_STATE_HI.BANK 6, Reg.PWR_BANK_STATE_HI.BANK 7, Reg.PWR_BANK_STATE_HI.BANK 8, Reg.PWR_BANK_STATE_HI.BANK 9, Reg.PWR_BANK_STATE_HI.BANK 10, Reg.PWR_BANK_STATE_HI.BANK 11, Reg.PWR_BANK_STATE_HI.BANK 12, Reg.PWR_BANK_STATE_HI.BANK 13, Reg.PWR_BANK_STATE_HI.BANK 14, Reg.PWR_BANK_STATE_HI.BANK 15]⟩,
    ⟨0x4010001C, 0, 1, [Reg.PWR_RET_MASK.MASK]⟩,
    ⟨0x40100020, 0, 1, [Reg.PWR_RET_RESULT.INVALID]⟩,
    ⟨0x40100024, 0, 1, [Reg.PWR_RET_INFO.VFLAG, Reg.PWR_RET_INFO.IMAGE_BAD, Reg.PWR_RET_INFO.CORE_BAD]⟩,
    ⟨0x40100028, 0, 1, [Reg.PWR_SUPPLY.WARN_NOW, Reg.PWR_SUPPLY.WARN_SEEN]⟩,
    ⟨0x4010002C, 0, 1, [Reg.PWR_MEAS_CTRL.SUPPLY, Reg.PWR_MEAS_CTRL.START, Reg.PWR_MEAS_CTRL.BUSY]⟩]
  ++ [⟨0x40100030, 0, 1, [Reg.PWR_MEAS_RESULT.MV, Reg.PWR_MEAS_RESULT.SUPPLY, Reg.PWR_MEAS_RESULT.VALID]⟩,
    ⟨0x40100034, 0, 1, [Reg.PWR_TIME_LO.TIME]⟩,
    ⟨0x40100038, 0, 1, [Reg.PWR_TIME_HI.TIME]⟩,
    ⟨0x4010003C, 0, 1, [Reg.PWR_TIME_STATUS.QUALITY, Reg.PWR_TIME_STATUS.XTAL, Reg.PWR_TIME_STATUS.SRC_CHANGE, Reg.PWR_TIME_STATUS.COMP_FROZEN, Reg.PWR_TIME_STATUS.EPOCH]⟩,
    ⟨0x40100040, 0, 1, [Reg.PWR_TIME_ERR.ERR]⟩,
    ⟨0x40100044, 0, 1, [Reg.PWR_ALARM_LO.ALARM]⟩,
    ⟨0x40100048, 0, 1, [Reg.PWR_ALARM_HI.ALARM]⟩,
    ⟨0x4010004C, 0, 1, [Reg.PWR_RET_COUNT.COUNT]⟩,
    ⟨0x40100060, 0, 1, [Reg.PWR_WAKE_COUNT.COUNT]⟩,
    ⟨0x40100064, 0, 1, [Reg.PWR_ABANDON_COUNT.COUNT]⟩,
    ⟨0x40100068, 0, 1, [Reg.PWR_ONDEMAND_COUNT.COUNT]⟩,
    ⟨0x4010006C, 0, 1, [Reg.PWR_REBUILD_COUNT.COUNT]⟩]
  ++ [⟨0x40100070, 0, 1, [Reg.PWR_XTAL_LOSS_COUNT.COUNT]⟩]

/-- The registers of the FLT_ region. -/
def regsFLT : List RegFamily :=
  [⟨0x40200000, 0, 1, [Reg.FLT_STATUS.UNCLEARED, Reg.FLT_STATUS.FIRST_VALID, Reg.FLT_STATUS.WINDOW, Reg.FLT_STATUS.PULSE_MODE, Reg.FLT_STATUS.HIGHEST, Reg.FLT_STATUS.KILN_HEAD, Reg.FLT_STATUS.KILN_COUNT, Reg.FLT_STATUS.SEQ_WRAP, Reg.FLT_STATUS.CNT_SAT, Reg.FLT_STATUS.PLOG_WRAP]⟩,
    ⟨0x40200004, 0, 1, [Reg.FLT_POLICY.FIRST_MIN, Reg.FLT_POLICY.EVENT_CLASSES, Reg.FLT_POLICY.HOLD]⟩,
    ⟨0x40200008, 0, 1, [Reg.FLT_IRQ_EN.EN]⟩,
    ⟨0x4020000C, 0, 1, [Reg.FLT_IRQ_STATUS.CAUSE]⟩,
    ⟨0x40200010, 0, 1, [Reg.FLT_FAULTN.LEVEL, Reg.FLT_FAULTN.PIN]⟩,
    ⟨0x40200014, 0, 1, [Reg.FLT_INJECT.CHECKER, Reg.FLT_INJECT.ARMED, Reg.FLT_INJECT.REMAIN]⟩,
    ⟨0x40200020, 0, 1, [Reg.FLT_FIRST_ID.SEQ, Reg.FLT_FIRST_ID.SOURCE, Reg.FLT_FIRST_ID.CLASS, Reg.FLT_FIRST_ID.MASTER]⟩,
    ⟨0x40200024, 0, 1, [Reg.FLT_FIRST_INFO.ACCESS, Reg.FLT_FIRST_INFO.REACTION, Reg.FLT_FIRST_INFO.HIGHEST, Reg.FLT_FIRST_INFO.INJECTED, Reg.FLT_FIRST_INFO.RESTORED, Reg.FLT_FIRST_INFO.STANDING, Reg.FLT_FIRST_INFO.MERGES]⟩,
    ⟨0x40200028, 0, 1, [Reg.FLT_FIRST_ADDR.ADDRESS]⟩,
    ⟨0x4020002C, 0, 1, [Reg.FLT_FIRST_TIME_LO.TIME]⟩,
    ⟨0x40200030, 0, 1, [Reg.FLT_FIRST_TIME_HI.TIME]⟩,
    ⟨0x40200034, 0, 1, [Reg.FLT_FIRST_EPOCH.EPOCH, Reg.FLT_FIRST_EPOCH.QUALITY]⟩]
  ++ [⟨0x40200040, 0, 1, [Reg.FLT_CORRECTED_COUNT.COUNT]⟩,
    ⟨0x40200044, 0, 1, [Reg.FLT_CONTAINED_COUNT.COUNT]⟩,
    ⟨0x40200048, 0, 1, [Reg.FLT_FATAL_COUNT.COUNT]⟩,
    ⟨0x4020004C, 0, 1, [Reg.FLT_SHADOW_COUNT.COUNT]⟩,
    ⟨0x40200050, 0, 1, [Reg.FLT_MERGE_COUNT.COUNT]⟩,
    ⟨0x40200054, 0, 1, [Reg.FLT_PULSE_DROP_COUNT.COUNT]⟩,
    ⟨0x40200058, 0, 1, [Reg.FLT_PLOG_SEQ.SEQ]⟩]

/-- The registers of the CHK_ region. -/
def regsCHK : List RegFamily :=
  [⟨0x40300000, 64, 4, [Reg.CHK_CTRL.POLY 0, Reg.CHK_CTRL.FOLD_EN 0, Reg.CHK_CTRL.COMPARE 0, Reg.CHK_CTRL.GO 0, Reg.CHK_CTRL.ABORT 0]⟩,
    ⟨0x40300004, 64, 4, [Reg.CHK_STATUS.BUSY 0, Reg.CHK_STATUS.DONE 0, Reg.CHK_STATUS.MATCH 0, Reg.CHK_STATUS.ERROR 0, Reg.CHK_STATUS.GO_LOST 0, Reg.CHK_STATUS.INJECT 0]⟩,
    ⟨0x40300008, 64, 4, [Reg.CHK_START.ADDRESS 0]⟩,
    ⟨0x4030000C, 64, 4, [Reg.CHK_LENGTH.BYTES 0]⟩,
    ⟨0x40300010, 64, 4, [Reg.CHK_FOLD.FOLD 0]⟩,
    ⟨0x40300014, 64, 4, [Reg.CHK_EXPECT.VALUE 0]⟩,
    ⟨0x40300018, 64, 4, [Reg.CHK_RESULT.VALUE 0]⟩,
    ⟨0x40300100, 0, 1, [Reg.CHK_FLAGS.CNT_SAT]⟩,
    ⟨0x40300104, 0, 1, [Reg.CHK_CNT_CLEAR.ADDRESS]⟩,
    ⟨0x40300108, 0, 1, [Reg.CHK_XING_OVERRUN.MAP]⟩,
    ⟨0x4030010C, 0, 1, [Reg.CHK_XING_STALL.MAP]⟩,
    ⟨0x40300140, 4, 16, [Reg.CHK_XING_FLUSH.COUNT 0]⟩]

/-- The registers of the LNK_ region. -/
def regsLNK : List RegFamily :=
  [⟨0x40400000, 0, 1, [Reg.LNK_STATUS.STATE, Reg.LNK_STATUS.GEN, Reg.LNK_STATUS.LANES, Reg.LNK_STATUS.LOCK, Reg.LNK_STATUS.INPUT, Reg.LNK_STATUS.BC_OK, Reg.LNK_STATUS.HOLDOFF, Reg.LNK_STATUS.REF_FWD, Reg.LNK_STATUS.MAPPED_OUT, Reg.LNK_STATUS.CNT_SAT]⟩,
    ⟨0x40400004, 0, 1, [Reg.LNK_POLICY.FLAGS, Reg.LNK_POLICY.MAX_GEN, Reg.LNK_POLICY.MAX_LANES, Reg.LNK_POLICY.VELOCITY]⟩,
    ⟨0x40400008, 0, 1, [Reg.LNK_TIMING.HOLD_MS, Reg.LNK_TIMING.GAP_MS]⟩,
    ⟨0x4040000C, 0, 1, [Reg.LNK_CABLE.LENGTH, Reg.LNK_CABLE.GEN_LIMIT]⟩,
    ⟨0x40400010, 0, 1, [Reg.LNK_PARTNER.GENS, Reg.LNK_PARTNER.LANES, Reg.LNK_PARTNER.FORMATS, Reg.LNK_PARTNER.WIDTHS, Reg.LNK_PARTNER.PRESETS, Reg.LNK_PARTNER.MAX_RATE, Reg.LNK_PARTNER.VALID]⟩,
    ⟨0x40400014, 0, 1, [Reg.LNK_FOM.FOM 0, Reg.LNK_FOM.FOM 1, Reg.LNK_FOM.FOM 2, Reg.LNK_FOM.FOM 3]⟩,
    ⟨0x40400018, 0, 1, [Reg.LNK_SEQ.LAST, Reg.LNK_SEQ.RX]⟩,
    ⟨0x4040001C, 0, 1, [Reg.LNK_LAST_ERR.CAUSE, Reg.LNK_LAST_ERR.ROW]⟩,
    ⟨0x40400020, 4, 4, [Reg.LNK_EQ.CTLE 0, Reg.LNK_EQ.PRESET 0, Reg.LNK_EQ.DFE1 0, Reg.LNK_EQ.DFE2 0, Reg.LNK_EQ.DFE3 0]⟩,
    ⟨0x40400040, 0, 1, [Reg.LNK_FRAME_RX_COUNT.COUNT]⟩,
    ⟨0x40400044, 0, 1, [Reg.LNK_FRAME_ACCEPT_COUNT.COUNT]⟩,
    ⟨0x40400048, 0, 1, [Reg.LNK_FRAME_DROP_COUNT.COUNT]⟩]
  ++ [⟨0x4040004C, 0, 1, [Reg.LNK_FRAME_ERR_COUNT.COUNT]⟩,
    ⟨0x40400050, 0, 1, [Reg.LNK_FRAME_INCOMPLETE_COUNT.COUNT]⟩,
    ⟨0x40400054, 0, 1, [Reg.LNK_SEQ_GAP_COUNT.COUNT]⟩,
    ⟨0x40400058, 0, 1, [Reg.LNK_DUP_COUNT.COUNT]⟩,
    ⟨0x4040005C, 0, 1, [Reg.LNK_LOSS_COUNT.COUNT]⟩,
    ⟨0x40400060, 0, 1, [Reg.LNK_STEP_DOWN_COUNT.COUNT]⟩,
    ⟨0x40400064, 0, 1, [Reg.LNK_STEP_FAIL_COUNT.COUNT]⟩,
    ⟨0x40400068, 0, 1, [Reg.LNK_CODE_ERR_COUNT.COUNT]⟩,
    ⟨0x4040006C, 0, 1, [Reg.LNK_RS_CORR_COUNT.COUNT]⟩,
    ⟨0x40400070, 0, 1, [Reg.LNK_RS_UNCORR_COUNT.COUNT]⟩,
    ⟨0x40400074, 0, 1, [Reg.LNK_BC_ERR_COUNT.COUNT]⟩]

/-- The registers of the CAS_ region. -/
def regsCAS : List RegFamily :=
  [⟨0x40500000, 0, 1, [Reg.CAS_STATUS.POSITION, Reg.CAS_STATUS.FOLLOWER, Reg.CAS_STATUS.ALIGN, Reg.CAS_STATUS.ADMIT, Reg.CAS_STATUS.EPOCH, Reg.CAS_STATUS.HOP_GEN, Reg.CAS_STATUS.UP_OK]⟩,
    ⟨0x40500004, 0, 1, [Reg.CAS_MODE.MODE, Reg.CAS_MODE.CLONE, Reg.CAS_MODE.SLICE_MAP]⟩,
    ⟨0x40500008, 0, 1, [Reg.CAS_SHARE01.SHARE_0, Reg.CAS_SHARE01.SHARE_1]⟩,
    ⟨0x4050000C, 0, 1, [Reg.CAS_SHARE23.SHARE_2, Reg.CAS_SHARE23.SHARE_3]⟩,
    ⟨0x40500010, 0, 1, [Reg.CAS_PHASE.ERR]⟩,
    ⟨0x40500014, 0, 1, [Reg.CAS_FWD.ROW_MIN, Reg.CAS_FWD.MAX_RATE, Reg.CAS_FWD.QUEUE]⟩,
    ⟨0x40500018, 0, 1, [Reg.CAS_MEMBER.P 0, Reg.CAS_MEMBER.P 1, Reg.CAS_MEMBER.P 2, Reg.CAS_MEMBER.P 3]⟩,
    ⟨0x4050001C, 0, 1, [Reg.CAS_FLAGS.CNT_SAT]⟩,
    ⟨0x40500040, 0, 1, [Reg.CAS_MARK_MISS_COUNT.COUNT]⟩,
    ⟨0x40500044, 0, 1, [Reg.CAS_REALIGN_COUNT.COUNT]⟩,
    ⟨0x40500048, 0, 1, [Reg.CAS_FWD_COUNT.COUNT]⟩,
    ⟨0x4050004C, 0, 1, [Reg.CAS_FWD_ABORT_COUNT.COUNT]⟩]
  ++ [⟨0x40500050, 0, 1, [Reg.CAS_TAKE_MISS_COUNT.COUNT]⟩,
    ⟨0x40500054, 0, 1, [Reg.CAS_UP_ERR_COUNT.COUNT]⟩]

/-- The registers of the BEAM_ region. -/
def regsBEAM : List RegFamily :=
  [⟨0x40600000, 0, 1, [Reg.BEAM_CTRL.EXTRAP_MAX]⟩,
    ⟨0x40600004, 0, 1, [Reg.BEAM_STATUS.SOURCE, Reg.BEAM_STATUS.WATCH, Reg.BEAM_STATUS.MAP_VALID, Reg.BEAM_STATUS.LOADING, Reg.BEAM_STATUS.QUEUED, Reg.BEAM_STATUS.XFADE, Reg.BEAM_STATUS.BANK, Reg.BEAM_STATUS.STALE_RESIDENT, Reg.BEAM_STATUS.MARK_CLAMPED, Reg.BEAM_STATUS.CNT_SAT]⟩,
    ⟨0x40600008, 0, 1, [Reg.BEAM_PATTERN.CURRENT, Reg.BEAM_PATTERN.NEXT, Reg.BEAM_PATTERN.QUEUED_ID, Reg.BEAM_PATTERN.XFADE_K]⟩,
    ⟨0x4060000C, 0, 1, [Reg.BEAM_LIST_SEQ.LAST, Reg.BEAM_LIST_SEQ.PENDING]⟩,
    ⟨0x40600010, 0, 1, [Reg.BEAM_LIST_AGE.MS]⟩,
    ⟨0x40600014, 0, 1, [Reg.BEAM_LIST_COUNT.COUNT]⟩,
    ⟨0x40600018, 0, 1, [Reg.BEAM_LIST_ABANDON_COUNT.COUNT]⟩,
    ⟨0x4060001C, 0, 1, [Reg.BEAM_SUPERSEDED_COUNT.COUNT]⟩,
    ⟨0x40600020, 0, 1, [Reg.BEAM_EXTRAP_CLIP_COUNT.COUNT]⟩,
    ⟨0x40600024, 0, 1, [Reg.BEAM_FIELD_MAP_CHECK.CHK]⟩,
    ⟨0x40600028, 0, 1, [Reg.BEAM_FIELD_GRID_H.H0, Reg.BEAM_FIELD_GRID_H.DH]⟩,
    ⟨0x4060002C, 0, 1, [Reg.BEAM_FIELD_GRID_V.V0, Reg.BEAM_FIELD_GRID_V.DV]⟩]
  ++ [⟨0x40600030, 0, 1, [Reg.BEAM_WATCH.T1, Reg.BEAM_WATCH.T2]⟩,
    ⟨0x40600034, 0, 1, [Reg.BEAM_GROW.RATE, Reg.BEAM_GROW.MAX, Reg.BEAM_GROW.WATCH_EN]⟩,
    ⟨0x40600038, 0, 1, [Reg.BEAM_STALE.PATTERN, Reg.BEAM_STALE.FADE]⟩,
    ⟨0x4060003C, 0, 1, [Reg.BEAM_MARK_LIMIT.LIMIT]⟩,
    ⟨0x40600040, 4, 4, [Reg.BEAM_ACTIVE.MAP 0]⟩,
    ⟨0x40600050, 4, 4, [Reg.BEAM_RELEASING.MAP 0]⟩,
    ⟨0x40611000, 4, 128, [Reg.BEAM_CTX_STATE.STATE 0, Reg.BEAM_CTX_STATE.TYPE 0, Reg.BEAM_CTX_STATE.U 0, Reg.BEAM_CTX_STATE.LEVEL 0]⟩]

/-- The registers of the CMP_ region. -/
def regsCMP : List RegFamily :=
  [⟨0x40700000, 0, 1, [Reg.CMP_STATUS.BUILD, Reg.CMP_STATUS.QUEUED, Reg.CMP_STATUS.LIVE, Reg.CMP_STATUS.FRONT, Reg.CMP_STATUS.STATIC_LIVE, Reg.CMP_STATUS.CNT_SAT]⟩,
    ⟨0x40700004, 0, 1, [Reg.CMP_ENABLE.ENABLE, Reg.CMP_ENABLE.STATIC, Reg.CMP_ENABLE.RUN]⟩,
    ⟨0x40700008, 0, 1, [Reg.CMP_BUILD_COUNT.COUNT]⟩,
    ⟨0x4070000C, 0, 1, [Reg.CMP_LIVE_COUNT.COUNT]⟩,
    ⟨0x40700010, 0, 1, [Reg.CMP_SYM_CACHE.USED, Reg.CMP_SYM_CACHE.RESIDENT]⟩,
    ⟨0x40700014, 0, 1, [Reg.CMP_SYM_MISS_COUNT.COUNT]⟩,
    ⟨0x40700018, 0, 1, [Reg.CMP_SYM_EVICT_COUNT.COUNT]⟩,
    ⟨0x4070001C, 0, 1, [Reg.CMP_LIB_STATUS.FLASH, Reg.CMP_LIB_STATUS.DIR_VALID, Reg.CMP_LIB_STATUS.PATTERNS, Reg.CMP_LIB_STATUS.SYMBOLS, Reg.CMP_LIB_STATUS.RAM_STORE, Reg.CMP_LIB_STATUS.INSTALL]⟩,
    ⟨0x40700020, 0, 1, [Reg.CMP_LIB_ERR_COUNT.COUNT]⟩,
    ⟨0x40700024, 0, 1, [Reg.CMP_LEGACY_DROP_COUNT.COUNT]⟩,
    ⟨0x40700040, 4, 8, [Reg.CMP_LAYER_STATUS.FRONT_COPY 0, Reg.CMP_LAYER_STATUS.FLIP_PENDING 0, Reg.CMP_LAYER_STATUS.STAGED 0, Reg.CMP_LAYER_STATUS.LOST 0, Reg.CMP_LAYER_STATUS.SYMBOLS 0]⟩]

/-- The registers of the SCN_ region. -/
def regsSCN : List RegFamily :=
  [⟨0x40800000, 0, 1, [Reg.SCN_CTRL.SPLIT4, Reg.SCN_CTRL.CASC_TX_EN]⟩,
    ⟨0x40800004, 0, 1, [Reg.SCN_TICK.TICK]⟩,
    ⟨0x40800008, 0, 1, [Reg.SCN_FRAME_PERIOD.PERIOD]⟩,
    ⟨0x4080000C, 0, 1, [Reg.SCN_LOCK_CTRL.EN, Reg.SCN_LOCK_CTRL.OFFSET]⟩,
    ⟨0x40800010, 0, 1, [Reg.SCN_LOCK_STATUS.STATE, Reg.SCN_LOCK_STATUS.N, Reg.SCN_LOCK_STATUS.F, Reg.SCN_LOCK_STATUS.T]⟩,
    ⟨0x40800014, 0, 1, [Reg.SCN_LOCK_PHASE.ERR]⟩,
    ⟨0x40800018, 0, 1, [Reg.SCN_FRAME_COUNT.COUNT]⟩,
    ⟨0x4080001C, 0, 1, [Reg.SCN_STATUS.LB_LEVEL, Reg.SCN_STATUS.PRIO, Reg.SCN_STATUS.REPEAT_RUN, Reg.SCN_STATUS.LAST_SWAP, Reg.SCN_STATUS.HELD, Reg.SCN_STATUS.COUNT_WRAP, Reg.SCN_STATUS.ROW_REP_SAT, Reg.SCN_STATUS.FRAME_REP_SAT, Reg.SCN_STATUS.PRIO_SAT, Reg.SCN_STATUS.RELOAD_SAT, Reg.SCN_STATUS.D2D_SAT, Reg.SCN_STATUS.FREEZE]⟩,
    ⟨0x40800020, 0, 1, [Reg.SCN_ROW_REPEAT_COUNT.COUNT]⟩,
    ⟨0x40800024, 0, 1, [Reg.SCN_FRAME_REPEAT_COUNT.COUNT]⟩,
    ⟨0x40800028, 0, 1, [Reg.SCN_URGENT_COUNT.COUNT]⟩,
    ⟨0x4080002C, 0, 1, [Reg.SCN_CRITICAL_COUNT.COUNT]⟩]
  ++ [⟨0x40800030, 0, 1, [Reg.SCN_SIG_CONTENT.SIG]⟩,
    ⟨0x40800034, 0, 1, [Reg.SCN_SIG_WITNESS.SIG]⟩,
    ⟨0x40800038, 0, 1, [Reg.SCN_SIG_FRAME.COUNT]⟩,
    ⟨0x4080003C, 0, 1, [Reg.SCN_RELOAD_COUNT.COUNT]⟩,
    ⟨0x40800040, 0, 1, [Reg.SCN_D2D_ERR_COUNT.COUNT]⟩,
    ⟨0x40801000, 4, 512, [Reg.SCN_ROWCHK_BUILD.CHK 0]⟩,
    ⟨0x40802000, 4, 512, [Reg.SCN_ROWCHK_SHOWN.CHK 0]⟩]

/-- The registers of the STR_ region. -/
def regsSTR : List RegFamily :=
  [⟨0x40900000, 0, 1, [Reg.STR_CTRL.SOFTSTART_EN, Reg.STR_CTRL.VTRACK_EN]⟩,
    ⟨0x40900004, 0, 1, [Reg.STR_STATUS.LIMP_ENGAGED, Reg.STR_STATUS.HEADROOM, Reg.STR_STATUS.PENDING, Reg.STR_STATUS.WORD_CLAMPED, Reg.STR_STATUS.CLIP_SAT, Reg.STR_STATUS.CLAMP_SAT]⟩,
    ⟨0x40900008, 0, 1, [Reg.STR_POWER_LIMIT.BUDGET, Reg.STR_POWER_LIMIT.LIMIT, Reg.STR_POWER_LIMIT.DROP, Reg.STR_POWER_LIMIT.VSET]⟩,
    ⟨0x4090000C, 0, 1, [Reg.STR_POWER_PENDING.BUDGET, Reg.STR_POWER_PENDING.LIMIT, Reg.STR_POWER_PENDING.DROP, Reg.STR_POWER_PENDING.VSET]⟩,
    ⟨0x40900010, 0, 1, [Reg.STR_GAIN.G, Reg.STR_GAIN.SOFT_J]⟩,
    ⟨0x40900014, 0, 1, [Reg.STR_CHARGE_LO.SUM]⟩,
    ⟨0x40900018, 0, 1, [Reg.STR_CHARGE_HI.SUM]⟩,
    ⟨0x4090001C, 0, 1, [Reg.STR_POWER_EST.MW]⟩,
    ⟨0x40900020, 0, 1, [Reg.STR_PEAK_CURRENT.MA]⟩,
    ⟨0x40900024, 0, 1, [Reg.STR_CMPL_COUNT.COUNT]⟩,
    ⟨0x40900028, 0, 1, [Reg.STR_VREG_MIN.V]⟩,
    ⟨0x4090002C, 0, 1, [Reg.STR_HEADROOM_CTRL.THRESH, Reg.STR_HEADROOM_CTRL.VSTEP, Reg.STR_HEADROOM_CTRL.RELEASE, Reg.STR_HEADROOM_CTRL.TARGET]⟩]
  ++ [⟨0x40900030, 0, 1, [Reg.STR_CLIP_COUNT.COUNT]⟩,
    ⟨0x40900034, 0, 1, [Reg.STR_CLAMP_COUNT.COUNT]⟩,
    ⟨0x40900038, 0, 1, [Reg.STR_LIMP_STATUS.CLASS, Reg.STR_LIMP_STATUS.LIT_BINS]⟩,
    ⟨0x40900040, 4, 8, [Reg.STR_CMPL_TILE.MAP 0]⟩]

/-- The registers of the CAL_ region. -/
def regsCAL : List RegFamily :=
  [⟨0x40A00000, 0, 1, [Reg.CAL_CTRL.AUTO_EN, Reg.CAL_CTRL.AUTO_INTERVAL]⟩,
    ⟨0x40A00004, 0, 1, [Reg.CAL_STATUS.STATE, Reg.CAL_STATUS.LAST_RESULT, Reg.CAL_STATUS.LIST_FULL, Reg.CAL_STATUS.SHIP_OK, Reg.CAL_STATUS.FIELD_LIMIT, Reg.CAL_STATUS.SPARE_ROWS_OUT, Reg.CAL_STATUS.COUNT_SAT]⟩,
    ⟨0x40A00008, 0, 1, [Reg.CAL_COUNT.COUNT]⟩,
    ⟨0x40A0000C, 0, 1, [Reg.CAL_LAST_LO.TIME]⟩,
    ⟨0x40A00010, 0, 1, [Reg.CAL_LAST_HI.TIME]⟩,
    ⟨0x40A00014, 0, 1, [Reg.CAL_LAST_INFO.QUALITY, Reg.CAL_LAST_INFO.EPOCH]⟩,
    ⟨0x40A00018, 0, 1, [Reg.CAL_SPARE_COUNT.COUNT]⟩,
    ⟨0x40A0001C, 0, 1, [Reg.CAL_DARK_COUNT.COUNT]⟩,
    ⟨0x40A00020, 0, 1, [Reg.CAL_WEAK_COUNT.COUNT]⟩,
    ⟨0x40A00024, 0, 1, [Reg.CAL_CHROMA_OUT_COUNT.COUNT]⟩,
    ⟨0x40A00028, 0, 1, [Reg.CAL_CONCEAL_COUNT.COUNT]⟩,
    ⟨0x40A0002C, 0, 1, [Reg.CAL_WINDOW.MASK]⟩]
  ++ [⟨0x40A00030, 0, 1, [Reg.CAL_ZONE_COL.FIRST, Reg.CAL_ZONE_COL.LAST]⟩,
    ⟨0x40A00034, 0, 1, [Reg.CAL_ZONE_ROW.FIRST, Reg.CAL_ZONE_ROW.LAST]⟩,
    ⟨0x40A00038, 0, 1, [Reg.CAL_SRAM_SPARE.USED]⟩,
    ⟨0x40A00040, 4, 8, [Reg.CAL_TILE_COPY.MAP 0]⟩,
    ⟨0x40A00060, 4, 16, [Reg.CAL_REF_SEL.SEL 0]⟩]

/-- The registers of the DIAG_ region. -/
def regsDIAG : List RegFamily :=
  [⟨0x40B00000, 0, 1, [Reg.DIAG_CTRL.FWD_EN, Reg.DIAG_CTRL.PROBE_EN, Reg.DIAG_CTRL.AUTO_REPAIR]⟩,
    ⟨0x40B00004, 0, 1, [Reg.DIAG_STATUS.GROUP, Reg.DIAG_STATUS.QUEUE, Reg.DIAG_STATUS.HELD, Reg.DIAG_STATUS.FIND_SAT, Reg.DIAG_STATUS.HINT_SAT, Reg.DIAG_STATUS.MISC_SAT]⟩,
    ⟨0x40B00008, 0, 1, [Reg.DIAG_SWEEP_COUNT.COUNT]⟩,
    ⟨0x40B0000C, 0, 1, [Reg.DIAG_OPEN_COUNT.COUNT]⟩,
    ⟨0x40B00010, 0, 1, [Reg.DIAG_LOW_COUNT.COUNT]⟩,
    ⟨0x40B00014, 0, 1, [Reg.DIAG_STUCK_COUNT.COUNT]⟩,
    ⟨0x40B00018, 0, 1, [Reg.DIAG_BRIDGE_COUNT.COUNT]⟩,
    ⟨0x40B0001C, 0, 1, [Reg.DIAG_HINT_COUNT.COUNT]⟩,
    ⟨0x40B00020, 0, 1, [Reg.DIAG_HINT_DROP_COUNT.COUNT]⟩,
    ⟨0x40B00024, 0, 1, [Reg.DIAG_VOID_COUNT.COUNT]⟩,
    ⟨0x40B00028, 0, 1, [Reg.DIAG_DEFER_COUNT.COUNT]⟩,
    ⟨0x40B0002C, 0, 1, [Reg.DIAG_STROUT_COUNT.COUNT]⟩]
  ++ [⟨0x40B00030, 0, 1, [Reg.DIAG_LAST_SITE.INDEX, Reg.DIAG_LAST_SITE.FINDING, Reg.DIAG_LAST_SITE.EMITTER, Reg.DIAG_LAST_SITE.SOURCE, Reg.DIAG_LAST_SITE.ACTION]⟩,
    ⟨0x40B00034, 0, 1, [Reg.DIAG_LAST_FRAME.COUNT]⟩,
    ⟨0x40B00040, 4, 5, [Reg.DIAG_PAD_SHORT.MAP 0]⟩]

/-- The registers of the SNS_ region. -/
def regsSNS : List RegFamily :=
  [⟨0x40B10000, 0, 1, [Reg.SNS_CTRL.ENABLE, Reg.SNS_CTRL.ZONE_EN, Reg.SNS_CTRL.BG_SHIFT]⟩,
    ⟨0x40B10004, 0, 1, [Reg.SNS_THRESH.BRIGHT_THR, Reg.SNS_THRESH.CHANGE_THR]⟩,
    ⟨0x40B10008, 0, 1, [Reg.SNS_SSD.MARGIN, Reg.SNS_SSD.LEVEL, Reg.SNS_SSD.RELEASE]⟩,
    ⟨0x40B1000C, 0, 1, [Reg.SNS_ZONE_CFG.CHANGE_COUNT, Reg.SNS_ZONE_CFG.PRESENCE_HOLD]⟩,
    ⟨0x40B10010, 0, 1, [Reg.SNS_STATUS.LIMP, Reg.SNS_STATUS.SSD_ACTIVE, Reg.SNS_STATUS.BRIGHT_ANY, Reg.SNS_STATUS.UNSTEADY, Reg.SNS_STATUS.PRESENCE, Reg.SNS_STATUS.SEQ_WRAP]⟩,
    ⟨0x40B10014, 0, 1, [Reg.SNS_SEQ.SEQ]⟩,
    ⟨0x40B10018, 0, 1, [Reg.SNS_AMB_MEAN.CODE]⟩,
    ⟨0x40B1001C, 0, 1, [Reg.SNS_BRIGHT_COUNT.COUNT]⟩,
    ⟨0x40B10020, 4, 8, [Reg.SNS_ZONE_RECT.COL_FIRST 0, Reg.SNS_ZONE_RECT.COL_LAST 0, Reg.SNS_ZONE_RECT.ROW_FIRST 0, Reg.SNS_ZONE_RECT.ROW_LAST 0]⟩,
    ⟨0x40B10040, 4, 8, [Reg.SNS_ZONE_LEVEL.CODE 0, Reg.SNS_ZONE_LEVEL.PRESENT 0]⟩]

/-- The registers of the SAF_ region. -/
def regsSAF : List RegFamily :=
  [⟨0x40C00000, 0, 1, [Reg.SAF_STATUS.LOCKED_OUT, Reg.SAF_STATUS.COMMISSIONED, Reg.SAF_STATUS.SP_CONFIRMED, Reg.SAF_STATUS.MAP_MATCH, Reg.SAF_STATUS.PERMIT, Reg.SAF_STATUS.KS_ALLOW, Reg.SAF_STATUS.COVERING, Reg.SAF_STATUS.SP_LIMP, Reg.SAF_STATUS.SAFE_STATE, Reg.SAF_STATUS.ARMED, Reg.SAF_STATUS.CUTOFF_ARMED, Reg.SAF_STATUS.CONFIG_OK, Reg.SAF_STATUS.CNT_SAT]⟩,
    ⟨0x40C00004, 0, 1, [Reg.SAF_INPUTS.RAW_A, Reg.SAF_INPUTS.RAW_B, Reg.SAF_INPUTS.HPERM, Reg.SAF_INPUTS.LIMP, Reg.SAF_INPUTS.DISC]⟩,
    ⟨0x40C00008, 0, 1, [Reg.SAF_KS_STATUS.TEMP_HIGH, Reg.SAF_KS_STATUS.TEMP_CUT, Reg.SAF_KS_STATUS.VSTR_OVER, Reg.SAF_KS_STATUS.HB_FAULT, Reg.SAF_KS_STATUS.KS_COPY, Reg.SAF_KS_STATUS.TRIP_ROW]⟩,
    ⟨0x40C0000C, 0, 1, [Reg.SAF_LOCKOUT.CAUSE, Reg.SAF_LOCKOUT.CHANNEL, Reg.SAF_LOCKOUT.LIMP_PATH, Reg.SAF_LOCKOUT.QUALITY, Reg.SAF_LOCKOUT.EPOCH]⟩,
    ⟨0x40C00010, 0, 1, [Reg.SAF_LOCKOUT_TIME_LO.TIME]⟩,
    ⟨0x40C00014, 0, 1, [Reg.SAF_LOCKOUT_TIME_HI.TIME]⟩,
    ⟨0x40C00018, 0, 1, [Reg.SAF_PARAM_CRC.CRC]⟩,
    ⟨0x40C0001C, 0, 1, [Reg.SAF_KS_CRC.CRC]⟩,
    ⟨0x40C00020, 0, 1, [Reg.SAF_CUTOFF.SET, Reg.SAF_CUTOFF.PENDING]⟩,
    ⟨0x40C00024, 0, 1, [Reg.SAF_HB.INTERVAL]⟩,
    ⟨0x40C00040, 4, 8, [Reg.SAF_SP_DIGEST.BYTES 0]⟩,
    ⟨0x40C00060, 0, 1, [Reg.SAF_COMMISSION_COUNT.COUNT]⟩]
  ++ [⟨0x40C00064, 0, 1, [Reg.SAF_LOCKOUT_COUNT.COUNT]⟩,
    ⟨0x40C00068, 0, 1, [Reg.SAF_OUTPUT_ERR_COUNT.COUNT]⟩,
    ⟨0x40C0006C, 0, 1, [Reg.SAF_CHANGE_MISS_COUNT.COUNT]⟩,
    ⟨0x40C00070, 0, 1, [Reg.SAF_COVER_COUNT.COUNT]⟩,
    ⟨0x40C00074, 0, 1, [Reg.SAF_SP_LIMP_COUNT.COUNT]⟩,
    ⟨0x40C10000, 8, 128, [Reg.SAF_BOX0.COL_FIRST 0, Reg.SAF_BOX0.COL_LAST 0, Reg.SAF_BOX0.VALID 0]⟩,
    ⟨0x40C10004, 8, 128, [Reg.SAF_BOX1.ROW_FIRST 0, Reg.SAF_BOX1.ROW_LAST 0]⟩,
    ⟨0x40C10400, 4, 128, [Reg.SAF_BOX_MAX.MAX 0, Reg.SAF_BOX_MAX.OVER 0]⟩,
    ⟨0x40C10800, 4, 512, [Reg.SAF_ROW_Q.Q 0]⟩]

/-- The registers of the TMP_ region. -/
def regsTMP : List RegFamily :=
  [⟨0x40D00000, 0, 1, [Reg.TMP_STATUS.STATE, Reg.TMP_STATUS.LIMIT, Reg.TMP_STATUS.BOOST, Reg.TMP_STATUS.HOT_TILE, Reg.TMP_STATUS.SUSPECT_ANY, Reg.TMP_STATUS.CNT_SAT, Reg.TMP_STATUS.SWEEP_WRAP]⟩,
    ⟨0x40D00004, 0, 1, [Reg.TMP_HOT.THETA, Reg.TMP_HOT.RATE]⟩,
    ⟨0x40D00008, 0, 1, [Reg.TMP_POLICY_T.STEP_HI, Reg.TMP_POLICY_T.STEP_LO]⟩,
    ⟨0x40D0000C, 0, 1, [Reg.TMP_POLICY_S.STOP_T, Reg.TMP_POLICY_S.STOP_LEVEL]⟩,
    ⟨0x40D00010, 0, 1, [Reg.TMP_POLICY_B.BOOST_BUDGET, Reg.TMP_POLICY_B.FLOOR, Reg.TMP_POLICY_B.STOP_EN]⟩,
    ⟨0x40D00014, 0, 1, [Reg.TMP_BOOST.BOOST_MS, Reg.TMP_BOOST.BOOST_COOL]⟩,
    ⟨0x40D00018, 0, 1, [Reg.TMP_MODEL.K]⟩,
    ⟨0x40D0001C, 0, 1, [Reg.TMP_SWEEP.SEQ, Reg.TMP_SWEEP.AGE]⟩,
    ⟨0x40D00020, 0, 1, [Reg.TMP_SWEEP_COUNT.COUNT]⟩,
    ⟨0x40D00024, 0, 1, [Reg.TMP_STEP_COUNT.COUNT]⟩,
    ⟨0x40D00028, 0, 1, [Reg.TMP_STOP_COUNT.COUNT]⟩,
    ⟨0x40D0002C, 0, 1, [Reg.TMP_BOOST_COUNT.COUNT]⟩]
  ++ [⟨0x40D00030, 0, 1, [Reg.TMP_SUSPECT_COUNT.COUNT]⟩,
    ⟨0x40D00040, 4, 20, [Reg.TMP_SENSOR.CODE 0, Reg.TMP_SENSOR.SUSPECT 0, Reg.TMP_SENSOR.DISAGREE 0]⟩,
    ⟨0x40D01000, 4, 256, [Reg.TMP_TILE.THETA 0, Reg.TMP_TILE.PT 0]⟩]

/-- The registers of the BST_ region. -/
def regsBST : List RegFamily :=
  [⟨0x40E00000, 0, 1, [Reg.BST_CTRL.STARTUP_LBIST_EN, Reg.BST_CTRL.REUSE_EN]⟩,
    ⟨0x40E00004, 0, 1, [Reg.BST_STATUS.RUNNING, Reg.BST_STATUS.ENGINE, Reg.BST_STATUS.ITEM, Reg.BST_STATUS.ORIGIN, Reg.BST_STATUS.CNT_SAT]⟩,
    ⟨0x40E00008, 0, 1, [Reg.BST_ABIST_RESULT.VERDICT, Reg.BST_ABIST_RESULT.ORIGIN, Reg.BST_ABIST_RESULT.ITEM 0, Reg.BST_ABIST_RESULT.ITEM 1, Reg.BST_ABIST_RESULT.ITEM 2, Reg.BST_ABIST_RESULT.ITEM 3, Reg.BST_ABIST_RESULT.ITEM 4, Reg.BST_ABIST_RESULT.ITEM 5, Reg.BST_ABIST_RESULT.ITEM 6]⟩,
    ⟨0x40E0000C, 0, 1, [Reg.BST_LBIST_RESULT.VERDICT, Reg.BST_LBIST_RESULT.ORIGIN, Reg.BST_LBIST_RESULT.UNIT 0, Reg.BST_LBIST_RESULT.UNIT 1, Reg.BST_LBIST_RESULT.UNIT 2, Reg.BST_LBIST_RESULT.UNIT 3, Reg.BST_LBIST_RESULT.UNIT 4]⟩,
    ⟨0x40E00010, 0, 1, [Reg.BST_PORT_OUT.PL_LANES, Reg.BST_PORT_OUT.PL_PORT, Reg.BST_PORT_OUT.CO_LANES, Reg.BST_PORT_OUT.CO_PORT]⟩,
    ⟨0x40E00014, 0, 1, [Reg.BST_SHUT_INFO.VERDICT, Reg.BST_SHUT_INFO.SKIPPED, Reg.BST_SHUT_INFO.CONSUMED, Reg.BST_SHUT_INFO.VALID, Reg.BST_SHUT_INFO.QUALITY, Reg.BST_SHUT_INFO.EPOCH]⟩,
    ⟨0x40E00018, 0, 1, [Reg.BST_SHUT_TIME_LO.TIME]⟩,
    ⟨0x40E0001C, 0, 1, [Reg.BST_SHUT_TIME_HI.TIME]⟩,
    ⟨0x40E00040, 8, 5, [Reg.BST_LBIST_SIG_LO.SIG 0]⟩,
    ⟨0x40E00044, 8, 5, [Reg.BST_LBIST_SIG_HI.SIG 0]⟩,
    ⟨0x40E00080, 4, 5, [Reg.BST_LBIST_PAT.COUNT 0]⟩,
    ⟨0x40E000A0, 0, 1, [Reg.BST_ABIST_COUNT.COUNT]⟩]
  ++ [⟨0x40E000A4, 0, 1, [Reg.BST_LBIST_COUNT.COUNT]⟩,
    ⟨0x40E000A8, 0, 1, [Reg.BST_FAIL_COUNT.COUNT]⟩,
    ⟨0x40E000AC, 0, 1, [Reg.BST_INCOMPLETE_COUNT.COUNT]⟩,
    ⟨0x40E000B0, 0, 1, [Reg.BST_REUSE_COUNT.COUNT]⟩]

/-- The registers of the UPD_ region. -/
def regsUPD : List RegFamily :=
  [⟨0x40F00000, 0, 1, [Reg.UPD_CTRL.CONFIRM_WINDOW]⟩,
    ⟨0x40F00004, 0, 1, [Reg.UPD_SESSION.TARGET, Reg.UPD_SESSION.STATE, Reg.UPD_SESSION.NEXT_SEQ]⟩,
    ⟨0x40F00008, 0, 1, [Reg.UPD_RECEIVED.BYTES]⟩,
    ⟨0x40F00010, 4, 3, [Reg.UPD_CORE.STATE 0, Reg.UPD_CORE.ATTEMPTS 0, Reg.UPD_CORE.EXPIRED 0, Reg.UPD_CORE.MIGRATION_FAILED 0, Reg.UPD_CORE.ARCHIVE 0, Reg.UPD_CORE.OTP_ROLLBACK 0]⟩,
    ⟨0x40F00020, 4, 3, [Reg.UPD_NVM_VER.VERSION 0]⟩,
    ⟨0x40F00030, 4, 3, [Reg.UPD_RUN_VER.VERSION 0]⟩,
    ⟨0x40F00040, 4, 3, [Reg.UPD_ARC_VER.VERSION 0]⟩,
    ⟨0x40F00050, 4, 3, [Reg.UPD_WINDOW.LEFT 0]⟩,
    ⟨0x40F00060, 0, 1, [Reg.UPD_FLAGS.CNT_SAT]⟩,
    ⟨0x40F00080, 0, 1, [Reg.UPD_CHUNK_ERR_COUNT.COUNT]⟩,
    ⟨0x40F00084, 0, 1, [Reg.UPD_ACTIVATE_COUNT.COUNT]⟩,
    ⟨0x40F00088, 0, 1, [Reg.UPD_AUTO_FALLBACK_COUNT.COUNT]⟩]

/-- The registers of the HST_ region. -/
def regsHST : List RegFamily :=
  [⟨0x41000000, 0, 1, [Reg.HST_CTRL.SPI_EN, Reg.HST_CTRL.CAN_EN, Reg.HST_CTRL.T1S_EN, Reg.HST_CTRL.DALI_EN]⟩,
    ⟨0x41000004, 0, 1, [Reg.HST_SPI_CFG.ADDR]⟩,
    ⟨0x41000008, 0, 1, [Reg.HST_CAN_CFG.IDE, Reg.HST_CAN_CFG.DATA_RATE]⟩,
    ⟨0x4100000C, 0, 1, [Reg.HST_CAN_ID_RX.ID]⟩,
    ⟨0x41000010, 0, 1, [Reg.HST_CAN_ID_TX.ID]⟩,
    ⟨0x41000014, 0, 1, [Reg.HST_CAN_STATUS.STATE, Reg.HST_CAN_STATUS.TEC, Reg.HST_CAN_STATUS.REC]⟩,
    ⟨0x41000018, 0, 1, [Reg.HST_T1S_PLCA.EN, Reg.HST_T1S_PLCA.NODE_ID, Reg.HST_T1S_PLCA.NODE_COUNT, Reg.HST_T1S_PLCA.TO_TIMER]⟩,
    ⟨0x4100001C, 0, 1, [Reg.HST_T1S_BURST.MAX_BURST, Reg.HST_T1S_BURST.BURST_TIMER]⟩,
    ⟨0x41000020, 0, 1, [Reg.HST_T1S_STATUS.PLCA_OK, Reg.HST_T1S_STATUS.MODE, Reg.HST_T1S_STATUS.COORD]⟩,
    ⟨0x41000024, 0, 1, [Reg.HST_DALI_STATUS.SHORT_ADDR, Reg.HST_DALI_STATUS.ACTUAL, Reg.HST_DALI_STATUS.SCENE, Reg.HST_DALI_STATUS.SYS_FAIL, Reg.HST_DALI_STATUS.CURVE]⟩,
    ⟨0x41000028, 0, 1, [Reg.HST_FLAGS.CNT_SAT]⟩,
    ⟨0x41000040, 0, 1, [Reg.HST_SPI_FRAME_ERR_COUNT.COUNT]⟩]
  ++ [⟨0x41000044, 0, 1, [Reg.HST_SPI_OVERRUN_COUNT.COUNT]⟩,
    ⟨0x41000048, 0, 1, [Reg.HST_SPI_SHORT_READ_COUNT.COUNT]⟩,
    ⟨0x4100004C, 0, 1, [Reg.HST_SPI_TIMEOUT_COUNT.COUNT]⟩,
    ⟨0x41000050, 0, 1, [Reg.HST_CAN_RX_COUNT.COUNT]⟩,
    ⟨0x41000054, 0, 1, [Reg.HST_CAN_SEG_ERR_COUNT.COUNT]⟩,
    ⟨0x41000058, 0, 1, [Reg.HST_CAN_FMT_ERR_COUNT.COUNT]⟩,
    ⟨0x4100005C, 0, 1, [Reg.HST_CAN_FRAME_ERR_COUNT.COUNT]⟩,
    ⟨0x41000060, 0, 1, [Reg.HST_CAN_OVERRUN_COUNT.COUNT]⟩,
    ⟨0x41000064, 0, 1, [Reg.HST_CAN_BUSOFF_COUNT.COUNT]⟩,
    ⟨0x41000068, 0, 1, [Reg.HST_T1S_RX_COUNT.COUNT]⟩,
    ⟨0x4100006C, 0, 1, [Reg.HST_T1S_FOREIGN_COUNT.COUNT]⟩,
    ⟨0x41000070, 0, 1, [Reg.HST_T1S_OTHER_COUNT.COUNT]⟩]
  ++ [⟨0x41000074, 0, 1, [Reg.HST_T1S_FCS_ERR_COUNT.COUNT]⟩,
    ⟨0x41000078, 0, 1, [Reg.HST_T1S_OVERRUN_COUNT.COUNT]⟩,
    ⟨0x4100007C, 0, 1, [Reg.HST_T1S_COLL_COUNT.COUNT]⟩,
    ⟨0x41000080, 0, 1, [Reg.HST_T1S_NOISE_COUNT.COUNT]⟩,
    ⟨0x41000084, 0, 1, [Reg.HST_T1S_PLCA_LOSS_COUNT.COUNT]⟩,
    ⟨0x41000088, 0, 1, [Reg.HST_DALI_RX_COUNT.COUNT]⟩,
    ⟨0x4100008C, 0, 1, [Reg.HST_DALI_ERR_COUNT.COUNT]⟩,
    ⟨0x41000090, 0, 1, [Reg.HST_LEGACY_ERR_COUNT.COUNT]⟩]

/-- Every register of the map. -/
def regTable : List RegFamily :=
  regsSYS ++ regsPWR ++ regsFLT ++ regsCHK ++ regsLNK ++ regsCAS ++ regsBEAM ++ regsCMP ++ regsSCN ++ regsSTR ++ regsCAL ++ regsDIAG ++ regsSNS ++ regsSAF ++ regsTMP ++ regsBST ++ regsUPD ++ regsHST

end Sys2Proof.Machine
end

