-- ==== Sys2Proof/Machine/State.lean ====
section
/-! DEFINITION. Everything the spec gives the machine, as plain data. -/

namespace Sys2Proof.Machine

/-- Reasons to stop with a fault. The spec gives every command of the block an effect, so no meaning raises one: safe. -/
inductive Fault where
deriving DecidableEq, Repr

/-- Reasons to answer no meaning. -/
inductive Refusal where
  /-- Raised by Machine/Dispatch.lean for a command whose meaning is not written yet; safe: it allows no false claim. -/
  | notModelled (mnemonic : String)
deriving DecidableEq, Repr

/-- Table 0-1: the variants. -/
inductive Variant where
  | aw | iw
deriving DecidableEq, Repr

/-- LIFECYCLE of Table 9-7. -/
inductive LifeCycle where
  | blank | manufacture | field | service | returned
deriving DecidableEq, Repr

/-- How far the start of Table 1-10 has come. -/
inductive Phase where
  /-- VAUX is absent. -/
  | dark
  /-- PD0 and PD12 run; the controller is held in reset. -/
  | alwaysOn
  /-- The resident loader runs. -/
  | loader
  /-- The resident loader holds the module (MODE LOADER). -/
  | loaderHold
  /-- Start-up LBIST. -/
  | lbist
  /-- The SP boots and runs its coverage test. -/
  | spStart
  /-- Start-up ABIST. -/
  | abist
  /-- The CP boots. -/
  | cpBoot
  /-- READY was reached: service. -/
  | service
deriving DecidableEq, Repr

/-- What OTP and the straps give the module (00_scope, R12, R266, R286, R289). -/
structure Identity where
  variant : Variant
  lifecycle : LifeCycle
  /-- Written to OTP by SYS_LIFECYCLE; takes effect at the next reset of R12 (R289). -/
  nextLifecycle : LifeCycle
  /-- What OTP holds of the module: serial number and MAC address, the hashes of the life-cycle key and of the update key (R289, R510), die
  revisions and loader version (Table 9-17). -/
  serial : Nat
  mac : Nat
  lcKeyHash : List Byte
  updKeyHash : List Byte
  dieRevs : Nat
  loaderVer : Nat
  /-- CASC_ROLE as sampled: 0 master, 1 to 3 a follower's position (R322). -/
  role : Nat
  /-- BOOT_MODE as sampled: FK6160 legacy mode (R12). -/
  legacy : Bool
  /-- TEST_EN read high when the controller left reset (R557). -/
  testEn : Bool
  /-- LC_NONCE (R289). -/
  lcNonce : Nat
  /-- The LBIST reference signatures of the die revision, units 0 to 4 (R495). -/
  lbistRefs : List Nat
  /-- Anti-rollback levels of CP, MP and SP, and the firmware key hash is `updKeyHash` (R510). -/
  otpLevels : List Nat
deriving DecidableEq, Repr

/-- Input pads and supplies as the outside drives them; supplies in mV. -/
structure Pads where
  bootMode : Bool
  role : Nat
  testEn : Bool
  refclk : Bool
  hpermA : Bool
  hpermB : Bool
  limpA : Bool
  limpB : Bool
  vcore : Nat
  vana : Nat
  vaux : Nat
  vstr : Nat
deriving DecidableEq, Repr

/-- The elapsed-time counter (R458 to R462). -/
structure Clock where
  /-- `now` at which the counter last restarted. -/
  start : Nat
  /-- OFFSET of R458, modulo 2^64. -/
  offset : Nat
  /-- A TIME_SET has been made since the restart (quality 3 ends). -/
  timeSet : Bool
  /-- `now` of the last controller-die temperature reading that trimmed the RC oscillator (R459). -/
  compAt : Option Nat
  /-- Error bound accumulated up to `errAt` (R460), and that instant. -/
  errBase : Nat
  errAt : Nat
  /-- The wake alarm, an elapsed time in µs; 0 for none (R465). -/
  alarm : Nat
  /-- The epoch as NVM holds it (0x205D_3F00), and whether it was published since VAUX came (R462). -/
  epochStored : Nat
  epochDone : Bool
deriving DecidableEq, Repr

/-- A packet in a ring: its bytes, the source address of its transport (10BASE-T1S), `now` of its arrival. -/
structure Packet where
  bytes : List Byte
  source : Nat
  arrival : Nat
deriving DecidableEq, Repr

/-- An executed packet kept for R274. -/
structure Executed where
  opcode : Nat
  seq : Nat
  check : Nat
  at_ : Nat
  reply : List Byte
deriving DecidableEq, Repr

/-- A fragmented request being assembled in a command-in ring (R278). -/
structure Assembly where
  opcode : Nat
  seq : Nat
  target : Nat
  params : List Byte
  count : Nat
  firstAt : Nat
deriving DecidableEq, Repr

/-- The CP's protocol state (09_command_protocol). -/
structure Proto where
  /-- Event counter of each reply ring 8 to 15 (R280). -/
  evSeq : NMap
  /-- Events dropped for each reply ring and not yet reported (R281). -/
  lost : NMap
  /-- Per command-in ring: the last 16 executed packets (R274), newest first. -/
  history : Assoc (List Executed)
  /-- Per command-in ring: the assembly in progress. -/
  assembly : Assoc (Option Assembly)
  /-- The command-in ring served last (R275). -/
  turn : Nat
  /-- Events raised while PD2 is off, to be placed once the CP runs again (R468): opcode and payload, oldest first. -/
  held : List (Nat × Nat × List Byte)
  /-- Source address of the request being executed (R308). -/
  replyTo : Nat
  /-- Source address of the last packet accepted on 10BASE-T1S (R281). -/
  t1sSource : Option Nat
  /-- A SYS_RESET whose reset begins 2 ms after its reply: scope and the instant (R288). -/
  resetDue : Option (Nat × Nat)
  /-- While a request is executed: its reply ring and the entries kept free there for its reply (R281). -/
  reserved : Option (Nat × Nat)
deriving DecidableEq, Repr

/-- One entry of the kiln log (Table 13-3). -/
structure KilnEntry where
  seq : Nat
  source : Nat
  cls : Nat
  merged : Bool
  consequential : Bool
  injected : Bool
  restored : Bool
  standing : Bool
  master : Nat
  access : Nat
  rep : Nat
  addr : Nat
  time : Nat
  quality : Nat
  epoch : Nat
  /-- The slot of FLT_KILN that holds it. -/
  slot : Nat
deriving DecidableEq, Repr

/-- An uncleared fault (R420). -/
structure Uncleared where
  seq : Nat
  source : Nat
  cls : Nat
  addr : Nat
deriving DecidableEq, Repr

/-- An open reaction window (R415, Table 13-4). -/
structure Window where
  reaction : Nat
  /-- The bank, string, core or other item the shadowed detectors are matched with. -/
  item : Nat
  /-- The window of the first-fault record's fault. -/
  first : Bool
  opened : Nat
  /-- Boundaries still to pass (SCAN_RESET, MAP_OUT). -/
  left : Nat
deriving DecidableEq, Repr

/-- A record of the persistent fault log (R425). -/
structure PlogRecord where
  entry : KilnEntry
  pseq : Nat
deriving DecidableEq, Repr

/-- The fault collector beyond its registers (13_fault_collection). -/
structure Collector where
  /-- The fault sequence number that the next entry takes (R411). -/
  nextSeq : Nat
  /-- The kiln log, newest first, at most 16. -/
  kiln : List KilnEntry
  /-- Faults raised and not yet cleared. -/
  uncleared : List Uncleared
  /-- Faults merged into the first-fault record; they are cleared with the first fault (R415). -/
  merged : List Uncleared
  /-- The reaction windows that are open (R415, Table 13-4). -/
  windows : List Window
  /-- Pulses of FAULT_N waiting, the running one included; `now` at which the running one began (R421). -/
  pulses : Nat
  pulseAt : Nat
  /-- Persistent log, newest first, and the records not yet written to NVM. -/
  plog : List PlogRecord
  plogPending : List PlogRecord
  /-- Persistent sequence number of the first record not yet exported; the next export number (R426). -/
  exported : Nat
  exportNo : Nat
  /-- Module on-time in ms at the last export. -/
  exportOn : Nat
  /-- Arming of FAULT_INJECT: `now`, whether bit 7 of COUNT was set, and whether a check was made since (R424). -/
  injectAt : Nat
  injectSingle : Bool
  injectUsed : Bool
deriving DecidableEq, Repr

/-- A lock-out record (R387). -/
structure LockRecord where
  cause : Nat
  channel : Nat
  limpPath : Bool
  time : Nat
  quality : Nat
  epoch : Nat
deriving DecidableEq, Repr

/-- A copy of the Kiln Shutter's configuration (R395): sequence number, block and its check; `good` is whether its CRC-32C
holds. The limp-home bitmap is the union of the block's rectangles (R392). -/
structure KsCopy where
  good : Bool
  seq : Nat
  block : List Byte
deriving DecidableEq, Repr

/-- What one channel sees of one antivalent pair (R379 to R382). -/
structure PairView where
  /-- Levels as seen (A, B). -/
  a : Bool
  b : Bool
  /-- Accepted as active. -/
  active : Bool
  /-- `now` at which the disagreement being timed began. -/
  since : Option Nat
  /-- A discrepancy fault stands in the pair (R382). -/
  disc : Bool
  /-- `now` of the last change of the accepted state or of the levels. -/
  changed : Nat
deriving DecidableEq, Repr

/-- The Kiln Shutter beyond its registers (12_safety_functions). -/
structure Shutter where
  /-- Its configuration NVM was read and a valid copy is in use (R42). -/
  armed : Bool
  /-- The two copies in the backplane configuration NVM. -/
  copy0 : KsCopy
  copy1 : KsCopy
  /-- A heartbeat toggle was seen since PERMIT rose (R359), and `now` of the last one. -/
  toggled : Bool
  lastToggle : Option Nat
  /-- `now` at which PERMIT last rose and last fell. -/
  permitRose : Nat
  permitFell : Nat
  /-- Channel B's views of the pairs. -/
  hperm : PairView
  limp : PairView
  /-- `now` at which HPERM was accepted as not permitted, or the Kiln Shutter left reset (R363). -/
  armAt : Option Nat
  /-- `now` at which the guard armed (R363): windows that begin from then on are judged (R364). -/
  armedAt : Nat
  /-- `now` of the last instant at which a string conducted under the controller path. -/
  lastConduct : Option Nat
  /-- Class the limp plane ramps to and the instant its ramp began (R97); `none` while it is not lit. -/
  rampAt : Option Nat
  /-- VSTR has tripped and the strings stay off until it has been below 33.0 V for 10 ms (R367). -/
  vstrOff : Bool
  /-- The limp plane driver check of the start (Table 12-5, 0x08). -/
  limpCheckBad : Bool
  /-- Lock-out causes to be reported once the controller runs, and whether they are restored (R43, R414). -/
  waiting : List (Nat × Bool)
  /-- The limp plane was released under R99 and keeps its strings until the next boundary (R391). -/
  keep : Bool
  /-- The limp plane has every string, lit or dark: programmable light is not allowed (R359), or it is allowed again and the boundary
  at which the active latches take over is still to come (R99). -/
  taken : Bool
  /-- The ramp of R97 has reached the commanded class. -/
  ramped : Bool
  /-- `now` at which the limp plane last let its strings go (R490). -/
  lastLimp : Option Nat
deriving DecidableEq, Repr

/-- The safety core beyond its registers. -/
structure SafetyCore where
  hperm : PairView
  limp : PairView
  coverageOk : Bool
  lbistOk : Bool
  halted : Bool
  /-- The digest of the running SP image. -/
  digest : List Byte
  /-- SAFETY_RESET_ARM: nonce and instant (R403). -/
  armNonce : Nat
  armAt : Nat
  /-- `now` of the last SCN_OUTPUT_CHECK or SCN_CONTENT_STUCK fault (R376). -/
  lastOutputFault : Option Nat
  /-- The commanded changes judged, oldest first: the frames since each, and the content signature of the frame before it; consecutive
  misses (R375). -/
  changes : List (Nat × Nat)
  misses : Nat
  /-- Light frames for which the checks of R374 and R375 pause. -/
  pause : Nat
  /-- Content signature and frame number of the slot before (R374, R375); the guarded boxes of the boundary last shown. -/
  lastSig : Option Nat
  lastFrame : Option Nat
  boxShown : List Nat
  /-- The limits of R372 were compared in this slot. -/
  limitDone : Bool
  /-- The cut-off limiter change that waits to land: value and commit instant (R371). -/
  cutPending : Option (Bool × Nat)
deriving DecidableEq, Repr

/-- Commissioning (R392 to R402). -/
structure Commission where
  /-- The SP's store: the block in force. -/
  block : List Byte
  /-- The staged block and the instant of its LOAD. -/
  staged : Option (List Byte × Nat)
  /-- Writes in progress: the new block (or none when STORED), and the new digest. -/
  writing : Option (Option (List Byte) × List Byte)
  /-- The SP image digest of the commissioning record (R397). -/
  confirmedDigest : List Byte
  /-- Elapsed time of the commissioning record. -/
  time : Nat
  /-- The BEAM_ mirrors change at the next boundary (R398). -/
  mirror : Bool
deriving DecidableEq, Repr

/-- The three copies of the lock-out record (R387). -/
structure LockCopies where
  aon : Option LockRecord
  ks : Option LockRecord
  nvm : Option LockRecord
deriving DecidableEq, Repr

/-- A power-state entry that runs (R437), or the fade to READY (R436). -/
structure Entry where
  /-- 2 READY, 3 STANDBY, 4 SLEEP, 5 SHUTDOWN. -/
  target : Nat
  shutdownTest : Bool
  fadeMs : Nat
  retain : Nat
  /-- Power state before the entry: 1 ACTIVE, 2 READY, 3 STANDBY, 4 SLEEP (the return from SERVICE). -/
  origin : Nat
  /-- The running step began at this instant; the shutdown test runs; PERMIT fell at this instant. -/
  stepAt : Nat
  testing : Bool
  permitFell : Nat
deriving DecidableEq, Repr

/-- A wake that runs (R443 to R446). -/
structure Wake where
  source : Nat
  /-- 0 SERVICE, 1 READY, 2 ACTIVE. -/
  target : Nat
  /-- 3 STANDBY, 4 SLEEP. -/
  origin : Nat
  startAt : Nat
  /-- The retention checks of a wake from STANDBY were made (R451). -/
  checked : Bool
deriving DecidableEq, Repr

/-- Power management beyond its registers. -/
structure Power where
  entry : Option Entry
  wake : Option Wake
  /-- A wake event from entry step 5 onwards: source and target (R441). -/
  wakeAfter : Option (Nat × Nat)
  /-- A POWER_STATE that waits for the end of an LBIST run (R504): its parameters. -/
  waiting : Option (List Byte)
  /-- In SERVICE: the state left (3 or 4), and `now` of the last packet taken (R445). -/
  serviceFrom : Nat
  servicePacket : Nat
  /-- Voltage flags of the bank groups (R450). -/
  vflag : Nat
  /-- Banks whose rebuild runs. -/
  rebuilding : List Nat
  /-- The frame that woke the module on DALI: its two bytes (R316). -/
  daliFrame : Option (Nat × Nat)
  /-- The supply whose monitor reset holds the controller (1 VCORE, 2 VANA, 3 VAUX; 0 none), and the earliest release. -/
  heldReset : Nat
  heldUntil : Nat
  /-- A POWER_STATE to ACTIVE waiting for its boundary, with its commit instant (R436). -/
  activePending : Option Nat
  /-- `now` of the last start of a supply measurement (R457). -/
  measAt : Nat
  /-- The reset that holds the controller is a SYS_RESET of scope MODULE: the straps are not sampled again (R288). -/
  keepStraps : Bool
  /-- Module on-time in base cycles up to `onAt`. -/
  onTime : Nat
  onAt : Nat
deriving DecidableEq, Repr

/-- Light frame, scan-out, latches and string drive beyond their registers (02, 03). -/
structure Scan where
  /-- Boundaries run: PD10 is powered and the backplane timing base was started. -/
  running : Bool
  /-- Bk of the light frame that runs. -/
  frameStart : Nat
  /-- The slot of the frame has begun. -/
  inSlot : Bool
  /-- A SCAN block reset holds scan-out since this instant (R56, Table 13-4). -/
  resetAt : Option Nat
  /-- Scan-out loads rows (from the first boundary after a hold, R56). -/
  loading : Bool
  /-- The paced row whose row slot runs or comes next, 0 to 512; whether it is in the row staging register, was committed,
  and was sent once more after a parity error (R52, R53, R61). -/
  row : Nat
  staged : Bool
  rowDone : Bool
  resent : Bool
  /-- Rows of the frame being loaded that repeat, newest first (R61); rows that wait for a late reload (R54). -/
  repeats : List Nat
  reloads : List Nat
  /-- What the content of the frame being loaded was made from, once it was converted (R54). -/
  convKey : Option (List Nat)
  /-- Landed content is not yet shown (R27, R62). -/
  changed : Bool
  /-- The decision of R55 for the coming boundary: swap or skip. -/
  decision : Option Bool
  /-- Frame repeats since the last swap are in SCN_STATUS.REPEAT_RUN; witness signatures held by the freeze detector,
  newest first (R70), and the one received in this slot. -/
  witness : List Nat
  received : Option Nat
  /-- Latches by pixel or string: PWM value and class, shadow and active; SEL, BYP; open clamps fired (R73, R76). -/
  shadowPwm : NMap
  shadowClass : NMap
  activePwm : NMap
  activeClass : NMap
  sel : NMap
  byp : NMap
  clamped : NMap
  /-- The drive words of the frame being loaded, after power scaling and the cut-off limiter: classes by string, PWM values
  by pixel. -/
  convClass : NMap
  convPwm : NMap
  /-- Running box maxima and row charges of the frame being loaded (R67, R370). -/
  boxRun : NMap
  rowRun : NMap
  /-- Box maxima and row charges of the frame shown (R67, R370). -/
  boxShown : NMap
  rowShown : NMap
  /-- The soft-start step of the next conducting frame (R94). -/
  soft : Nat
  /-- Clipped pixels by row of the frame being built (R82). -/
  clips : NMap
  /-- The frame last loaded had a conducting string (R94). -/
  conducting : Bool
  /-- SPLIT4 in force (R65). -/
  split : Bool
  /-- Compliance flags of the running frame by string, and the lowest regulator voltage seen (R80). -/
  compl : NMap
  vregMin : Nat
  /-- Completion instants of the last consecutive complete input frames, newest first, at most 16 (R48). -/
  inputTimes : List Nat
  /-- Completion of the last complete input frame, and the video period as last measured, times 15 (R48, R49). -/
  lastInput : Option Nat
  video : Option Nat
  /-- Consecutive aligned boundaries with |e| at most 100, and with |e| above 5,000 (R50); frames still to run to the next
  aligned boundary (R49). -/
  lockGood : Nat
  lockBad : Nat
  aligned : Nat
  /-- The power limit word that waits to land: commit instant (its fields are in STR_POWER_PENDING). -/
  wordAt : Option Nat
  /-- The power limit word as committed, before its clamping (R85). -/
  wordRaw : Nat
  /-- Consecutive clean frames since the last change of DROP, frames since the last change of VSET, and the run of R92's
  last row. -/
  sinceDrop : Nat
  sinceVset : Nat
  highRun : Nat
  /-- Class efficacy tables, front copy; index t * 64 + c (R83). -/
  effFront : NMap
  /-- The row whose paced load comes next has left the line buffer (R61). -/
  sent : Bool
  /-- A string conducted under the controller path in the running frame (R80). -/
  lit : Bool
  /-- VTRACK (R90): a start of one of its periods, `none` while it is held low; the code in force before `vtrackAt`, the code in force
  from then on. -/
  vtrackFrom : Option Nat
  vtrackOld : Nat
  vtrackCode : Nat
  vtrackAt : Nat
  /-- Sites whose SEL and BYP still have to follow their state, as their string conducts through the slot under the limp plane (R74). -/
  late : List Nat
  /-- Strings masked by diagnosis that still have to be kept idle, and whether the content now loading was converted since (R146). -/
  idle : Assoc Bool
deriving DecidableEq, Repr

/-- An object entry (Table 6-2). -/
structure ObjEntry where
  /-- 1 DIM_BOX, 2 MARK, 3 SYMBOL. -/
  type : Nat
  angle : Bool
  perceptual : Bool
  mirrorH : Bool
  mirrorV : Bool
  layer : Nat
  margin : Nat
  edge : Nat
  fadeMs : Nat
  left : Int
  right : Int
  top : Int
  bottom : Int
  velH : Int
  velV : Int
  obsAge : Nat
  level : Nat
  symbol : Nat
  tag : Nat
deriving DecidableEq, Repr

/-- A light-object context as a copy of the context tables holds it (06, Light-object contexts); a context not listed is
FREE. -/
structure Ctx where
  entry : ObjEntry
  /-- Commanded to release: fading out, then FREE (R179). -/
  releasing : Bool
  /-- The fade time and curve of the release (R179) are the entry's; freed at once when set. -/
  atOnce : Bool
  /-- t_commit of R174; `none` until the commit that carries the entry is made. -/
  committed : Option Nat
  /-- Count of the entry among the settings of the context, so that setting it again is a change. -/
  edition : Nat
deriving DecidableEq, Repr

/-- A layer descriptor (Table 7-9), with its enable and static bits. -/
structure Layer where
  source : Nat
  format : Nat
  op : Nat
  priority : Nat
  colFirst : Nat
  colLast : Nat
  rowFirst : Nat
  rowLast : Nat
  bufOffset : Nat
  bufX : Int
  bufY : Int
  bufW : Nat
  bufH : Nat
  level : Nat
  enabled : Bool
  static : Bool
deriving DecidableEq, Repr

/-- A field map (R168). -/
structure FieldMap where
  h0 : Int
  v0 : Int
  dh : Int
  dv : Int
  nodes : List (Int × Int)
deriving DecidableEq, Repr

/-- A base selection (R164): source 0 PATTERN, 1 LINK, 2 DARK. -/
structure BaseSel where
  source : Nat
  pattern : Nat
  fadeMs : Nat
  perceptual : Bool
  /-- Count among the selections, so that selecting the same base again is a change. -/
  edition : Nat
deriving DecidableEq, Repr

/-- A commanded level with its fade of `len` base cycles (the module dimmer of R438, the stop weight of R479). -/
structure Ramp where
  target : Nat
  len : Nat
  perceptual : Bool
  edition : Nat
deriving DecidableEq, Repr

/-- The content of meeting place 1 (Table 1-3). -/
structure Tables where
  ctxs : Assoc Ctx
  layers : List Layer
  base : BaseSel
  map : Option FieldMap
  dimmer : Ramp
  stop : Ramp
  /-- Layers whose flip this copy carries (R203). -/
  flips : List Nat
  /-- The bisque copy selected, when one is valid (R206). -/
  bisque : Option Nat
  /-- Completion of the newest complete object list that this copy carries (R189). -/
  list : Option Nat
deriving DecidableEq, Repr

/-- A fade engine (R178): start value, target, landing boundary, time in base cycles, curve. -/
structure Fade where
  a : Nat
  z : Nat
  b0 : Nat
  len : Nat
  perceptual : Bool
deriving DecidableEq, Repr

/-- A command staged whole for a bisque build (R207). -/
inductive Staged where
  | config (layer : Nat) (d : Layer)
  | enable (mask flips : Nat)
  | flatten (mask : Nat)
deriving DecidableEq, Repr

/-- An object list being assembled (R181). -/
structure ListAssembly where
  seq : Nat
  parts : Nat
  replaceAll : Bool
  got : Assoc (List (Nat × Option ObjEntry))
  have_ : List Nat
  firstAt : Nat
deriving DecidableEq, Repr

/-- A pattern loading into the next buffer (R164). -/
structure Loading where
  pattern : Nat
  /-- The selection made when it completes; `none` for PRELOAD. -/
  select : Option BaseSel
  since : Nat
  stale : Bool
deriving DecidableEq, Repr

/-- Beam synthesis and the compositor beyond their registers (06, 07). -/
structure Beam where
  /-- The copy in force at the data plane. -/
  front : Tables
  /-- The commit waiting to land, and its instant (R23, R26). -/
  waiting : Option (Tables × Nat)
  /-- The CP's working copy (R26). -/
  work : Tables
  /-- Settings counted, for editions. -/
  editions : Nat
  /-- Fade engines of contexts; of the base, the dimmer and the stop weight. -/
  fades : Assoc Fade
  /-- The base a crossfade starts from: `oldBase`, mixed in turn with each base of `oldMix` at its frozen weight (R166). -/
  oldBase : BaseSel
  oldMix : List (BaseSel × Nat)
  baseFade : Option Fade
  /-- Fade engines of the dimmer and of the stop image (R178, R479). -/
  dimFade : Fade
  stopFade : Fade
  /-- The object list being assembled (R181). -/
  list : Option ListAssembly
  /-- Completion of the last complete list; the boundary at which ACTIVE was entered (R185). -/
  lastList : Option Nat
  activeAt : Nat
  /-- Expiry instants of T1 and T2 once they have expired (R186, R187); that of T2 until the fallback is complete. -/
  t1At : Option Nat
  t2At : Option Nat
  /-- The edition of the base that the fallback selected (R187). -/
  fallBase : Option Nat
  /-- A complete list has landed since the fallback (R189). -/
  listSince : Bool
  /-- The pattern load that runs (R163, R164). -/
  loading : Option Loading
  /-- The stale-list pattern was installed anew: it is loaded once more (R218). -/
  reload : Bool
  /-- The selection that waits for the end of a crossfade (R166). -/
  queued : Option BaseSel
  /-- The pattern whose microcode variant stands in each of the two microcode banks (R19, R162). -/
  micro : List (Option Nat)
  /-- The pattern in each base buffer (R163). -/
  buffers : Assoc (Option Nat)
  /-- Staged field-map parts (Table 6-9). -/
  part0 : Option (List Byte)
  part1 : Option (List Byte)
  /-- Bisque builds: the stage being built, the instant its build began, the queued stage, whether the commit waits. -/
  stage : List Staged
  buildAt : Option Nat
  buildEvent : Bool
  /-- A BISQUE_FLATTEN is in the queued stage. -/
  queuedEvent : Bool
  /-- The queued stage (R207). -/
  queuedStage : List Staged
  /-- Layers whose flip is pending and the landing boundary of their copy (R203). -/
  flipLanded : Assoc Nat
  /-- A commit that waits for a symbol: its symbol and since when (R199). -/
  symbolWait : List (Nat × Nat)
  symbolSince : Nat
  /-- The base buffer of the input frame in use (R30, R163). -/
  linkBuffer : Option Nat
  /-- The sensed-source mask by bin (R155): 4,096 less the mask value. -/
  ssd : NMap
deriving DecidableEq, Repr

/-- A library entry (Table 7-7). -/
structure LibEntry where
  version : Nat
  offset : Nat
  length : Nat
  check : Nat
deriving DecidableEq, Repr

/-- An installation that runs (R217). -/
structure Install where
  kind : Nat
  id : Nat
  length : Nat
  crc : Nat
  received : Nat
  lastOffset : Nat
  lastCrc : Nat
  base : Nat
  lastAt : Nat
deriving DecidableEq, Repr

/-- A container in external flash, as the directory and its header give it (R212, R213): its place in the flash memory, device 1 following
device 0; offsets of its index copies and of its data; ENTRY_MAX; the valid index copy, 0 or 1, and its SEQ. -/
structure Container where
  base : Nat
  size : Nat
  indexA : Nat
  indexB : Nat
  data : Nat
  entryMax : Nat
  copy : Nat
  seq : Nat
deriving DecidableEq, Repr

/-- Libraries and the symbol cache beyond their registers (07). -/
structure Library where
  /-- Sizes in bytes of the flash devices fitted, device 0 first. -/
  devices : List Nat
  /-- The stored patterns and symbols by number, and the installation that runs (R213, R217). -/
  patterns : Assoc (Option LibEntry)
  symbols : Assoc (Option LibEntry)
  install : Option Install
  /-- Resident symbols: number, size in bytes, instant last named; least recently named last. -/
  resident : List (Nat × Nat × Nat)
  /-- Entries whose LIB_ENTRY_CHECK was raised (R214): kind * 65536 + number. -/
  raised : List Nat
  /-- A legacy update that waits for its flip (R211): segment levels. -/
  legacyWaiting : Option NMap
  /-- The containers found at start, by kind. -/
  containers : Assoc Container
  /-- Entries of the firmware archive by core (R529), and of the fault log export by export number (R426). -/
  archive : Assoc (Option LibEntry)
  exports : Assoc (Option LibEntry)
  /-- The entry of the calibration backup, number 0 (R106). -/
  backups : Assoc (Option LibEntry)
deriving DecidableEq, Repr

/-- A frame being received on the pixel link (R233). -/
structure Receiving where
  seq : Nat
  format : Nat
  width : Nat
  /-- The row packet expected next. -/
  next : Nat
  /-- CHECK values of the rows received, newest first. -/
  checks : List Nat
  /-- The base buffer that takes its pixels (R240). -/
  buffer : Option Nat
  /-- STREAM, FIRST_POS and FRAME of R331, in a follower. -/
  stream : Nat
  firstPos : Nat
  frame : Nat
  srcTime : Nat
  /-- Bytes 4 to 11 of the row packets 0 to 127, newest first: the guarded boxes of a CLONE frame (R373). -/
  boxes : List Nat
deriving DecidableEq, Repr

/-- A complete input frame not yet taken up (R31): its buffer, SEQ, the instant of completion, and the number of the
boundary from which it is shown (R30; FRAME of a CLONE frame, R342), its FRAME_CHECK and its guarded boxes (R373, R375). -/
structure Ready where
  buffer : Nat
  seq : Nat
  at_ : Nat
  due : Nat
  check : Nat
  boxes : List Nat
deriving DecidableEq, Repr

/-- The pixel link receiver beyond its registers (08_pixel_link). -/
structure Link where
  /-- `now` at which STATE was entered, and of the latest entry into UP. -/
  stateAt : Nat
  upAt : Nat
  /-- The link has been UP since it was enabled. -/
  everUp : Bool
  /-- The instant at which DOWN may be left, after ALIGN failed (Table 8-9). -/
  retryAt : Option Nat
  /-- `now` of the last accepted frame (R253). -/
  lastAccept : Option Nat
  /-- The instant at which the hold timer expires (R253). -/
  holdAt : Option Nat
  /-- The frame being received (R236 to R239). -/
  rx : Option Receiving
  /-- SEQ of the frame received just before, when it was valid (R239). -/
  prevValid : Option Nat
  /-- Oldest first. -/
  ready : List Ready
  /-- FRAME_CHECK and guarded boxes of the frame in use. -/
  useCheck : Option Nat
  useBoxes : List Nat
  /-- SRC_TIME of the frame in use. -/
  srcTime : Nat
  /-- The partner's capability record; empty when none. -/
  partner : List Byte
  /-- The back-channel request that waits for its reply: TYPE (0 none), payload, instant, replies missing in a row. -/
  request : Nat
  payload : List Byte
  requestAt : Nat
  missing : Nat
  /-- A back-channel failure stands since the instant (CAPS_REQ is repeated every 1 s). -/
  failedAt : Option Nat
  /-- Echoes done and the sum of their round trips, in 0.1 ns; the light engine's own delay t0 (R245). -/
  echoes : Nat
  echoSum : Nat
  t0 : Nat
  /-- `now` of the last POLL. -/
  polledAt : Nat
  /-- The last STATUS reply of the source: SEQ and flags. -/
  pollSeq : Nat
  pollFlags : Nat
  /-- Consecutive samples with a figure of 96 or more on every used lane; of 160 or more; below 64, by lane. -/
  good96 : Nat
  good160 : Nat
  low64 : List Nat
  /-- `now` of the last figure-of-merit sample. -/
  fomAt : Nat
  /-- Presets tried, and the best lowest-lane figure with its preset (R246). -/
  tried : Nat
  bestFom : Nat
  bestPreset : Nat
  /-- Generation and lane count asked for by GEN_CHANGE, and those a failed step returns to (R250). -/
  wantGen : Nat
  wantLanes : Nat
  backGen : Nat
  backLanes : Nat
  /-- RS_DETECT as the latest Gen3 training took it (R231, R260). -/
  rsDetect : Bool
  /-- The step has failed and the previous generation is trained again. -/
  returning : Bool
  /-- The last step-down or failed step (R248). -/
  stepAt : Option Nat
  /-- The base has fallen back from LINK (R254), the instant of a fallback that waits for its pattern, and whether the
  fallback went dark. -/
  fell : Bool
  fallAt : Option Nat
  dark : Bool
  /-- The last message sent on PL_BCP/PL_BCN. -/
  bcOut : List Byte
  /-- MAX_RATE and WIDTHS advertised (R242, R344). -/
  widths : Nat
deriving DecidableEq, Repr

/-- What the master holds of a follower (R328, R347, R349). -/
structure Member where
  serial : Nat
  tag : Nat
  cpVer : Nat
  /-- `now` of the last valid STATE entry. -/
  stateAt : Nat
  /-- FLAGS, INPUT and FAULTS of that entry (Table 11-2). -/
  flags : Nat
  input : Nat
  faults : Nat
  /-- Packets that wait for it, oldest first, at most 8. -/
  queue : List Packet
deriving DecidableEq, Repr

/-- The parameters of CASCADE_MODE (Table 11-10). -/
structure CascMode where
  mode : Nat
  clone : Bool
  sliceMap : Nat
  shares : List Nat
deriving DecidableEq, Repr

/-- A marker (Table 11-4) that names a coming boundary. -/
structure Mark where
  frame : Nat
  /-- The boundary it places, on the module's own clock. -/
  boundary : Nat
  tick : Nat
  stretch : Nat
  mode : CascMode
  admitMap : Nat
  power : Nat
  epoch : Nat
deriving DecidableEq, Repr

/-- A TAKE record (Table 11-5). -/
structure Take where
  frame : Nat
  seq : Nat
  rep : Bool
  input : Nat
deriving DecidableEq, Repr

/-- An upward packet in reassembly: segment counter expected next, bytes so far. -/
structure UpAssembly where
  next : Nat
  bytes : List Byte
deriving DecidableEq, Repr

/-- The cascade beyond its registers (11_cascade). -/
structure Cascade where
  /-- In the master: the followers whose HELLO was admitted, by position. In a follower: the modules downstream. -/
  members : Assoc Member
  /-- A CASCADE_MODE that waits for its marker, and its landing boundary once the marker was sent. -/
  modePending : Option CascMode
  modeLands : Option CascMode
  /-- EPOCH of the master's markers. -/
  epoch : Nat
  /-- The command-in ring of every packet forwarded and not yet answered: position, opcode, SEQ, ring (R345). -/
  routes : List (Nat × Nat × Nat × Nat)
  /-- The packet that comes from downstream in segments. -/
  up : Option UpAssembly
  /-- The segment counter of the packet being sent upstream and its bytes still to go. -/
  upSending : Option (Nat × List Byte)
  /-- Messages from downstream that wait to be relayed as requests: TYPE and payload, oldest first (R327). -/
  relay : List (Nat × List Byte)
  /-- The last marker received, and the one for the coming boundary. -/
  last : Option Mark
  mark : Option Mark
  /-- Good markers in a row, and missing ones. -/
  goodMarks : Nat
  missed : Nat
  /-- FRAME of a boundary at which a realignment ends (R334). -/
  realign : Option Nat
  /-- The TAKE for the coming boundary. -/
  take : Option Take
  /-- SEQ and instant of the last frame forwarded whole, the frame being forwarded, the last frame named. -/
  forwarded : Option (Nat × Nat)
  forwarding : Option Nat
  /-- CHECK values of the rows forwarded of it, newest first (R337). -/
  hopChecks : List Nat
  /-- SEQ of the last frame named, and `now` of the last change of the forwarding queue. -/
  named : Option Nat
  queueAt : Nat
  /-- INPUT of the last TAKE showed FALLEN (R340). -/
  takeFallen : Bool
  /-- Compositions held for a coming boundary and shown now, by pixel (R342), in the master. -/
  cloneNext : Option (Nat × NMap)
  cloneShown : NMap
  /-- The guarded boxes of those compositions (R373). -/
  boxNext : List Nat
  boxShown : List Nat
  /-- The composition held for the coming boundary carries content newly landed (R62). -/
  cloneNew : Bool
  /-- Clone compositions that did not arrive, in a row. -/
  cloneMissed : Nat
  /-- `now` of the last HELLO sent; the last STATE payload sent upstream and its instant. -/
  helloAt : Option Nat
  sentState : List Byte
  stateAt : Nat
  /-- The record last sent on the CO_ data lanes, and the message last sent on CO_BCP/CO_BCN. -/
  coOut : List Byte
  coBcOut : List Byte
  /-- Lanes and preset of the hop on the CO_ pads, as the downstream module asked. -/
  coLanes : Nat
  coPreset : Nat
deriving DecidableEq, Repr

/-- A CAN packet in assembly (R303). -/
structure CanAssembly where
  bytes : List Byte
  next : Nat
  lastAt : Nat
deriving DecidableEq, Repr

/-- The DALI-2 control gear (R311 to R316): the variables of IEC 62386-102 and the manufacturer banks. -/
structure Dali where
  /-- The level a fade starts from, its target, its start and its duration in ms. -/
  origin : Nat
  target : Nat
  fadeAt : Nat
  fadeMs : Nat
  /-- MIN LEVEL, MAX LEVEL, POWER ON LEVEL, SYSTEM FAILURE LEVEL, FADE TIME and FADE RATE. -/
  minLevel : Nat
  maxLevel : Nat
  powerOn : Nat
  sysFail : Nat
  fadeTime : Nat
  fadeRate : Nat
  /-- EXTENDED FADE TIME as its byte; FAST FADE TIME of device type 6, in units of 25 ms. -/
  extFade : Nat
  fastFade : Nat
  /-- The last level that was not 0; limitError and powerCycleSeen. -/
  lastActive : Nat
  limitError : Bool
  powerCycle : Bool
  /-- The DAPC sequence: `now` of its last command. -/
  dapcAt : Option Nat
  /-- Scene levels 0 to 15; 255 MASK. -/
  scenes : List Nat
  /-- Group membership, random address and search address. -/
  groups : Nat
  random : Nat
  search : Nat
  /-- initialisationState (0 DISABLED, 1 ENABLED, 2 WITHDRAWN), and `now` of the last INITIALISE. -/
  initState : Nat
  initAt : Nat
  /-- DTR0 to DTR2. -/
  dtr0 : Nat
  dtr1 : Nat
  dtr2 : Nat
  /-- Pattern per scene (bank 2), pattern at power-on; 255 none. -/
  patterns : List Nat
  powerPattern : Nat
  /-- Bank 1 from location 3 on. -/
  bank1 : List Nat
  /-- Banks 1, 2 and 3 are unlocked; memory writes are enabled. -/
  unlocked1 : Bool
  unlocked2 : Bool
  unlocked3 : Bool
  writeEnable : Bool
  /-- The device type enabled for the next command. -/
  deviceType : Option Nat
  /-- The command that must come twice: address, opcode and instant. -/
  once : Option (Nat × Nat × Nat)
  /-- The last backward frame sent. -/
  backward : Option Nat
deriving DecidableEq, Repr

/-- The host buses beyond their registers (10_host_buses). -/
structure Buses where
  canRx : Option CanAssembly
  /-- Segments of the head of ring 9 that have been sent. -/
  canSent : Nat
  /-- Writes to HST_ registers that wait until their reply has left (R321): ring, SEQ, address and word. -/
  deferred : List (Nat × Nat × Nat × Nat)
  /-- The DALI control gear (R311 to R316). -/
  dali : Dali
  /-- Result of the last legacy frame (R319), and the levels written since the last UPDATE. -/
  legacyResult : List Byte
  legacyLevels : NMap
  /-- The bytes last shifted out on SPI_MISO, and the frames last sent on CAN FD and 10BASE-T1S (destination, packet). -/
  spiOut : List Byte
  canOut : List Byte
  t1sOut : Nat × List Byte
deriving DecidableEq, Repr

/-- A confirmed finding (Table 5-1): kind 1 OPEN, 2 LOW, 3 STUCK_OPEN, 4 BRIDGE; of the spare emitter or the primary;
source 0 forward diagnosis, 1 open probe, 2 string-isolation test. -/
structure Finding where
  site : Nat
  kind : Nat
  spare : Bool
  source : Nat
deriving DecidableEq, Repr

/-- An entry of the defect event list (R144): the finding and the reason code of Table 4-8. -/
structure DefectEvent where
  site : Nat
  kind : Nat
  spare : Bool
  reason : Nat
deriving DecidableEq, Repr

/-- A calibration run (R129, R128), and the sites whose defect state diagnosis has changed since it began (R125). -/
structure CalRun where
  mode : Nat
  tiles : List Nat
  startAt : Nat
  found : List Nat
deriving DecidableEq, Repr

/-- A calibration commit (R123): its tiles, the new efficacy tables, their temperatures, reference choices, string map-out
changes, new defect states and ageing codes; the gain codes that concealment clipped in each tile (R119), and the entries that its changes
make in the defect event list (R131). -/
structure CalCommit where
  at_ : Nat
  tiles : List Nat
  eff : NMap
  effTheta : Assoc Nat
  refs : Assoc Nat
  masked : Assoc Bool
  states : Assoc Nat
  ages : Assoc Nat
  run : Bool
  clips : Assoc Nat
  events : List DefectEvent
deriving DecidableEq, Repr

/-- The scratch descriptor (R105): the block the scratch data is of (kind * 256 + tile), its CRC, whether the valid mark is written. -/
structure Scratch where
  block : Nat
  crc : Nat
  valid : Bool
deriving DecidableEq, Repr

/-- A forward-voltage reading taken into the ageing record (R137): VF, class, emitter, tile temperature, on-time. -/
structure VfRead where
  vf : Nat
  cls : Nat
  spare : Bool
  theta : Nat
  at_ : Nat
deriving DecidableEq, Repr

/-- Calibration beyond its registers and memories (04_emitter_calibration_and_repair). -/
structure Calib where
  /-- Home blocks of the calibration store whose CRC fails: kind * 256 + tile (R104, R105). -/
  bad : List Nat
  /-- The block CRCs of the header, by block; that of a block not listed is the block's as delivered (R104). The scratch descriptor, `none`
  while it is erased (R105). -/
  crc : Assoc Nat
  scratch : Option Scratch
  /-- YREF, droop table D and thermal factors H of the header, in units of 1/32,768. -/
  yref : Nat
  droop : List Nat
  heat : Nat × Nat × Nat
  /-- The calibration run (R125). -/
  run : Option CalRun
  /-- The commit that waits to land (R123), and the landed commit whose blocks are being written (R127). -/
  pending : Option CalCommit
  writing : Option CalCommit
  /-- Temperature of each tile's front efficacy table, and of a refused one (R124); 16-bit codes of 0.1 °C. -/
  effTheta : NMap
  refused : Assoc Nat
  /-- Tile temperatures latched at the last boundary (R109). -/
  latched : NMap
  /-- Per-tile accumulators of R117 and the instant of the MP's last reading; equivalent hours, in 10^-12 h, in always-on
  memory and in the repair record. -/
  acc : NMap
  accAt : Nat
  et : NMap
  etRecord : NMap
  /-- Module on-time in ms at the last completed calibration, and at the last record of Et. -/
  calOn : Nat
  etOn : Nat
  /-- Forward-voltage readings by site. -/
  vf : Assoc VfRead
  /-- Defect event list, newest first (R144). -/
  events : List DefectEvent
  /-- The tiles that diagnosis changed, the sites it moved to their spare, and the notice's instant (R116). -/
  followTiles : List Nat
  moved : List Nat
  followAt : Option Nat
  /-- Reference moves that wait for the next commit (R121): tile and reference; the deviations of the last ABIST regulator reference
  check, by 4 * tile + reference. -/
  refMove : Assoc Nat
  refDev : Assoc Nat
  /-- Gain codes of the front copy that concealment clipped, by tile (R119). -/
  clips : NMap
  /-- Rows of Table 4-5 exceeded in the field (R120). -/
  exceeded : List Nat
  /-- SRAM rows mapped to spare rows, those whose mapping is in effect since their bank powered up from off, and rows with a corrected
  error in a CHK0 scan with its time (R122). -/
  rowMap : List Nat
  rowsIn : List Nat
  corrected : Assoc Nat
  /-- Changes of the string map-out mask that wait for a commit (R25): string and whether it is out. -/
  bistMask : Assoc Bool
  /-- Power failed, or a reset fell, while blocks were being written (R127). -/
  incomplete : Bool
deriving DecidableEq, Repr

/-- Pixel diagnosis beyond its registers (05_pixel_diagnosis_and_reverse_sensing). -/
structure Diag where
  /-- Confirmed forward findings not yet reported (R136), findings reported in this slot or held (R144, R145). -/
  pending : List Finding
  slot : List Finding
  /-- Forward samples that gave a finding last, by site * 2 + (0 lit, 1 dark) (R136). -/
  lit : NMap
  /-- Unconfirmed probe findings, by site * 4 + (0 primary, 1 spare, 2 shunt): the kind (R141). -/
  probe : NMap
  /-- Priority rows, head first; true for a hint (R141). -/
  queue : List (Nat × Bool)
  /-- Rows hinted in this frame, oldest first, and samples taken in this frame, by site * 2 + (0 lit, 1 dark) (R133, R138). -/
  hints : List Nat
  sampled : NMap
  /-- Probed rows of this slot, and its priority row, chosen at Sk (R139, R141). -/
  probed : Nat
  prio : Option Nat
deriving DecidableEq, Repr

/-- Reverse sensing beyond its registers and maps. -/
structure Sensing where
  /-- A SENSE_CONFIG that applies from the next reading (R157). -/
  config : Option (List Byte)
  /-- Bins flagged bright, consecutive changes by bin (R152). -/
  bright : NMap
  run : NMap
  /-- The last 16 used readings and the last 64 steady readings of each bin, newest first; steady readings so far. -/
  used : Assoc (List Nat)
  steady : Assoc (List Nat)
  steadyCount : Nat
  /-- Mean of all bins in the previous reading. -/
  mean : Option Nat
  /-- Bins lit in the light frame before the running one (R150). -/
  litBefore : List Nat
  /-- Presence: instant of the last qualifying bin, and of the setting of the flag, by zone (R154). -/
  heldAt : Assoc Nat
  setAt : Assoc Nat
  /-- The sensed-source mask that shows from the boundary after the coming one, the one before it, and bins that return to 1 with the
  boundary at which they left (R156). -/
  next : Option NMap
  mask : NMap
  leaving : Assoc Nat
deriving DecidableEq, Repr

/-- Temperature and throttling beyond its registers (15_temperature_and_throttling). -/
structure Thermal where
  /-- Start of the last sweep, its codes until they are published, and its elapsed time. -/
  sweepAt : Option Nat
  codes : Option (List Nat)
  sweepTime : Nat
  published : Option Nat
  /-- Consecutive sweeps in which the sensors of each tile row differed by more than 40.0 °C, and in which a suspect sensor
  was good. -/
  differ : List Nat
  good : List Nat
  /-- Sum of per-frame tile powers since the last sweep, in mW, and the frames counted (R473). -/
  power : Assoc Rat
  frames : Nat
  /-- The same as the last sweep found them (R473). -/
  sweptPower : Assoc Rat
  sweptFrames : Nat
  /-- `now` of the last evaluation of the limit. -/
  evalAt : Nat
  /-- Landing instant of the running boost, end of the last one (R478). -/
  boostAt : Option Nat
  boostEnd : Option Nat
  /-- θmax of the previous sweep (16-bit code). -/
  lastMax : Option Nat
  /-- The stop without fade (R480). -/
  hardStop : Bool
  /-- The weight of the stop image and the fade in ms that the MP has asked of a CP that is away (R479 to R481). -/
  asked : Option (Nat × Nat)
  /-- The last rise was 2.0 °C per light frame or more; the elapsed time of the sweep last published. -/
  fast : Bool
  pubTime : Nat
deriving DecidableEq, Repr

/-- What one ABIST item or LBIST unit gave (Table 16-10). -/
structure TestEntry where
  code : Nat
  /-- Table 16-3. -/
  result : Nat
  fails : Nat
  /-- Skipped elements of an ABIST item, or patterns run of an LBIST unit. -/
  skipPat : Nat
  /-- First failing element, or the signature. -/
  data : Nat
deriving DecidableEq, Repr

/-- A test run's result (Table 16-10). -/
structure TestResult where
  /-- 0 START_UP, 1 COMMAND, 2 SHUTDOWN. -/
  origin : Nat
  verdict : Nat
  skipped : Bool
  overflow : Bool
  /-- The start-up ABIST was skipped on this result. -/
  reused : Bool
  epoch : Nat
  time : Nat
  quality : Nat
  entries : List TestEntry
deriving DecidableEq, Repr

/-- A test run: its engine (0 ABIST, 1 LBIST), the items or units still to run, the running one first, and what the ones
before gave, in code order. -/
structure TestRun where
  engine : Nat
  origin : Nat
  left : List Nat
  clear : Bool
  startAt : Nat
  done : List TestEntry
  skipped : Bool
  overflow : Bool
deriving DecidableEq, Repr

/-- Self-test beyond its registers (16_self_test). -/
structure SelfTest where
  run : Option TestRun
  abist : Option TestResult
  lbist : Option TestResult
  /-- The stored shutdown result (VALID), whether it is consumed (R502), and one held for entry step 3. -/
  shut : Option TestResult
  consumed : Bool
  held : Option TestResult
  /-- The map-out list of the self-test record (kind, element; Table 16-4), at most 768, and what is mapped out beyond it. -/
  maps : List (Nat × Nat)
  session : List (Nat × Nat)
  /-- Bins and lanes released by CLEAR_MAP whose release has not landed (R492). -/
  released : List (Nat × Nat)
  /-- Temperature sensors that failed the TEMP item of the last ABIST that ran it (Table 16-1). -/
  suspect : List Nat
  /-- Write sequence of the record. -/
  seq : Nat
  /-- The record could not be read at this start (R493). -/
  lost : Bool
deriving DecidableEq, Repr

/-- What firmware update keeps of a core: the image state word in force (R511), the image, the running copy. -/
structure CoreImage where
  /-- SEQ, STATE (Table 17-2), ATTEMPTS, EXPIRED, MIGRATION_FAILED, VERSION, ROLLBACK, DIGEST and ON_TIME (s) of the word. -/
  seq : Nat
  state : Nat
  attempts : Nat
  expired : Bool
  migration : Bool
  version : Nat
  rollback : Nat
  digest : List Byte
  onSaved : Nat
  /-- Window time in base cycles up to `countedAt` (R521). -/
  onTime : Nat
  countedAt : Nat
  /-- The region holds the image as delivered, and so does the archive; the spec gives no byte of that image. -/
  delivered : Bool
  archived : Bool
  /-- The running image: its digest (empty while none runs), and the format it reads of the settings record. -/
  running : List Byte
  format : Nat
  /-- Format of the core's section in the settings record in force, and in the preserved record (R523). -/
  section_ : Nat
  preserved : Nat
deriving DecidableEq, Repr

/-- Firmware update beyond its registers (17_firmware_update). -/
structure Update where
  cores : List CoreImage
  /-- Header of the session's image, the chunk accepted last (SEQ, CRC), and whether the target was GREEN or VERIFIED. -/
  header : List Byte
  lastChunk : Option (Nat × Nat)
  again : Bool
  /-- The core of the last accepted UPDATE_BEGIN (R525). -/
  lastTarget : Option Nat
  /-- `now` at which the session entered its state. -/
  since : Nat
  /-- Core that restarts by an activation or a fallback, and whether it is a fallback; its restart waits for PERMIT (R358). -/
  restart : Option (Nat × Bool)
  /-- Cores for which the loader holds the module (R512). -/
  holds : List Nat
  /-- The core of the activation that is not yet reported: its image sends ACTIVATED once it runs (R518). -/
  activated : Option Nat
  /-- The settings registers of the preserved record (R523), as `State.regs` holds them. -/
  kept : NMap
  /-- Its field map. -/
  keptMap : Option FieldMap
deriving DecidableEq, Repr

/-- A scan as a check unit latched it at GO (R538). -/
structure CheckScan where
  /-- `now` at GO. -/
  at_ : Nat
  start : Nat
  len : Nat
  poly : Nat
  fold : Option Nat
  compare : Bool
  expect : Nat
deriving DecidableEq, Repr

/-- The check units and crossings beyond their registers (18_check_values_crossings_counters). -/
structure Checks where
  scans : Assoc CheckScan
  /-- Crossings whose reset sequence runs, and the items discarded since it began (R545). -/
  resets : Assoc Nat
  /-- Light-frame boundaries counted by crossing 10 while it is held in reset (R544, R545). -/
  pulses : Nat
deriving DecidableEq, Repr

/-- What the settings record holds when the registers are lost: registers as `State.regs` holds them, and the field map. -/
structure Settings where
  regs : NMap
  map : Option FieldMap
  /-- A record has been written; without one the defaults of the variant and the role stand. -/
  written : Bool
deriving DecidableEq, Repr

/-- The state of the block. -/
structure State where
  /-- Base cycles of 10 ns since the model began. -/
  now : Nat
  /-- Commands waiting, first in, first out. -/
  pending : List Instr
  /-- Draws of free values made so far (the model's own). -/
  draws : Nat
  /-- Registers: the exclusive-or of each field's value with its reset value, by address * 32 + lowest bit. -/
  regs : NMap
  /-- High words latched by reads of low words (R550), by address of the high word. -/
  latches : NMap
  /-- SRAM and always-on memory (unlisted bytes 0), NVM (each byte exclusive-or its content as delivered, so unlisted bytes are
  as delivered), external flash (unlisted bytes 0xFF, erased). -/
  sram : Memory
  aon : Memory
  nvm : Memory
  flash : Memory
  /-- The 32 rings (Table 1-9), each oldest first. -/
  rings : Assoc (List Packet)
  phase : Phase
  cpUp : Bool
  mpUp : Bool
  spUp : Bool
  id : Identity
  pads : Pads
  clk : Clock
  proto : Proto
  flt : Collector
  ks : Shutter
  sp : SafetyCore
  com : Commission
  locks : LockCopies
  pwr : Power
  scan : Scan
  beam : Beam
  lib : Library
  link : Link
  casc : Cascade
  bus : Buses
  cal : Calib
  diag : Diag
  sns : Sensing
  tmp : Thermal
  bst : SelfTest
  upd : Update
  chk : Checks
  saved : Settings
deriving DecidableEq, Repr

/-! ### The state after reset

Registers stand at the reset values of their tables (R11): `regs` lists what differs, so it is empty. What the spec gives no
reset value for stands at the value that notes/assumptions/1.md names. -/

/-- The layer descriptors after a VAUX, VCORE or VANA reset and on leaving SLEEP (R196). -/
def Tables.resetLayer (n : Nat) : Layer :=
  ⟨if n = 0 then 1 else 0, 0, if n = 0 then 0 else 4, n, 0, 2047, 0, 511, 0, 0, 0, 0, 0, 0, decide (n = 0), false⟩

/-- Meeting place 1 at start: no context, the layers of R196, base DARK, dimmer 4,096 (R196, R438, R447). -/
def Tables.initial : Tables :=
  { ctxs := [], layers := (List.range 8).map Tables.resetLayer, base := ⟨2, 0, 0, false, 0⟩, map := none
    dimmer := ⟨4096, 0, false, 0⟩, stop := ⟨0, 0, false, 0⟩, flips := [], bisque := none, list := none }

/-- Beam synthesis at start. -/
def Beam.initial : Beam :=
  { front := Tables.initial, waiting := none, work := Tables.initial, editions := 0, fades := [], oldBase := ⟨2, 0, 0, false, 0⟩
    oldMix := [], baseFade := none, dimFade := ⟨4096, 4096, 0, 0, false⟩, stopFade := ⟨0, 0, 0, 0, false⟩
    list := none, lastList := none, activeAt := 0, t1At := none, t2At := none, fallBase := none, listSince := false, loading := none, reload := false, queued := none
    micro := [none, none], buffers := [], part0 := none, part1 := none, stage := [], buildAt := none, buildEvent := false, queuedEvent := false, queuedStage := [], flipLanded := []
    symbolWait := [], symbolSince := 0, linkBuffer := none, ssd := [] }

/-- Scan-out and the latches before the backplane timing base starts. -/
def Scan.initial : Scan :=
  { running := false, frameStart := 0, inSlot := false, resetAt := none, loading := false, row := 0, staged := false, rowDone := false
    resent := false, repeats := [], reloads := [], convKey := none, changed := false, decision := none, witness := [], received := none
    shadowPwm := [], shadowClass := [], activePwm := [], activeClass := [], sel := [], byp := [], clamped := [], convClass := []
    convPwm := [], boxRun := [], rowRun := [], boxShown := [], rowShown := [], soft := 1, clips := [], conducting := false, split := false
    compl := [], vregMin := 255, inputTimes := [], lastInput := none, video := none, lockGood := 0, lockBad := 0, aligned := 0, wordAt := none, wordRaw := 0
    sinceDrop := 0, sinceVset := 0, highRun := 0, effFront := [], sent := false, lit := false, vtrackFrom := none, vtrackOld := 300
    vtrackCode := 300, vtrackAt := 0, late := [], idle := [] }

/-- The pixel link receiver when it is disabled. -/
def Link.initial : Link :=
  { stateAt := 0, upAt := 0, everUp := false, retryAt := none, lastAccept := none, holdAt := none, rx := none, prevValid := none
    ready := [], useCheck := none, useBoxes := [], srcTime := 0, partner := [], request := 0, payload := [], requestAt := 0, missing := 0
    failedAt := none, echoes := 0, echoSum := 0, t0 := 0, polledAt := 0, pollSeq := 0, pollFlags := 0, good96 := 0, good160 := 0
    low64 := [], fomAt := 0, tried := 0, bestFom := 0, bestPreset := 0, wantGen := 0, wantLanes := 0, backGen := 0, backLanes := 0
    rsDetect := false, returning := false, stepAt := none, fell := false, fallAt := none, dark := false, bcOut := [], widths := 3 }

/-- The cascade before any HELLO. -/
def Cascade.initial : Cascade :=
  { members := [], modePending := none, modeLands := none, epoch := 0, routes := [], up := none, upSending := none, relay := []
    last := none, mark := none, goodMarks := 0, missed := 0, realign := none, take := none, forwarded := none, forwarding := none, hopChecks := []
    named := none, queueAt := 0, takeFallen := false, cloneNext := none, cloneShown := [], boxNext := [], boxShown := []
    cloneNew := false, cloneMissed := 0, helloAt := none, sentState := [], stateAt := 0, coOut := [], coBcOut := [], coLanes := 0, coPreset := 0 }

/-- The DALI-2 gear as IEC 62386-102 delivers it (notes/assumptions/20.md). -/
def Dali.initial : Dali :=
  { origin := 0, target := 0, fadeAt := 0, fadeMs := 0, minLevel := 1, maxLevel := 254, powerOn := 254, sysFail := 254, fadeTime := 0
    fadeRate := 7, extFade := 0, fastFade := 0, lastActive := 254, limitError := false, powerCycle := true, dapcAt := none
    scenes := List.replicate 16 255, groups := 0, random := 0xFFFFFF, search := 0xFFFFFF, initState := 0, initAt := 0
    dtr0 := 0, dtr1 := 0, dtr2 := 0, patterns := List.replicate 16 255, powerPattern := 255, bank1 := List.replicate 14 255
    unlocked1 := false, unlocked2 := false, unlocked3 := false
    writeEnable := false, deviceType := none, once := none, backward := none }

/-- The host buses at start. -/
def Buses.initial : Buses :=
  { canRx := none, canSent := 0, deferred := [], dali := Dali.initial, legacyResult := [], legacyLevels := [], spiOut := [], canOut := []
    t1sOut := (0, []) }

/-- The command protocol at start: rings empty, nothing kept. -/
def Proto.initial : Proto :=
  { evSeq := [], lost := [], history := [], assembly := [], turn := 0, held := [], replyTo := 0, t1sSource := none, resetDue := none, reserved := none }

/-- The fault collector after a VAUX reset (R407, R411). -/
def Collector.initial : Collector :=
  { nextSeq := 0, kiln := [], uncleared := [], merged := [], windows := [], pulses := 0, pulseAt := 0, plog := [], plogPending := [], exported := 0
    exportNo := 0, exportOn := 0, injectAt := 0, injectSingle := false, injectUsed := false }

/-- A pair at rest (R379): A low, B high. -/
def PairView.rest : PairView := ⟨false, true, false, none, false, 0⟩

/-- Both copies of the Kiln Shutter's configuration as delivered, and nothing decided yet (R42). -/
def Shutter.initial (copy0 copy1 : KsCopy) : Shutter :=
  { armed := false, copy0 := copy0, copy1 := copy1, toggled := false, lastToggle := none, permitRose := 0, permitFell := 0
    hperm := PairView.rest, limp := PairView.rest, armAt := none, armedAt := 0, lastConduct := none, rampAt := none
    vstrOff := false, limpCheckBad := false, waiting := [], keep := false, taken := true, ramped := false, lastLimp := none }

/-- The SP before it boots. -/
def SafetyCore.initial : SafetyCore :=
  { hperm := PairView.rest, limp := PairView.rest, coverageOk := false, lbistOk := false, halted := false, digest := [], armNonce := 0
    armAt := 0, lastOutputFault := none, changes := [], misses := 0, pause := 0, lastSig := none, lastFrame := none
    boxShown := [], limitDone := false, cutPending := none }

/-- Power management at start. -/
def Power.initial : Power :=
  { entry := none, wake := none, wakeAfter := none, waiting := none, serviceFrom := 0, servicePacket := 0, vflag := 0, rebuilding := []
    daliFrame := none, heldReset := 0, heldUntil := 0, activePending := none, measAt := 0, keepStraps := false, onTime := 0
    onAt := 0 }

/-- Diagnosis, sensing and temperature at start. -/
def Diag.initial : Diag := ⟨[], [], [], [], [], [], [], 0, none⟩
def Sensing.initial : Sensing := ⟨none, [], [], [], [], 0, none, [], [], [], none, [], []⟩
def Thermal.initial : Thermal :=
  { sweepAt := none, codes := none, sweepTime := 0, published := none, differ := [], good := [], power := [], frames := 0, sweptPower := []
    sweptFrames := 0, evalAt := 0, boostAt := none, boostEnd := none, lastMax := none, hardStop := false, asked := none, fast := false, pubTime := 0 }

/-- A calibration store as delivered. -/
def Calib.initial : Calib :=
  { bad := [], crc := [], scratch := none, yref := 65535, droop := List.replicate 64 32768, heat := (32768, 32768, 32768), run := none, pending := none
    writing := none, effTheta := [], refused := [], latched := [], acc := [], accAt := 0, et := [], etRecord := []
    calOn := 0, etOn := 0, vf := [], events := [], followTiles := [], moved := [], followAt := none, refMove := [], refDev := []
    clips := [], exceeded := [], rowMap := [], rowsIn := [], corrected := [], bistMask := [], incomplete := false }

/-- A core's image as delivered: CONFIRMED, its digest named (notes/assumptions/1.md). -/
def CoreImage.delivered_ (core : Nat) : CoreImage :=
  { seq := 0, state := 4, attempts := 0, expired := false, migration := false, version := 0, rollback := 0, digest := le 32 (core + 1)
    onSaved := 0, onTime := 0, countedAt := 0, delivered := true, archived := false, running := [], format := 1, section_ := 1
    preserved := 1 }

/-- The block right after reset: VAUX is good, PD0 and PD12 have left reset, VCORE and VANA are still to come (Table 1-10,
first row), every register at its reset value (R11), nothing in any memory, an uncommissioned FK8210-AW in FIELD. -/
def State.reset : State :=
  let block := deliveredBlock 0
  { now := 0, pending := [], draws := 0, regs := [], latches := [], sram := [], aon := [], nvm := [], flash := [], rings := []
    phase := .alwaysOn, cpUp := false, mpUp := false, spUp := false
    id := { variant := .aw, lifecycle := .field, nextLifecycle := .field, serial := 1, mac := 1, lcKeyHash := le 32 1, updKeyHash := le 32 2
            dieRevs := 0, loaderVer := 0, role := 0, legacy := false, testEn := false, lcNonce := 0, lbistRefs := [0, 0, 0, 0, 0]
            otpLevels := [0, 0, 0] }
    pads := { bootMode := false, role := 0, testEn := false, refclk := true, hpermA := false, hpermB := true, limpA := false, limpB := true
              vcore := 0, vana := 0, vaux := 3300, vstr := 24500 }
    clk := { start := 0, offset := 0, timeSet := false, compAt := none, errBase := 0, errAt := 0, alarm := 0, epochStored := 0
             epochDone := false }
    proto := Proto.initial, flt := Collector.initial, ks := { Shutter.initial ⟨true, 1, block⟩ ⟨true, 1, block⟩ with armAt := some 0 }, sp := SafetyCore.initial
    com := { block := block, staged := none, writing := none, confirmedDigest := [], time := 0, mirror := false }
    locks := ⟨none, none, none⟩, pwr := Power.initial, scan := Scan.initial, beam := Beam.initial
    lib := { devices := [], patterns := [], symbols := [], install := none, resident := [], raised := [], legacyWaiting := none, containers := []
             archive := [], exports := [], backups := [] }
    link := Link.initial, casc := Cascade.initial, bus := Buses.initial, cal := Calib.initial, diag := Diag.initial
    sns := Sensing.initial, tmp := Thermal.initial
    bst := { run := none, abist := none, lbist := none, shut := none, consumed := false, held := none, maps := [], session := [], released := [], suspect := []
             seq := 0, lost := false }
    upd := { cores := (List.range 3).map CoreImage.delivered_, header := [], lastChunk := none, again := false, lastTarget := none, since := 0
             restart := none, holds := [], activated := none, kept := [], keptMap := none }
    chk := ⟨[], [], 0⟩, saved := ⟨[(Reg.CAL_COUNT.COUNT.addr * 32, 1), (Reg.CAL_WINDOW.MASK.addr * 32, 0xFFFF)], none, false⟩ }

end Sys2Proof.Machine
end

