-- ==== Sys2Proof/Machine/Ops.lean ====
section
/-! DEFINITION. The shared operations: registers and counters, time, rings, events and replies. -/

namespace Sys2Proof.Machine

/-! ### Registers -/

/-- The key of a field in `State.regs`. -/
def Field.key (f : Field) : Nat := f.addr * 32 + f.lo

/-- The value of a field. -/
def State.get (s : State) (f : Field) : Nat := Assoc.get 0 s.regs f.key ^^^ f.reset

/-- A field set to a value, cut to its width. -/
def State.set (s : State) (f : Field) (v : Nat) : State :=
  { s with regs := Assoc.set 0 s.regs f.key ((v % 2 ^ f.width) ^^^ f.reset) }

/-- A one-bit field as a truth value. -/
def State.flag (s : State) (f : Field) : Bool := s.get f != 0

/-- Several fields set, in order. -/
def State.setAll (s : State) : List (Field × Nat) → State
  | [] => s
  | (f, v) :: l => State.setAll (s.set f v) l

/-- The greatest value of a field. -/
def Field.max (f : Field) : Nat := 2 ^ f.width - 1

/-- Every register whose address lies in `[lo, hi)` back at its reset value (R11). -/
def State.resetRegs (s : State) (lo hi : Nat) : State :=
  { s with regs := Assoc.clearRange s.regs (lo * 32) (hi * 32) }

/-! ### Free values, time -/

/-- The next free value (the model's own counter moves on). -/
def State.free (s : State) : Nat := Config.free s.draws

/-- After a free value was taken. -/
def State.drawn (s : State) : State := { s with draws := s.draws + 1 }

/-- LC_NONCE takes a new random value (R289). -/
def State.freshNonce (s : State) : State := { s with id := { s.id with lcNonce := s.free % 2 ^ 32 } }.drawn

/-- Time moves on by `n` base cycles. -/
def State.wait (s : State) (n : Nat) : State := { s with now := s.now + n }

/-- Time moves on to the instant `t` unless it is past already. -/
def State.until (s : State) (t : Nat) : State := { s with now := max s.now t }

/-- Milliseconds and microseconds in base cycles of 10 ns. -/
def ms (n : Nat) : Nat := n * 100000
def us (n : Nat) : Nat := n * 100

/-- A band of the spec (00_scope, Notation): `true` from `yes` upwards, `false` up to `no`, either outcome between. -/
def band (rule key no yes x : Nat) : Bool :=
  if yes ≤ x then true else if x ≤ no then false else Config.choice rule key

/-- Slow-clock ticks of the elapsed-time counter: 32,768 Hz against 100 MHz (R458), 48 bits. -/
def State.ticks (s : State) : Nat := (s.now - s.clk.start) * 128 / 390625 % 2 ^ 48

/-- TIME of R458, µs. -/
def State.time (s : State) : Nat := (s.clk.offset + s.ticks * 15625 / 512) % 2 ^ 64

/-- Whether RC compensation is current (R459): trimmed within the last 10 s. -/
def State.compCurrent (s : State) : Bool :=
  match s.clk.compAt with
  | none => false
  | some t => decide (s.now ≤ t + 1000000000)

/-- The time quality (R459). -/
def State.quality (s : State) : Nat :=
  if !s.clk.timeSet then 3
  else if s.flag Reg.PWR_TIME_STATUS.XTAL then 0
  else if s.compCurrent then 1 else 2

/-- The elapsed-time epoch (R462). -/
def State.epoch (s : State) : Nat := s.get Reg.PWR_TIME_STATUS.EPOCH

/-- PWR_TIME_ERR (R460): the bound accumulated, plus the growth since at the present source. -/
def State.timeErr (s : State) : Nat :=
  let run := (s.now - s.clk.errAt) / 100
  let good := match s.clk.compAt with
    | none => 0
    | some t => (min s.now (t + 1000000000) - s.clk.errAt) / 100
  let grown := if s.flag Reg.PWR_TIME_STATUS.XTAL then 0 else good * 5000 / 1000000 + (run - good) * 30000 / 1000000
  min 0xFFFFFFFF (s.clk.errBase + grown)

/-! ### Identity -/

/-- LIFECYCLE of Table 9-7. -/
def LifeCycle.code : LifeCycle → Nat
  | .blank => 0 | .manufacture => 1 | .field => 2 | .service => 3 | .returned => 4

/-- The life-cycle state with a code of Table 9-7. -/
def LifeCycle.ofCode : Nat → Option LifeCycle
  | 0 => some .blank | 1 => some .manufacture | 2 => some .field | 3 => some .service | 4 => some .returned
  | _ => none

/-- VARIANT of Table 9-7. -/
def Variant.code : Variant → Nat
  | .aw => 0 | .iw => 1

/-- The module is a cascade follower (R322). -/
def State.follower (s : State) : Bool := s.id.role != 0

/-- The node tag (R266). -/
def State.tag (s : State) : Nat := s.get Reg.SYS_NODE_TAG.TAG

/-- POWER of Table 9-8: 0 TRANSITION, 1 ACTIVE, 2 READY, 3 STANDBY, 4 SLEEP. -/
def State.power (s : State) : Nat := s.get Reg.PWR_STATE.POWER

/-- Module on-time in base cycles: it runs in ACTIVE and READY and through entries, wakes and starts (notes/assumptions/73.md). -/
def State.onTotal (s : State) : Nat :=
  if s.power ≤ 2 ∧ s.phase ≠ .dark ∧ s.phase ≠ .alwaysOn then s.pwr.onTime + (s.now - s.pwr.onAt) else s.pwr.onTime

/-- Module on-time in ms. -/
def State.onMs (s : State) : Nat := s.onTotal / 100000

/-- On-time counted up to now, before a change of what it depends on. -/
def State.countOn (s : State) : State := { s with pwr := { s.pwr with onTime := s.onTotal, onAt := s.now } }

/-- Power management after a reset: on-time alone goes on. -/
def State.freshPower (s : State) : Power := { Power.initial with onTime := s.pwr.onTime, onAt := s.now }

/-- The power state set, in SYS_STATE and PWR_STATE alike. -/
def State.setPower (s : State) (p : Nat) : State := (s.countOn.set Reg.PWR_STATE.POWER p).set Reg.SYS_STATE.POWER p

/-- MODE of Table 9-8: 0 NATIVE, 1 LEGACY, 2 LOADER. -/
def State.mode (s : State) : Nat :=
  match s.phase with
  | .loaderHold => 2
  | _ => if s.id.legacy then 1 else 0

/-- The module is locked out (R385). -/
def State.lockedOut (s : State) : Bool := s.flag Reg.SAF_STATUS.LOCKED_OUT

/-! ### Rings (R40: a full ring is never overwritten) -/

/-- The packets of a ring, oldest first. -/
def State.ring (s : State) (n : Nat) : List Packet := Assoc.get [] s.rings n

/-- A ring replaced. -/
def State.setRing (s : State) (n : Nat) (q : List Packet) : State := { s with rings := Assoc.set [] s.rings n q }

/-- A ring has a free entry: each holds 64. -/
def State.ringRoom (s : State) (n : Nat) : Bool := decide ((s.ring n).length < 64)

/-- An event may enter a ring: it has a free entry beside those kept for the reply of a request being executed (R281: replies
are never dropped). -/
def State.eventRoom (s : State) (n : Nat) : Bool :=
  match s.proto.reserved with
  | some (m, k) => if m = n then decide ((s.ring n).length + k < 64) else s.ringRoom n
  | none => s.ringRoom n

/-- A packet put at the end of a ring; a full ring takes none (R40). -/
def State.push (s : State) (n : Nat) (p : Packet) : State :=
  if s.ringRoom n then s.setRing n (s.ring n ++ [p]) else s

/-- The head of a ring taken off. -/
def State.pop (s : State) (n : Nat) : State := s.setRing n (s.ring n).tail

/-! ### Packets -/

/-- The 8-byte header of Table 9-1. -/
def header (opcode seq flags plen target : Nat) : List Byte :=
  le 2 opcode ++ [byte seq, byte flags] ++ le 2 plen ++ [byte target, byte 0]

/-- A packet sealed with a fold word (R265). -/
def sealed (tag opcode seq flags target : Nat) (params : List Byte) : List Byte :=
  let body := header opcode seq flags params.length target ++ params
  body ++ le 2 (trailer tag body)

/-- Parameters cut into fragments of 1,014 bytes (R277, R279), with fuel. -/
def fragments : Nat → List Byte → List (List Byte)
  | 0, ps => [ps]
  | k + 1, ps => if ps.length ≤ 1014 then [ps] else ps.take 1014 :: fragments k (ps.drop 1014)

/-- A reply as one packet or as consecutive fragments (R270, R279). -/
def replyPackets (tag opcode seq target : Nat) (params : List Byte) : List (List Byte) :=
  match fragments 4 params with
  | [ps] => [sealed tag (opcode + 0x8000) seq 0 target ps]
  | ps => ps.mapIdx (fun i p => sealed tag (opcode + 0x8000) seq (if i + 1 = ps.length then 6 else 2) target p)

/-! ### IRQ_N (R423) -/

/-- A cause of Table 13-5 set. -/
def State.irq (s : State) (cause : Nat) : State :=
  s.set Reg.FLT_IRQ_STATUS.CAUSE (s.get Reg.FLT_IRQ_STATUS.CAUSE ||| 2 ^ cause)

/-- FLT_IRQ_STATUS.CAUSE as read: bit 3 follows reply ring 8. -/
def State.irqCause (s : State) : Nat :=
  let c := s.get Reg.FLT_IRQ_STATUS.CAUSE
  (c - (c / 8 % 2) * 8) + (if (s.ring 8).isEmpty then 0 else 8)

/-- IRQ_N is low (R423). -/
def State.irqLow (s : State) : Bool := (s.irqCause &&& s.get Reg.FLT_IRQ_EN.EN) != 0

/-! ### Events (R280, R281) -/

/-- The position of the module (R269). -/
def State.position (s : State) : Nat := s.id.role

/-- A field raised by one, saturating (R547); answers whether this increment took it to all ones. -/
def State.bumpQuiet (s : State) (f sat : Field) : State × Bool :=
  let v := s.get f
  if v = f.max then (s, false)
  else if v + 1 = f.max then ((s.set f (v + 1)).set sat 1, true)
  else (s.set f (v + 1), false)

/-- An event packet of the module at a position put into reply ring `n`, whose counter moves on. -/
def State.placeEvent (s : State) (pos n opcode : Nat) (payload : List Byte) : State :=
  let seq := Assoc.get 0 s.proto.evSeq n
  let p : Packet := ⟨sealed s.tag opcode seq 0 pos payload, 0, s.now⟩
  let s := s.push n p
  { s with proto := { s.proto with evSeq := Assoc.set 0 s.proto.evSeq n ((seq + 1) % 256) } }

/-- The number of events dropped for a reply ring and not reported. -/
def State.setLost (s : State) (n v : Nat) : State :=
  { s with proto := { s.proto with lost := Assoc.set 0 s.proto.lost n v } }

/-- The payload of EVENTS_LOST (Table 9-4). -/
def eventsLostPayload (s : State) (lost : Nat) : List Byte := le 2 lost ++ le 6 0 ++ le 8 s.time

/-- The EVENTS_LOST event placed if events were dropped for the ring and an entry is free (R281). -/
def State.placeLost (s : State) (n : Nat) : State :=
  let lost := Assoc.get 0 s.proto.lost n
  if lost = 0 then s
  else if s.eventRoom n then
    (s.placeEvent s.position n 0xF0FF (eventsLostPayload s lost)).setLost n 0
  else s

/-- One event for one reply ring: placed, or dropped and counted for that ring. -/
def State.eventRing (s : State) (pos n opcode : Nat) (payload : List Byte) : State × Bool :=
  let s := s.placeLost n
  if s.eventRoom n then ((s.placeEvent pos n opcode payload).irq 4, false)
  else
    let s := s.setLost n (min 65535 (Assoc.get 0 s.proto.lost n + 1))
    let s := s.set Reg.SYS_FLAGS.EVT_LOST 1
    s.bumpQuiet Reg.SYS_EVENT_DROP_COUNT.COUNT Reg.SYS_FLAGS.CNT_SAT

/-- The reply rings an event goes to: the bits of SYS_EVENT_ROUTE but bit 3 (Table 9-17). -/
def State.eventRings (s : State) : List Nat :=
  [0, 1, 2, 4].filterMap (fun i => if bit (s.get Reg.SYS_EVENT_ROUTE.ROUTE) i then some (i + 8) else none)

/-- An event for each ring of a list; answers whether the drop counter saturated. -/
def State.eventRingList (s : State) (pos opcode : Nat) (payload : List Byte) : List Nat → State × Bool
  | [] => (s, false)
  | n :: ns =>
    let (s, a) := s.eventRing pos n opcode payload
    let (s, b) := State.eventRingList s pos opcode payload ns
    (s, a || b)

/-- The COUNTER_SAT payload (Table 9-4). -/
def counterSatPayload (s : State) (addr : Nat) : List Byte := le 4 addr ++ le 4 0 ++ le 8 s.time

/-- An event of the module at a position (R280, R281, R346). While PD2 is off or the CP does not run it is held and placed once the CP runs
(R468). -/
def State.eventOf (s : State) (pos opcode : Nat) (payload : List Byte) : State :=
  if s.cpUp then
    let (s, sat) := s.eventRingList pos opcode payload s.eventRings
    if sat then
      (s.eventRingList s.position 0xF016 (counterSatPayload s Reg.SYS_EVENT_DROP_COUNT.COUNT.addr) s.eventRings).1
    else s
  else { s with proto := { s.proto with held := s.proto.held ++ [(pos, opcode, payload)] } }

/-- An event of this module. -/
def State.event (s : State) (opcode : Nat) (payload : List Byte) : State := s.eventOf s.position opcode payload

/-- The held events placed, oldest first (the CP runs again). -/
def State.placeHeld (s : State) : State :=
  let l := s.proto.held
  let s := { s with proto := { s.proto with held := [] } }
  l.foldl (fun s e => s.eventOf e.1 e.2.1 e.2.2) s

/-! ### Counters (R547, R548) -/

/-- A saturating counter raised by one: at all ones it sets its group's flag and sends one COUNTER_SAT event. -/
def State.bump (s : State) (f sat : Field) : State :=
  let (s, full) := s.bumpQuiet f sat
  if full then s.event 0xF016 (counterSatPayload s f.addr) else s

/-- A saturating counter raised by `n`. -/
def State.bumpBy (s : State) (f sat : Field) (n : Nat) : State :=
  let v := s.get f
  if n = 0 ∨ v = f.max then s
  else if f.max ≤ v + n then
    ((s.set f f.max).set sat 1).event 0xF016 (counterSatPayload s f.addr)
  else s.set f (v + n)

/-- A wrapping counter raised by one; the wrap sets its flag (R548). -/
def State.wrapUp (s : State) (f : Field) (flag : Field) : State :=
  if s.get f = f.max then (s.set f 0).set flag 1 else s.set f (s.get f + 1)

/-! ### Event payloads shared by the chapters -/

/-- The SAFETY event (R405). -/
def State.safetyEvent (s : State) (reason cause detail : Nat) : State :=
  s.event 0xF001 ([byte reason, byte cause,
    byte (s.get Reg.SAF_INPUTS.HPERM + 2 * s.get Reg.SAF_INPUTS.LIMP), byte 0] ++ le 4 detail ++ le 8 s.time)

/-- The POWER event (R468). -/
def State.powerEvent (s : State) (reason state detail info : Nat) : State :=
  s.event 0xF002 ([byte reason, byte state] ++ le 2 detail ++ le 4 info ++ le 8 s.time)

/-- The BEAM event (Table 9-4). -/
def State.beamEvent (s : State) (reason context pattern hostTag : Nat) : State :=
  s.event 0xF010 ([byte reason, byte context, byte pattern, byte 0] ++ le 4 hostTag ++ le 8 s.time)

/-- The LAYER event (Table 9-4). -/
def State.layerEvent (s : State) (reason layers front : Nat) : State :=
  s.event 0xF011 ([byte reason, byte layers, byte front] ++ le 5 0 ++ le 8 s.time)

/-! ### Replies -/

/-- The status codes of Table 9-2. -/
abbrev Status := Nat
namespace Status
def ok : Status := 0x0000
def pending : Status := 0x0001
def badOpcode : Status := 0x0101
def badLength : Status := 0x0102
def badCheck : Status := 0x0103
def badParam : Status := 0x0104
def badState : Status := 0x0105
def busy : Status := 0x0106
def notPermitted : Status := 0x0107
def lockedOut : Status := 0x0201
def headerRejected : Status := 0x0301
def imageInvalid : Status := 0x0302
def migrationFailed : Status := 0x0303
def fallbackUnavailable : Status := 0x0304
end Status

/-- A handler's answer: status, results after the STATUS field, and the state it leaves. -/
structure Answer where
  status : Status
  results : List Byte
  state : State

/-- A refusal with status alone, nothing changed (R268, R270). -/
def refuse (s : State) (status : Status) : Answer := ⟨status, [], s⟩

/-- An acceptance without results. -/
def accept (s : State) : Answer := ⟨Status.ok, [], s⟩

/-- An answer with results. -/
def answer (s : State) (results : List Byte) : Answer := ⟨Status.ok, results, s⟩

/-- ACCEPTED_PENDING. -/
def pend (s : State) : Answer := ⟨Status.pending, [], s⟩

/-- Whether a status counts as executed without refusal (R270, R271). -/
def Status.good (st : Status) : Bool := st == Status.ok || st == Status.pending

/-- Replies and packets put into a reply ring. Replies are never dropped (R281). -/
def State.pushAll (s : State) (n : Nat) (l : List (List Byte)) : State :=
  l.foldl (fun s b => s.push n ⟨b, if n = 10 then s.proto.replyTo else 0, s.now⟩) s

end Sys2Proof.Machine
end

