-- ==== Sys2Proof/Machine/Shutter.lean ====
section
/-! DEFINITION. The Kiln Shutter's decisions and the limp plane (12_safety_functions, 03_string_drive). -/

namespace Sys2Proof.Machine

/-! ### The safety parameter block (Table 12-6) -/

/-- The default block of a variant (Table 12-6). -/
def defaultBlock (v : Variant) : List Byte := deliveredBlock v.code

namespace Block
/-- Fields of a safety parameter block (Table 12-6). -/
def cutoffEn (b : List Byte) : Bool := bit (leAt b 7 1) 0
def watchEn (b : List Byte) : Bool := bit (leAt b 7 1) 1
def cutoffSide (b : List Byte) : Bool := bit (leAt b 7 1) 2
def nodeTag (b : List Byte) : Nat := leAt b 8 4
def fieldMapCheck (b : List Byte) : Nat := leAt b 12 4
def cutoffRow (b : List Byte) : Nat := leAt b 16 2
def cutoffClass (b : List Byte) : Nat := leAt b 18 1
def limpClass (b : List Byte) : Nat := leAt b 19 1
def cutoffLimit (b : List Byte) : Nat := leAt b 20 2
def reducedClass (b : List Byte) : Nat := leAt b 22 1
def hpermT (b : List Byte) : Nat := leAt b 24 2
def limpT (b : List Byte) : Nat := leAt b 26 2
def guardLevel (b : List Byte) : Nat := leAt b 28 2
def dimQMax (b : List Byte) : Nat := leAt b 30 2
def watchT1 (b : List Byte) : Nat := leAt b 32 2
def watchT2 (b : List Byte) : Nat := leAt b 34 2
def growRate (b : List Byte) : Nat := leAt b 36 2
def growMax (b : List Byte) : Nat := leAt b 38 1
def stalePattern (b : List Byte) : Nat := leAt b 39 1
def staleFade (b : List Byte) : Nat := leAt b 40 2
def markLimit (b : List Byte) : Nat := leAt b 42 2
def rectCount (b : List Byte) : Nat := leAt b 44 1
/-- Rectangle `k`: first and last bin column, first and last bin row. -/
def rect (b : List Byte) (k : Nat) : Nat × Nat × Nat × Nat :=
  (leAt b (48 + 4 * k) 1, leAt b (49 + 4 * k) 1, leAt b (50 + 4 * k) 1, leAt b (51 + 4 * k) 1)
/-- A row is guarded (R363). -/
def guarded (b : List Byte) (row : Nat) : Bool :=
  if cutoffSide b then decide (row < cutoffRow b) else decide (cutoffRow b ≤ row)
/-- The bit of a bin in the limp-home bitmap: the union of the first LIMP_RECT_COUNT rectangles (R392). -/
def limpBin (b : List Byte) (col row : Nat) : Bool :=
  (List.range (rectCount b)).any (fun k =>
    let r := rect b k
    decide (r.1 ≤ col) && decide (col ≤ r.2.1) && decide (r.2.2.1 ≤ row) && decide (row ≤ r.2.2.2))
/-- The number of bins lit in the bitmap (STR_LIMP_STATUS.LIT_BINS). -/
def litBins (b : List Byte) : Nat :=
  (List.range 64).foldl (fun n r => n + ((List.range 256).filter (fun c => limpBin b c r)).length) 0
/-- The block check (R393). -/
def check (serial : Nat) (b : List Byte) : Nat :=
  crc32cFold (serial % 2 ^ 32 ^^^ serial / 2 ^ 32 % 2 ^ 32) b
end Block

/-- The Kiln Shutter's copy in use (KS_COPY). -/
def State.ksCopy (s : State) : KsCopy := if s.get Reg.SAF_KS_STATUS.KS_COPY = 0 then s.ks.copy0 else s.ks.copy1

/-- The block the Kiln Shutter acts on. -/
def State.ksBlock (s : State) : List Byte := s.ksCopy.block

/-- The block in force at the SP. -/
def State.spBlock (s : State) : List Byte := s.com.block

/-! ### Updates of the Kiln Shutter's and the SP's own state -/

def State.setKs (s : State) (k : Shutter) : State := { s with ks := k }
def State.setSp (s : State) (p : SafetyCore) : State := { s with sp := p }
def State.setScan (s : State) (c : Scan) : State := { s with scan := c }
/-- The run of consecutive complete input frames is broken: a frame was discarded, or the link was left (R48). -/
def State.breakInput (s : State) : State := s.setScan { s.scan with inputTimes := [] }
def State.setPwr (s : State) (p : Power) : State := { s with pwr := p }
def State.setFlt (s : State) (c : Collector) : State := { s with flt := c }
def State.setProto (s : State) (p : Proto) : State := { s with proto := p }

/-! ### Decisions -/

/-- Scan-out is held (R56): by a SCAN block reset or by lock-out. -/
def State.scanHeld (s : State) : Bool := s.scan.resetAt.isSome || s.lockedOut

/-- A temperature comparator is tripped at TEMP_HIGH, or at TEMP_CUT (R366). -/
def State.tempHigh (s : State) : Bool := s.flag Reg.SAF_KS_STATUS.TEMP_HIGH
def State.tempCut (s : State) : Bool := s.flag Reg.SAF_KS_STATUS.TEMP_CUT

/-- The conditions of R359 other than covering. -/
def State.allowsButCovering (s : State) : Bool :=
  s.flag Reg.SAF_STATUS.PERMIT && s.ks.toggled && !s.flag Reg.SAF_KS_STATUS.HB_FAULT && !s.lockedOut
    && !s.ks.limp.active && !s.flag Reg.SAF_STATUS.SP_LIMP && !s.tempHigh && !s.tempCut && !s.ks.vstrOff && s.ks.armed

/-- The Kiln Shutter allows programmable light (R359). -/
def State.allows (s : State) : Bool := s.allowsButCovering && !s.flag Reg.SAF_STATUS.COVERING

/-- A limp reason exists (R359): accepted LIMP, SP_LIMP, covering, lock-out without a limp-path fault. -/
def State.limpReason (s : State) : Bool :=
  s.ks.limp.active || s.flag Reg.SAF_STATUS.SP_LIMP || s.flag Reg.SAF_STATUS.COVERING
    || (s.lockedOut && !s.flag Reg.SAF_LOCKOUT.LIMP_PATH)

/-- Every string is kept off, the limp plane included: TEMP_CUT, VSTR overvoltage, a limp-path fault in lock-out,
no checked configuration (R43, R366, R367, R385). -/
def State.limpBarred (s : State) : Bool :=
  s.tempCut || s.ks.vstrOff || !s.ks.armed || (s.lockedOut && s.flag Reg.SAF_LOCKOUT.LIMP_PATH)

/-- The class the Kiln Shutter commands: REDUCED_CLASS while TEMP_HIGH is tripped, LIMP_CLASS otherwise (R366). -/
def State.limpClass (s : State) : Nat :=
  if s.tempHigh then Block.reducedClass s.ksBlock else Block.limpClass s.ksBlock

/-- A follower holds the master's SAFE_STATE_N low: its last STATE shows lock-out or its SAFE_STATE_N low, or its status
is unknown (R348). -/
def State.followerLow (s : State) : Bool :=
  s.id.role == 0 && [1, 2, 3].any (fun k =>
    let p := s.get (Reg.CAS_MEMBER.P k)
    (bit p 0 && (bit p 1 || ((s.casc.members.find k).map (fun m => bit m.flags 3)).getD false)) || bit p 4)

/-- SAFE_STATE_N is low (R361, R348). -/
def State.safeLow (s : State) : Bool :=
  s.followerLow || !(s.flag Reg.SAF_STATUS.CONFIG_OK && s.flag Reg.SAF_STATUS.COMMISSIONED && !s.lockedOut
    && !s.flag Reg.SAF_STATUS.COVERING && !s.flag Reg.SAF_STATUS.SP_LIMP && !s.flag Reg.SAF_KS_STATUS.HB_FAULT)

/-- The active latches drive the strings: programmable light is allowed, and the limp plane has given the strings back at a boundary
(R99). -/
def State.driven (s : State) : Bool := s.flag Reg.SAF_STATUS.KS_ALLOW && !s.ks.taken

/-- A string conducts under the controller path: the active latches drive the strings and light a site. -/
def State.conducts (s : State) : Bool := s.driven && !s.scan.activePwm.isEmpty

/-- A string conducts, or did in the last `n` base cycles. -/
def State.conductedWithin (s : State) (n : Nat) : Bool :=
  s.conducts || (match s.ks.lastConduct with | none => false | some t => decide (s.now ≤ t + n))

/-- The instant at which programmable light stopped is kept for R360 and R438. -/
def State.noteConduct (s : State) : State :=
  if s.conducts then s.setKs { s.ks with lastConduct := some s.now } else s

/-- The limp plane lights its bitmap: from class 1 upwards (R97). A change of the commanded class takes effect at once when the ramp has
reached the class commanded before, or stands at the new one or above. -/
def State.limpLight (s : State) : State :=
  match s.ks.rampAt with
  | none =>
    ((s.setKs { s.ks with rampAt := some s.now, ramped := decide (s.limpClass ≤ 1) }).set Reg.STR_STATUS.LIMP_ENGAGED 1).set
      Reg.STR_LIMP_STATUS.CLASS 1
  | some _ =>
    if s.ks.ramped ∨ s.limpClass ≤ s.get Reg.STR_LIMP_STATUS.CLASS then
      (s.setKs { s.ks with ramped := true }).set Reg.STR_LIMP_STATUS.CLASS s.limpClass
    else s

/-- The limp plane holds every string off; clamps that have fired open again when it releases its strings (R76). -/
def State.limpDark (s : State) : State :=
  if s.flag Reg.STR_STATUS.LIMP_ENGAGED then
    let s := (s.setKs { s.ks with rampAt := none, lastLimp := some s.now }).setScan { s.scan with clamped := [] }
    (s.set Reg.STR_STATUS.LIMP_ENGAGED 0).set Reg.STR_LIMP_STATUS.CLASS 0
  else s

/-- The limp plane follows the decision (R359, R99): it lights on a limp reason, is released to the active latches
at the next boundary while scan-out runs, and is dark otherwise. -/
def State.limpFollow (s : State) : State :=
  if s.allows then
    if s.scan.running && !s.scanHeld then s else s.limpDark
  else if s.limpReason && !s.limpBarred then s.limpLight
  else if s.ks.keep && s.scan.running && !s.scanHeld && !s.limpBarred then s
  else s.limpDark

/-- The Kiln Shutter's comparator and decision logic is under test (R17, R498): its outputs stay as last decided. -/
def State.ksTested (s : State) : Bool :=
  match s.bst.run with
  | some r => r.engine == 1 && r.left.head? == some 1 && decide (r.startAt ≤ s.now)
  | none => false

/-- The SP is under test by command: the MP answers for it (R499). -/
def State.spTested (s : State) : Bool :=
  match s.bst.run with
  | some r => r.engine == 1 && r.left.head? == some 0 && decide (r.startAt ≤ s.now)
  | none => false

/-- The LANE item runs: both ports are DISABLED (R504). -/
def State.laneTested (s : State) : Bool :=
  match s.bst.run with
  | some r => r.engine == 0 && r.left.head? == some 0
  | none => false

/-- SAFE_STATE_N follows R361; a change of level sets IRQ cause 7 (Table 13-5). -/
def State.safeFollow (s : State) : State :=
  if s.ksTested ∨ s.get Reg.SAF_STATUS.SAFE_STATE = b2n s.safeLow then s
  else (s.set Reg.SAF_STATUS.SAFE_STATE (b2n s.safeLow)).irq 7

/-- The Kiln Shutter decides afresh after any change of what it sees. Without its permission the limp plane has every string. While its
logic is under test only TEMP_CUT and the VSTR comparator act, through their direct string-off path (R498). -/
def State.judge (s : State) : State :=
  let s := if s.allows then s else s.noteConduct
  if s.ksTested then
    if s.tempCut || s.ks.vstrOff then
      ((s.setKs { s.ks with taken := true }).set Reg.SAF_STATUS.KS_ALLOW 0).limpDark
    else s
  else
    let s := if s.allows then s else s.setKs { s.ks with taken := true }
    ((s.set Reg.SAF_STATUS.KS_ALLOW (b2n s.allows)).limpFollow).safeFollow

/-- Covering starts (R360). -/
def State.coverStart (s : State) : State :=
  if s.flag Reg.SAF_STATUS.COVERING then s
  else ((s.set Reg.SAF_STATUS.COVERING 1).bump Reg.SAF_COVER_COUNT.COUNT Reg.SAF_STATUS.CNT_SAT).safetyEvent 7 0 0

/-- Covering ends (R360). -/
def State.coverEnd (s : State) : State :=
  if s.flag Reg.SAF_STATUS.COVERING then ((s.set Reg.SAF_STATUS.COVERING 0).safetyEvent 8 0 0).judge else s

/-- PERMIT falls (R358): covering starts if a string conducts or did in the last 10 ms. -/
def State.permitFall (s : State) : State :=
  if s.flag Reg.SAF_STATUS.PERMIT then
    let cover := s.conductedWithin 1000000
    let s := (s.noteConduct.set Reg.SAF_STATUS.PERMIT 0)
    let s := s.setKs { s.ks with permitFell := s.now, toggled := false }
    (if cover then s.coverStart else s).judge
  else s

/-- PERMIT rises; a heartbeat toggle must be seen again (R359). -/
def State.permitRise (s : State) : State :=
  if s.flag Reg.SAF_STATUS.PERMIT then s
  else
    let s := s.set Reg.SAF_STATUS.PERMIT 1
    (s.setKs { s.ks with permitRose := s.now, toggled := false, lastToggle := none }).judge

/-- CONFIG_OK's conditions: those of R358 but the last two. -/
def State.configGood (s : State) : Bool :=
  (s.id.lifecycle == .manufacture || s.id.lifecycle == .service
      || (s.id.lifecycle == .field && s.flag Reg.SAF_STATUS.COMMISSIONED && s.flag Reg.SAF_STATUS.SP_CONFIRMED))
    && s.flag Reg.SAF_STATUS.MAP_MATCH && s.get Reg.SAF_PARAM_CRC.CRC == s.get Reg.SAF_KS_CRC.CRC && s.sp.coverageOk

/-- The SP looks at its conditions again (R358, R361): map match, confirmed digest, CONFIG_OK. -/
def State.spFollow (s : State) : State :=
  if s.spUp then
    let s := s.setAll [(Reg.SAF_STATUS.MAP_MATCH, b2n (s.get Reg.BEAM_FIELD_MAP_CHECK.CHK == Block.fieldMapCheck s.spBlock)),
      (Reg.SAF_STATUS.SP_CONFIRMED, b2n (!s.sp.digest.isEmpty && s.sp.digest == s.com.confirmedDigest))]
    (s.set Reg.SAF_STATUS.CONFIG_OK (b2n s.configGood)).safeFollow
  else s

/-- SP_LIMP asserted or released (R377). -/
def State.spLimp (s : State) (on : Bool) : State :=
  if s.flag Reg.SAF_STATUS.SP_LIMP = on then s
  else if on then
    (((s.set Reg.SAF_STATUS.SP_LIMP 1).bump Reg.SAF_SP_LIMP_COUNT.COUNT Reg.SAF_STATUS.CNT_SAT).safetyEvent 9 0 0).judge
  else ((s.set Reg.SAF_STATUS.SP_LIMP 0).safetyEvent 10 0 0).judge

end Sys2Proof.Machine
end

