-- ==== Sys2Proof/Machine/Cores.lean ====
section
/-! DEFINITION. What the fault reactions stop and restart: the link receiver, cores and memory banks; and the queue of
packets for cascade followers. -/

namespace Sys2Proof.Machine

def State.setLink (s : State) (l : Link) : State := { s with link := l }
def State.setCasc (s : State) (c : Cascade) : State := { s with casc := c }
def State.setBeam (s : State) (b : Beam) : State := { s with beam := b }

/-! ### Cascade queue (R345, R347) -/

/-- A follower the master knows. -/
def State.member (s : State) (pos : Nat) : Option Member := s.casc.members.find pos

/-- What the master or a relaying follower holds of a follower, replaced. -/
def State.setMember (s : State) (pos : Nat) (m : Member) : State :=
  s.setCasc { s.casc with members := s.casc.members.insert pos m }

/-- The cascade event (R354). -/
def State.cascadeEvent (s : State) (reason pos detail : Nat) : State :=
  s.event 0xF004 ([byte reason, byte pos] ++ le 2 detail ++ le 4 0 ++ le 8 s.time)

/-- A record leaves on the CO_ data lanes. -/
def State.coSend (s : State) (b : List Byte) : State := s.setCasc { s.casc with coOut := b }

/-- A packet resealed with another node tag (R345, R346). -/
def reseal (tag : Nat) (p : List Byte) : List Byte :=
  let body := p.take (p.length - 2)
  body ++ le 2 (trailer tag body)

/-- A CMD block: the packet under the tag of the next module, padded to a multiple of 32 (R330, R345). -/
def cmdBlock (tag : Nat) (p : List Byte) : List Byte :=
  let b := reseal tag p
  b ++ le ((32 - b.length % 32) % 32) 0

/-- The node tag of the next module downstream, from its HELLO. -/
def State.nextTag (s : State) : Nat := ((s.member (s.id.role + 1)).map (·.tag)).getD 0

/-- A packet for a follower: its command-in ring is recorded; it is sent as a CMD block, or waits while STATE reports the
follower's ring 4 full (R345, R347). -/
def State.queueFor (s : State) (p : Packet) (ring pos : Nat) : State :=
  match s.member pos with
  | none => s
  | some m =>
    let route := (pos, leAt p.bytes 0 2, leAt p.bytes 2 1, ring)
    let other := fun (x : Nat × Nat × Nat × Nat) => (x.1, x.2.1, x.2.2.1) != (pos, leAt p.bytes 0 2, leAt p.bytes 2 1)
    let s := s.setCasc { s.casc with routes := s.casc.routes.filter other ++ [route] }
    if bit m.flags 6 ∨ !m.queue.isEmpty then s.setMember pos { m with queue := m.queue ++ [p] }
    else s.coSend (cmdBlock s.nextTag p.bytes)

/-- The positions of the admitted followers a packet goes to: the one that TARGET names, or all for a broadcast. -/
def State.targets (s : State) (t : Nat) : List Nat :=
  [1, 2, 3].filter (fun k => (t == k || t == 0x0F) && s.get (Reg.CAS_MEMBER.P k) % 2 == 1)

/-- A follower that has seen its ADMIT bit in the last marker (R329). -/
def State.admittedSelf (s : State) : Bool := s.casc.last.any (fun m => bit m.admitMap s.position)

/-- A master without an admitted follower: it behaves as a single module (R322). -/
def State.alone (s : State) : Bool := !s.follower && (s.targets 0x0F).isEmpty

/-- A packet is passed on to the followers it is for. -/
def State.cascadeForward (s : State) (p : Packet) (ring t : Nat) : State :=
  (s.targets t).foldl (fun s k => s.queueFor p ring k) s

/-- Every queue a packet needs has room for it (R347). -/
def State.cascadeRoom (s : State) (t : Nat) : Bool :=
  (s.targets t).all (fun k => match s.member k with | some m => decide (m.queue.length < 8) | none => true)

/-! ### The link receiver (R243, R253) -/

/-- LINK event (R261). -/
def State.linkEvent (s : State) (reason : Nat) : State :=
  s.event 0xF012 ([byte reason, byte (s.get Reg.LNK_STATUS.STATE), byte (s.get Reg.LNK_STATUS.GEN),
    byte (s.get Reg.LNK_STATUS.LANES), byte (s.get Reg.LNK_STATUS.INPUT), byte (s.get Reg.SCN_LOCK_STATUS.STATE)]
    ++ le 2 (s.get Reg.LNK_SEQ.LAST) ++ le 8 s.time)

/-- A state of Table 8-9 entered. -/
def State.linkState (s : State) (st : Nat) : State :=
  (s.set Reg.LNK_STATUS.STATE st).setLink { s.link with stateAt := s.now }

/-- The frame being received is discarded as incomplete (R237). -/
def State.dropFrame (s : State) : State :=
  match s.link.rx with
  | none => s
  | some _ => (s.breakInput.setLink { s.link with rx := none, prevValid := none }).bump Reg.LNK_FRAME_INCOMPLETE_COUNT.COUNT Reg.LNK_STATUS.CNT_SAT

/-- The link leaves its generation and lanes for `st`, DISABLED or DOWN. -/
def State.linkLeave (s : State) (st : Nat) : State :=
  let s := s.dropFrame.breakInput.linkState st
  let l := s.link
  (s.setLink { l with
    prevValid := none, partner := [], request := 0, payload := [], missing := 0, failedAt := none, retryAt := none, echoes := 0
    echoSum := 0, returning := false, good96 := 0, good160 := 0, low64 := [] }).setAll
    [(Reg.LNK_STATUS.GEN, 0), (Reg.LNK_STATUS.LANES, 0), (Reg.LNK_STATUS.LOCK, 0), (Reg.LNK_STATUS.BC_OK, 0),
     (Reg.LNK_PARTNER.VALID, 0), (Reg.LNK_PARTNER.GENS, 0), (Reg.LNK_PARTNER.LANES, 0), (Reg.LNK_PARTNER.FORMATS, 0),
     (Reg.LNK_PARTNER.WIDTHS, 0), (Reg.LNK_PARTNER.PRESETS, 0), (Reg.LNK_PARTNER.MAX_RATE, 0)]

/-- A power-up of PD4 ends every map-out of a lane but those of the map-out list (R247). -/
def State.freshLanes (s : State) : State := s.set Reg.LNK_STATUS.MAPPED_OUT (s.get Reg.BST_PORT_OUT.PL_LANES)

/-- PD4 is on from here; it powers up if it was off. -/
def State.pd4On (s : State) : State :=
  let d := s.get Reg.PWR_DOMAIN.ON
  if bit d 4 then s else (s.set Reg.PWR_DOMAIN.ON (d ||| 0x10)).freshLanes

/-- Input loss is declared only in ACQUIRING or LIVE (R253). -/
def State.losable (s : State) : Bool := s.get Reg.LNK_STATUS.INPUT == 1 || s.get Reg.LNK_STATUS.INPUT == 2

/-- The declaration of R253 but for its fault report and the fallback of HOLD_MS 0. -/
def State.lossCore (s : State) : State :=
  if s.losable then
    let s := (s.dropFrame.set Reg.LNK_STATUS.INPUT 3).bump Reg.LNK_LOSS_COUNT.COUNT Reg.LNK_STATUS.CNT_SAT
    (s.setLink { s.link with holdAt := some (s.now + ms (s.get Reg.LNK_TIMING.HOLD_MS)) }).linkEvent 2
  else s

/-- LINK_RESET (Table 13-4): the receiver is reset and the link restarts from DOWN. -/
def State.linkReset (s : State) : State := if s.get Reg.LNK_STATUS.STATE = 0 then s else (s.linkLeave 1).lossCore

/-! ### Cores (Table 13-4, R288) -/

/-- The newest committed state of meeting place 1: the copy waiting to land, else the front copy (R288). -/
def State.committed (s : State) : Tables :=
  match s.beam.waiting with
  | some (t, _) => t
  | none => s.beam.front

/-- What CMP_ shows once stages and changes not committed are lost: no build, nothing staged, and only flips that wait to land or whose
copy runs are pending (R203, R207). -/
def State.stagesDropped (s : State) : State :=
  let pending := fun n => (s.beam.flipLanded.find n).isSome || s.beam.waiting.any (fun p => p.1.flips.contains n)
  let s := (List.range 8).foldl (fun (s : State) n =>
    s.setAll [(Reg.CMP_LAYER_STATUS.STAGED n, 0), (Reg.CMP_LAYER_STATUS.FLIP_PENDING n, b2n (pending n))]) s
  s.setAll [(Reg.CMP_STATUS.QUEUED, 0), (Reg.CMP_STATUS.BUILD, if s.get Reg.CMP_STATUS.BUILD = 2 ∧ s.beam.waiting.isSome then 2 else 0)]

/-- The CP stops and will restart from its image (the COMMAND_CORE scope of R288): rings, histories and assemblies are
emptied, pending operations are abandoned, changes not committed are lost. -/
def State.cpRestart (s : State) : State :=
  let s := { s with
    cpUp := false
    rings := s.rings.filter (fun r => decide (16 ≤ r.1)) }
  let s := s.setProto { s.proto with history := [], assembly := [], resetDue := none }
  let s := s.setBeam { s.beam with
    work := s.committed, list := none, loading := none, queued := none, part0 := none, part1 := none, stage := []
    buildAt := none, buildEvent := false, queuedEvent := false, queuedStage := [], symbolWait := [] }
  let s := { s with lib := { s.lib with install := none } }
  s.stagesDropped.setAll [(Reg.BEAM_STATUS.LOADING, 0), (Reg.BEAM_STATUS.QUEUED, 0), (Reg.BEAM_LIST_SEQ.PENDING, 0),
    (Reg.CMP_LIB_STATUS.INSTALL, 0)]

/-- CORE_RESTART (Table 13-4): 0 CP, 1 SP, 2 MP. An SP halts, and R362 follows. -/
def State.coreRestart (s : State) (core : Nat) : State :=
  match core with
  | 0 => s.cpRestart
  | 1 => ({ s with spUp := false }).setSp { s.sp with halted := true }
  | 2 => { s with mpUp := false }
  | _ => s

/-- Enabled layers of a copy in the order of R192. -/
def Tables.stack (t : Tables) : List (Nat × Layer) :=
  let idx := t.layers.mapIdx (fun i l => (i, l))
  (List.range 8).flatMap (fun p => idx.filter (fun x => x.2.enabled && x.2.priority == p))

/-- The flattened run (R205): the enabled static layers before the first enabled layer that is not static. -/
def Tables.run (t : Tables) : List Nat := (t.stack.takeWhile (fun x => x.2.static)).map (·.1)

/-- A set of small numbers as a bit mask. -/
def maskOf (l : List Nat) : Nat := l.foldl (fun m i => m ||| 2 ^ i) 0

/-- A bisque copy is lost: the run is composited live and the MP starts a build at once (R209). -/
def State.bisqueLost (s : State) : State :=
  let clear := fun (t : Tables) => { t with bisque := none }
  let s := s.setBeam { s.beam with
    front := clear s.beam.front, work := clear s.beam.work, waiting := s.beam.waiting.map (fun p => (clear p.1, p.2)) }
  let s := s.set Reg.CMP_STATUS.LIVE (b2n (!s.beam.front.run.isEmpty))
  if s.beam.buildAt.isNone && !s.beam.front.run.isEmpty then
    (s.setBeam { s.beam with stage := [], buildAt := some s.now }).set Reg.CMP_STATUS.BUILD 1
  else s

/-- The bisque copy that lies in a bank (R206, Table 7-3). -/
def bisqueIn (bank : Nat) : Option Nat := if bank = 20 ∨ bank = 21 then some 0 else if bank = 30 ∨ bank = 31 then some 1 else none

/-- A bank's rebuild starts (R451); a bisque copy in it is lost at once (R209). -/
def State.bankRebuild (s : State) (bank : Nat) : State :=
  if s.pwr.rebuilding.contains bank then s
  else
    let s := s.setPwr { s.pwr with rebuilding := s.pwr.rebuilding ++ [bank] }
    if (bisqueIn bank).isSome ∧ bisqueIn bank = s.beam.front.bisque then s.bisqueLost else s

end Sys2Proof.Machine
end

