-- ==== Sys2Proof/Machine/Faults.lean ====
section
/-! DEFINITION. The fault collector: sources, reports, reactions, the uncleared faults and FAULT_N
(13_fault_collection). -/

namespace Sys2Proof.Machine

/-- A report to the collector (R408): source ID, ADDRESS, master, access type; whether injected or restored. -/
structure Report where
  source : Nat
  addr : Nat
  master : Nat
  access : Nat
  injected : Bool := false
  restored : Bool := false

namespace Src
/-- Source IDs of Table 13-2. -/
def refclkMissing : Nat := 0x001
def clockCompare : Nat := 0x002
def pllFallback : Nat := 0x003
def injectUnused : Nat := 0x005
def sramCorr : Nat := 0x010
def sramUncorr : Nat := 0x011
def coreMemUncorr : Nat := 0x012
def coreWatchdog : Nat := 0x013
def spareRowsOut : Nat := 0x014
def nvmWriteRefused : Nat := 0x018
def busError : Nat := 0x019
def wakeTimeout : Nat := 0x01A
def supplyReset : Nat := 0x041
def retentionRebuilt : Nat := 0x042
def retentionDefaults : Nat := 0x043
def crossingOverrun : Nat := 0x061
def crossingFlush : Nat := 0x062
def linkInputLoss : Nat := 0x080
def linkBufferErr : Nat := 0x081
def casMemberLost : Nat := 0x082
def casFwdAbort : Nat := 0x083
def libEntryCheck : Nat := 0x0A0
def layerLost : Nat := 0x0A1
def bisqueLive : Nat := 0x0A2
def ramStoreLost : Nat := 0x0A3
def scnRowRepeat : Nat := 0x0C0
def scnD2dParity : Nat := 0x0C1
def scnFrameRepeat : Nat := 0x0C2
def scnRepeatRun : Nat := 0x0C3
def scnFreeze : Nat := 0x0C4
def scnOutputCheck : Nat := 0x0C5
def scnContentStuck : Nat := 0x0C6
def strEffRefused : Nat := 0x0D0
def strVstrLow : Nat := 0x0D1
def calBlockDefault : Nat := 0x0E0
def calDefectLimit : Nat := 0x0E1
def calRefNone : Nat := 0x0E2
def diagRepair : Nat := 0x0E8
def diagStringOut : Nat := 0x0E9
def diagPadShort : Nat := 0x0EA
def lockout : Nat := 0x100
def tmpOrderlyStop : Nat := 0x140
def tmpSensorDisagree : Nat := 0x141
def bstAbistFail : Nat := 0x160
def bstAbistIncomplete : Nat := 0x161
def updLoaderHold : Nat := 0x180
def updMigrationFailed : Nat := 0x181
def updAutoFallback : Nat := 0x182
def hstCanBusoff : Nat := 0x1A0

/-- A lock-out cause: 0x101 to 0x118 (Table 13-2). -/
def isLockout (id : Nat) : Bool := decide (0x101 ≤ id) && decide (id ≤ 0x118)

/-- Class of a source (Table 13-2): 1 CORRECTED, 2 CONTAINED, 3 FATAL. -/
def cls (id : Nat) : Nat :=
  if id = refclkMissing ∨ isLockout id then 3
  else if [pllFallback, injectUnused, sramCorr, retentionRebuilt, crossingFlush, linkInputLoss, casFwdAbort,
      bisqueLive, scnRowRepeat, scnD2dParity, scnFrameRepeat, diagRepair, hstCanBusoff].contains id then 1
  else 2

/-- A source marked standing (Table 13-2). -/
def standing (id : Nat) : Bool :=
  isLockout id || [refclkMissing, spareRowsOut, strVstrLow, calDefectLimit, diagPadShort, updLoaderHold,
    updMigrationFailed].contains id

/-- Reaction of a source (Table 13-2), by its code of Table 13-4. -/
def reaction (id : Nat) : Nat :=
  if isLockout id then 6
  else if [scnRepeatRun, scnFreeze, scnOutputCheck, scnContentStuck].contains id then 1
  else if id = linkBufferErr then 2
  else if id = coreMemUncorr ∨ id = coreWatchdog then 3
  else if [sramUncorr, retentionRebuilt, retentionDefaults].contains id then 4
  else if id = diagStringOut ∨ id = bstAbistFail then 5
  else 0
end Src

/-- The item a reaction's window is bound to: the core, the bank or the string (Table 13-4). -/
def Report.item (r : Report) : Nat :=
  match Src.reaction r.source with
  | 3 => r.master
  | 4 => if r.source = Src.sramUncorr then r.addr / 2 ^ 20 else r.addr
  | 5 => if r.source = Src.bstAbistFail then (if r.addr / 2 ^ 24 = 2 then r.addr % 2 ^ 24 else 2 ^ 32 + r.addr) else r.addr
  | _ => 0

/-- The crossings of a core (R543): CP 3 to 5, MP 6, 13 and 15, SP 10 to 12. -/
def coreCrossing (core x : Nat) : Bool :=
  match core with
  | 0 => decide (3 ≤ x ∧ x ≤ 5)
  | 1 => decide (10 ≤ x ∧ x ≤ 12)
  | 2 => x == 6 || x == 13 || x == 15
  | _ => false

/-- A report comes from a detector that a window shadows (Table 13-4). -/
def Window.shadows (w : Window) (r : Report) : Bool :=
  match w.reaction with
  | 1 => [Src.scnRowRepeat, Src.scnD2dParity, Src.scnFrameRepeat, Src.scnRepeatRun, Src.scnFreeze].contains r.source
      || (r.source == Src.crossingFlush && decide (6 ≤ r.addr ∧ r.addr ≤ 9))
  | 2 => [Src.linkInputLoss, Src.casFwdAbort].contains r.source || (r.source == Src.crossingFlush && decide (r.addr ≤ 2))
  | 3 => ([Src.coreWatchdog, Src.busError].contains r.source && r.master == w.item)
      || (r.source == Src.crossingFlush && coreCrossing w.item r.addr)
  | 4 => ([Src.sramCorr, Src.sramUncorr].contains r.source && r.addr / 2 ^ 20 == w.item) || r.source == Src.bisqueLive
  | 5 => r.source == Src.diagRepair && r.addr / 8 == w.item
  | _ => false

/-- The windows that shadow a report; reports of the Kiln Shutter and lock-out causes are never shadowed (R417). -/
def State.shadowing (s : State) (r : Report) : List Window :=
  if r.master = 9 ∨ Src.isLockout r.source then [] else s.flt.windows.filter (·.shadows r)

/-- Bytes of a kiln log entry (Table 13-3). -/
def KilnEntry.bytes (e : KilnEntry) : List Byte :=
  le 2 e.seq ++ le 2 (e.source + 512 * e.cls + 2048 * b2n e.merged + 4096 * b2n e.consequential
      + 8192 * b2n e.injected + 16384 * b2n e.restored + 32768 * b2n e.standing)
    ++ [byte (e.master + 16 * e.access), byte e.rep] ++ le 4 e.addr ++ le 6 e.time

/-- FLT_STATUS and FAULT_N follow the uncleared faults (R420, R421, R350). -/
def State.faultFollow (s : State) : State :=
  let u := s.flt.uncleared
  let s := s.setAll [(Reg.FLT_STATUS.UNCLEARED, min 511 u.length),
    (Reg.FLT_STATUS.HIGHEST, u.foldl (fun m x => max m x.cls) 0),
    (Reg.FLT_STATUS.WINDOW, b2n (s.flt.windows.any (·.first)))]
  let follower := !s.follower && [1, 2, 3].any (fun k => s.get (Reg.CAS_MEMBER.P k) % 2 == 1 && bit (s.get (Reg.CAS_MEMBER.P k)) 2)
  let high :=
    if s.flag Reg.FLT_STATUS.PULSE_MODE then !(s.flt.pulses != 0 && decide (s.flt.pulseAt ≤ s.now)) && s.flag Reg.FLT_FAULTN.LEVEL
    else match s.phase with
      | .dark => false
      | .alwaysOn => false
      | _ => u.isEmpty && !follower
  s.set Reg.FLT_FAULTN.PIN (b2n high)

/-- A new entry of the kiln log (R411): the 16 newest are kept; the sequence number wraps and sets SEQ_WRAP. -/
def State.kilnAdd (s : State) (e : KilnEntry) : State :=
  let slot := if s.flt.kiln.isEmpty then 0 else (s.get Reg.FLT_STATUS.KILN_HEAD + 1) % 16
  let next := (s.flt.nextSeq + 1) % 65536
  let s := s.setFlt { s.flt with kiln := ({ e with slot := slot } :: s.flt.kiln).take 16, nextSeq := next }
  let s := if next = 0 then s.set Reg.FLT_STATUS.SEQ_WRAP 1 else s
  (s.set Reg.FLT_STATUS.KILN_HEAD slot).set Reg.FLT_STATUS.KILN_COUNT s.flt.kiln.length

/-- The first-fault record takes a fault (R412). -/
def State.firstTake (s : State) (e : KilnEntry) (reaction : Nat) : State :=
  s.setAll [(Reg.FLT_FIRST_ID.SEQ, e.seq), (Reg.FLT_FIRST_ID.SOURCE, e.source), (Reg.FLT_FIRST_ID.CLASS, e.cls),
    (Reg.FLT_FIRST_ID.MASTER, e.master), (Reg.FLT_FIRST_INFO.ACCESS, e.access), (Reg.FLT_FIRST_INFO.REACTION, reaction),
    (Reg.FLT_FIRST_INFO.HIGHEST, e.cls), (Reg.FLT_FIRST_INFO.INJECTED, b2n e.injected),
    (Reg.FLT_FIRST_INFO.RESTORED, b2n e.restored), (Reg.FLT_FIRST_INFO.STANDING, b2n e.standing),
    (Reg.FLT_FIRST_INFO.MERGES, 0), (Reg.FLT_FIRST_ADDR.ADDRESS, e.addr), (Reg.FLT_FIRST_TIME_LO.TIME, e.time),
    (Reg.FLT_FIRST_TIME_HI.TIME, e.time / 2 ^ 32), (Reg.FLT_FIRST_EPOCH.EPOCH, e.epoch),
    (Reg.FLT_FIRST_EPOCH.QUALITY, e.quality), (Reg.FLT_STATUS.FIRST_VALID, 1)]

/-- A merge into the first-fault record (R415). -/
def State.firstMerge (s : State) (cls : Nat) : State :=
  let s := s.set Reg.FLT_FIRST_INFO.MERGES (min 65535 (s.get Reg.FLT_FIRST_INFO.MERGES + 1))
  let s := s.set Reg.FLT_FIRST_INFO.HIGHEST (max cls (s.get Reg.FLT_FIRST_INFO.HIGHEST))
  s.bump Reg.FLT_MERGE_COUNT.COUNT Reg.FLT_STATUS.CNT_SAT

/-- The counter of a class (Table 13-13). -/
def clsCounter (cls : Nat) : Field :=
  match cls with
  | 1 => Reg.FLT_CORRECTED_COUNT.COUNT
  | 2 => Reg.FLT_CONTAINED_COUNT.COUNT
  | _ => Reg.FLT_FATAL_COUNT.COUNT

/-- A window of the first-fault record's fault is open. -/
def State.firstWindow (s : State) : Bool := s.flag Reg.FLT_STATUS.FIRST_VALID && s.flt.windows.any (·.first)

/-- R413: the CORRECTED report is added to one of the four newest entries, made less than 1 s earlier. -/
def State.repeatIndex (s : State) (r : Report) : Option Nat :=
  if Src.cls r.source = 1 then
    (s.flt.kiln.take 4).findIdx? (fun e => e.source == r.source && decide (s.time % 2 ^ 48 < e.time % 2 ^ 48 + 1000000))
  else none

/-- An entry's REPEAT raised by one (R413). -/
def State.addRepeat (s : State) (i : Nat) : State :=
  s.setFlt { s.flt with kiln := s.flt.kiln.modify i (fun e => { e with rep := min 255 (e.rep + 1) }) }

/-- The record as the SAF_ registers show it. -/
def State.lockRecord (s : State) : LockRecord :=
  ⟨s.get Reg.SAF_LOCKOUT.CAUSE, s.get Reg.SAF_LOCKOUT.CHANNEL, s.flag Reg.SAF_LOCKOUT.LIMP_PATH,
    s.get Reg.SAF_LOCKOUT_TIME_LO.TIME + 2 ^ 32 * s.get Reg.SAF_LOCKOUT_TIME_HI.TIME, s.get Reg.SAF_LOCKOUT.QUALITY, s.get Reg.SAF_LOCKOUT.EPOCH⟩

/-- Entering lock-out for a cause (R385, R387): the record's first cause and channel stay. -/
def State.enterLockout (s : State) (cause channel : Nat) (limpPath : Bool) (detail : Nat) : State :=
  if s.lockedOut then
    if limpPath then
      let mark := fun (o : Option LockRecord) => o.map (fun l => { l with limpPath := true })
      ({ (s.set Reg.SAF_LOCKOUT.LIMP_PATH 1) with
          locks := ⟨mark s.locks.aon, mark s.locks.ks, mark s.locks.nvm⟩ }).judge
    else s
  else
    let s := s.noteConduct
    let s := s.setAll [(Reg.SAF_STATUS.LOCKED_OUT, 1), (Reg.SAF_LOCKOUT.CAUSE, cause), (Reg.SAF_LOCKOUT.CHANNEL, channel),
      (Reg.SAF_LOCKOUT.LIMP_PATH, b2n limpPath), (Reg.SAF_LOCKOUT.QUALITY, s.quality), (Reg.SAF_LOCKOUT.EPOCH, s.epoch),
      (Reg.SAF_LOCKOUT_TIME_LO.TIME, s.time), (Reg.SAF_LOCKOUT_TIME_HI.TIME, s.time / 2 ^ 32), (Reg.SCN_STATUS.HELD, 1)]
    let s := s.setScan { s.scan with activePwm := [], shadowPwm := [], loading := false }
    let s := s.bump Reg.SAF_LOCKOUT_COUNT.COUNT Reg.SAF_STATUS.CNT_SAT
    ((s.permitFall).judge).safetyEvent 1 cause detail

/-- A SCAN block reset (Table 13-4): scan-out is held until the first boundary after the reset ends. -/
def State.scanReset (s : State) : State :=
  let c := { s.scan with
    resetAt := some s.now, loading := false, staged := false, rowDone := false, resent := false, sent := false, repeats := [], reloads := []
    convKey := none, convClass := [], convPwm := [], boxRun := [], rowRun := [], clips := [], decision := none }
  ((s.setScan c).setSp { s.sp with pause := 3 }).setAll [(Reg.SCN_STATUS.HELD, 1), (Reg.SCN_STATUS.LB_LEVEL, 0),
    (Reg.SCN_STATUS.PRIO, 0)]

/-- The limp path is concerned by a cause (Table 12-5). -/
def limpPathCause (cause : Nat) : Bool := cause == 0x07 || cause == 0x08 || cause == 0x14

/-- The channel of a cause (Table 12-5): 1 A, 2 B, 3 MP; the discrepancies are those of the reporting channel. -/
def causeChannel (cause master : Nat) : Nat :=
  if cause = 0x16 then 3
  else if cause = 0x05 ∨ cause = 0x06 then (if master = 9 then 2 else 1)
  else if cause ≤ 0x08 then 2 else 1

/-- Crossings whose one side a reset holds (R545). -/
def State.resetCrossings (s : State) (l : List Nat) : State :=
  let add := fun (m : Assoc Nat) (x : Nat) => m.insert x ((m.find x).getD 0)
  { s with chk := { s.chk with resets := l.foldl add s.chk.resets } }

/-- The domains of a crossing, as bits of PWR_DOMAIN.ON (Table 18-3). -/
def crossingDomains (x : Nat) : Nat :=
  nth 0 [0x10, 0x10, 0x10, 0x04, 0x04, 0x64, 0x202, 0x200, 0x600, 0x600, 0x408, 0x1008, 0x1008, 0x03, 0x01, 0x402] x

/-- Domains are switched off (bits as PWR_DOMAIN.ON has them): their crossings are held in reset (R545). -/
def State.crossingsOff (s : State) (off : Nat) : State :=
  s.resetCrossings ((List.range 16).filter (fun x => (crossingDomains x &&& off) != 0))

/-- The crossings of a core (R543). -/
def crossingsOf (core : Nat) : List Nat :=
  match core with
  | 0 => [3, 4, 5] | 1 => [10, 11, 12] | 2 => [6, 13, 15] | _ => []

/-- A reaction runs (Table 13-4). MAP_OUT is made by the reporter (R146, 16_self_test). -/
def State.react (s : State) (r : Report) : State :=
  match Src.reaction r.source with
  | 1 => s.scanReset.resetCrossings [6, 7, 8, 9]
  | 2 => s.linkReset.resetCrossings [0, 1, 2]
  | 3 => (s.coreRestart r.master).resetCrossings (crossingsOf r.master)
  | 4 => s.bankRebuild r.item
  | 6 => s.enterLockout (r.source - 0x100) (causeChannel (r.source - 0x100) r.master) (limpPathCause (r.source - 0x100)) (if r.source = 0x101 then r.addr else 0)
  | _ => s

/-- A reaction other than NONE opens its window (R415); one already running is not started again. -/
def State.openWindow (s : State) (r : Report) (first : Bool) : State :=
  let k := Src.reaction r.source
  if k = 0 then s
  else if s.flt.windows.any (fun w => w.reaction == k && w.item == r.item) then
    let own := fun (w : Window) => if w.reaction == k && w.item == r.item then { w with first := w.first || first } else w
    s.setFlt { s.flt with windows := s.flt.windows.map own }
  else
    let w : Window := ⟨k, r.item, first, s.now, if k = 1 then 3 else 1⟩
    (s.setFlt { s.flt with windows := s.flt.windows ++ [w] }).react r

/-- A pulse of FAULT_N in pulse mode; at most 16 wait (R421). -/
def State.faultPulse (s : State) : State :=
  if s.flag Reg.FLT_STATUS.PULSE_MODE then
    if s.flt.pulses = 0 then s.setFlt { s.flt with pulses := 1, pulseAt := max s.now s.flt.pulseAt }
    else if s.flt.pulses < 17 then s.setFlt { s.flt with pulses := s.flt.pulses + 1 }
    else s.bump Reg.FLT_PULSE_DROP_COUNT.COUNT Reg.FLT_STATUS.CNT_SAT
  else s

/-- A record waits to be written to the persistent log (R425). -/
def State.plogAdd (s : State) (e : KilnEntry) : State :=
  s.setFlt { s.flt with plogPending := s.flt.plogPending ++ [⟨e, 0⟩] }

/-- The FAULT event of an entry when its class is in EVENT_CLASSES (R415). -/
def State.faultEvent (s : State) (e : KilnEntry) : State :=
  if bit (s.get Reg.FLT_POLICY.EVENT_CLASSES) (e.cls - 1) then s.event 0xF000 e.bytes else s

/-- The entry a report would make. -/
def State.entryOf (s : State) (r : Report) (merged consequential : Bool) : KilnEntry :=
  { seq := s.flt.nextSeq, source := r.source, cls := Src.cls r.source, merged := merged, consequential := consequential
    injected := r.injected, restored := r.restored, standing := Src.standing r.source, master := r.master
    access := r.access, rep := 0, addr := r.addr, time := s.time, quality := s.quality, epoch := s.epoch, slot := 0 }

/-- An entry merged into the first-fault record (R415); a merge into a CONTAINED or FATAL fault is logged (R425). -/
def State.mergeEntry (s : State) (e : KilnEntry) : State :=
  let s := (s.firstMerge e.cls).setFlt { (s.firstMerge e.cls).flt with merged := s.flt.merged ++ [⟨e.seq, e.source, e.cls, e.addr⟩] }
  if 2 ≤ s.get Reg.FLT_FIRST_ID.CLASS then s.plogAdd e else s

/-- A shadowed report (R416); merged, it counts in its class as well (Table 13-13). -/
def State.reportShadowed (s : State) (r : Report) (ws : List Window) : State :=
  let first := ws.any (·.first)
  let e := s.entryOf r first true
  let s := (s.kilnAdd e).bump Reg.FLT_SHADOW_COUNT.COUNT Reg.FLT_STATUS.CNT_SAT
  let s := if first ∨ e.cls = 1 then s.bump (clsCounter e.cls) Reg.FLT_STATUS.CNT_SAT else s
  if first then s.mergeEntry e else s

/-- A merged fault (R415): its reaction runs and its event is sent. -/
def State.reportMerged (s : State) (r : Report) : State :=
  let e := s.entryOf r true false
  let s := (s.kilnAdd e).bump (clsCounter e.cls) Reg.FLT_STATUS.CNT_SAT
  let s := (s.mergeEntry e).faultEvent e
  (s.openWindow r false).faultFollow

/-- A raised fault (R410, R412, R420, R421, R423, R425). -/
def State.reportRaised (s : State) (r : Report) : State :=
  let e := s.entryOf r false false
  let first := !s.flag Reg.FLT_STATUS.FIRST_VALID && decide (s.get Reg.FLT_POLICY.FIRST_MIN ≤ e.cls)
  let s := (s.kilnAdd e).bump (clsCounter e.cls) Reg.FLT_STATUS.CNT_SAT
  let s := if first then s.firstTake e (Src.reaction r.source) else s
  let s := if 2 ≤ e.cls ∨ s.flag Reg.FLT_POLICY.HOLD then
      s.setFlt { s.flt with uncleared := s.flt.uncleared ++ [⟨e.seq, e.source, e.cls, e.addr⟩] } else s
  let s := if 2 ≤ e.cls then s.plogAdd e else s
  let s := ((s.irq (e.cls - 1)).faultPulse).faultEvent e
  (s.openWindow r first).faultFollow

/-- The collector takes a report (R408, R411 to R417). -/
def State.takeReport (s : State) (r : Report) : State :=
  match s.repeatIndex r with
  | some i => (s.addRepeat i).bump Reg.FLT_CORRECTED_COUNT.COUNT Reg.FLT_STATUS.CNT_SAT
  | none =>
    match s.shadowing r with
    | [] => if s.firstWindow then s.reportMerged r else s.reportRaised r
    | ws => s.reportShadowed r ws

/-- A report and the input loss its reaction declares: LINK_RESET takes the link to DOWN, and the loss that R253 then
declares is reported as LINK_INPUT_LOSS while the base source is LINK. -/
def State.report (s : State) (r : Report) : State :=
  let s' := s.takeReport r
  if s.losable && s'.get Reg.LNK_STATUS.INPUT == 3 && s.get Reg.BEAM_STATUS.SOURCE == 1 then
    s'.takeReport ⟨Src.linkInputLoss, Reg.LNK_STATUS.STATE.addr, 6, 4, false, false⟩
  else s'

/-- A lock-out cause of Table 12-5 reported: source 0x100 + code. -/
def State.lockoutCause (s : State) (cause addr master : Nat) : State :=
  s.report ⟨Src.lockout + cause, addr, master, 4, false, false⟩

/-- FAULT_INJECT has armed a checker of Table 13-6 (R424). -/
def State.armed (s : State) (code : Nat) : Bool := s.flag Reg.FLT_INJECT.ARMED && s.get Reg.FLT_INJECT.CHECKER == code

/-- The armed checker made a check: after COUNT checks it is disarmed (R424). -/
def State.injected (s : State) : State :=
  let n := s.get Reg.FLT_INJECT.REMAIN - 1
  let s := (s.setFlt { s.flt with injectUsed := true }).set Reg.FLT_INJECT.REMAIN n
  if n = 0 then s.setAll [(Reg.FLT_INJECT.ARMED, 0), (Reg.CHK_STATUS.INJECT 0, 0), (Reg.CHK_STATUS.INJECT 1, 0),
    (Reg.CHK_STATUS.INJECT 2, 0), (Reg.CHK_STATUS.INJECT 3, 0)] else s

/-- The effect of an armed checker on one of its checks. -/
def State.injectAt (s : State) (code : Nat) : State := if s.armed code then s.injected else s

/-- A fault without further marks. -/
def State.fault (s : State) (source addr master access : Nat) : State := s.report ⟨source, addr, master, access, false, false⟩

/-- A light-frame boundary crosses to the SP as a pulse (crossing 10). While the crossing is held in reset, its counter takes up to 15
pulses; further ones are lost, and CROSSING_OVERRUN is raised as the bit sets (R544, R545). -/
def State.boundaryPulse (s : State) : State :=
  let map := s.get Reg.CHK_XING_OVERRUN.MAP
  if (s.chk.resets.find 10).isNone then s
  else if s.chk.pulses < 15 then { s with chk := { s.chk with pulses := s.chk.pulses + 1 } }
  else if bit map 10 then s
  else (s.set Reg.CHK_XING_OVERRUN.MAP (map ||| 2 ^ 10)).fault Src.crossingOverrun 10 15 5

end Sys2Proof.Machine
end

