-- ==== Sys2Proof/Machine/Command.lean ====
section
/-! DEFINITION. How the CP executes one request (09_command_protocol): the checks of R268 in their order, the handler,
the reply and the counters. -/

namespace Sys2Proof.Machine

/-- An opcode: its code, the lengths it takes, and its handler, which makes steps 6 (further states) to 8 of R268. -/
structure Op where
  code : Nat
  len : List Byte → Bool
  run : Req → State → Answer

/-- A fixed parameter length. -/
def exactly (n : Nat) (ps : List Byte) : Bool := ps.length == n

/-- Table 9-5: the life-cycle states in which an opcode passes step 4. -/
def lifeOk (code : Nat) (l : LifeCycle) : Bool :=
  let always := [0x0100, 0x0101, 0x0102, 0x0110, 0x0400, 0x0500, 0x0600, 0x0601, 0x0801, 0x0802, 0x0901, 0x0A06, 0x0C00,
    0x0D01, 0x0E00].contains code || code / 256 == 0x07
  match l with
  | .manufacture => true
  | .service => true
  | .field => code != 0x0603 && code != 0x0B01
  | .blank => always || code == 0x0120
  | .returned => always

/-- R282: the opcodes that pass while an entry step runs, and in STANDBY and SLEEP. -/
def lowPowerOk (code : Nat) : Bool :=
  [0x0100, 0x0101, 0x0102, 0x0110, 0x0500, 0x0600, 0x0601].contains code || code / 256 == 0x07

/-- R284: the opcodes the resident loader answers. -/
def loaderOk (code : Nat) : Bool :=
  [0x0100, 0x0101, 0x0102, 0x0500, 0x0600, 0x0601].contains code || code / 256 == 0x0A

/-- A position from 1 to 3 names an admitted follower (R269). -/
def State.admitted (s : State) (pos : Nat) : Bool := s.get (Reg.CAS_MEMBER.P pos) % 2 == 1

/-- Step 2 of R268 on TARGET. -/
def State.targetOk (s : State) (t : Nat) : Bool :=
  if t = 0 ∨ t = 0x0F then true
  else if 1 ≤ t ∧ t ≤ 3 then s.follower || s.admitted t
  else false

/-- The first failing step of R268 among steps 2, 3, 4 and the power state of step 6. -/
def State.barred (s : State) (op : Op) (r : Req) : Option Status :=
  if !s.targetOk r.target then some Status.badParam
  else if !op.len r.params then some Status.badLength
  else if !lifeOk op.code s.id.lifecycle then some Status.notPermitted
  else if s.mode = 2 ∧ !loaderOk op.code then some Status.badState
  else if s.mode ≠ 2 ∧ s.power ≠ 1 ∧ s.power ≠ 2 ∧ !lowPowerOk op.code then some Status.badState
  else none

/-- The reply packets an opcode can need: REG_READ, DEFECT_MAP_READ and SENSE_READ may answer in fragments (R279). -/
def replySpan (code : Nat) : Nat := if code = 0x0110 ∨ code = 0x0802 ∨ code = 0x0D01 then 4 else 1

/-- The requests that the MP acts on: fault clearing, power states, calibration and self-test runs, updates, the thermal policy. -/
def mpServes (code : Nat) : Bool := [0x0602, 0x0700, 0x0800, 0x0900, 0x0E01].contains code || (code / 256 == 0x0A && code != 0x0A06)

/-- The CP, or in loader mode the MP, executes packets now: neither paused nor stalled by a full reply ring (R281), and not in a follower that
is not admitted (R329). A request for the MP
waits until the MP runs, which alone can act on it (R21, R29; notes/assumptions/67.md). -/
def State.executes (s : State) (ring code : Nat) : Bool :=
  (s.cpUp || (s.mode == 2 && s.mpUp)) && (!s.follower || s.admittedSelf) && (s.mpUp || !mpServes code) && decide ((s.ring (ring + 8)).length + replySpan code ≤ 64)

/-- The packet a request was: it waits in its ring while it cannot be executed (R273). -/
def packetOf (r : Req) (tag code : Nat) (now : Nat) : Packet :=
  ⟨sealed tag code r.seq (b2n r.reply) r.target r.params, 0, now⟩

/-- The reply is sent (R271). Only the master answers a broadcast (R269). -/
def replies (s : State) (r : Req) (st : Status) : Bool :=
  (r.reply || !st.good) && !(s.follower && r.target == 0x0F)

/-- The parameters of a reply: STATUS, then the results (R270). -/
def replyParams (a : Answer) : List Byte := le 2 a.status ++ a.results

/-- A reply that is sent is counted when it refuses (Table 9-18). -/
def State.countErr (s : State) (sent : Bool) (st : Status) : State :=
  if sent && !st.good then s.bump Reg.SYS_ERR_COUNT.COUNT Reg.SYS_FLAGS.CNT_SAT else s

/-- An executed packet counted, and its reply if that refuses (R274, Table 9-18). -/
def State.countCmd (s : State) (sent : Bool) (st : Status) : State :=
  (s.bump Reg.SYS_CMD_COUNT.COUNT Reg.SYS_FLAGS.CNT_SAT).countErr sent st

/-- The answer of a request: the refusal of the first failing step, or what the handler answers. -/
def State.answerOf (s : State) (op : Op) (r : Req) : Answer :=
  match s.barred op r with
  | some st => refuse s st
  | none => op.run r s

/-- The answer's reply placed in reply ring n + 8 under the fold word of the request (R266, R270). -/
def Answer.place (a : Answer) (tag : Nat) (op : Op) (r : Req) : State :=
  if replies a.state r a.status then
    a.state.pushAll (r.ring + 8) (replyPackets tag op.code r.seq a.state.position (replyParams a))
  else a.state

/-- A packet for an admitted follower is passed on to it (R269, R345): it waits in the cascade's forward queue. -/
def State.passOn (s : State) (op : Op) (r : Req) : State := s.cascadeForward (packetOf r s.tag op.code s.now) r.ring r.target

/-- The packets executed without refusal are kept, the newest 16 of each ring; a fragmented request is none of them (R274). -/
def State.keep (s : State) (ring : Nat) (e : Executed) : State :=
  let l := (e :: Assoc.get [] s.proto.history ring).take 16
  s.setProto { s.proto with history := Assoc.set [] s.proto.history ring l }

/-- The trailer check of a request. -/
def requestCheck (r : Req) (tag code : Nat) : Nat :=
  let b := (packetOf r tag code 0).bytes
  leAt b (b.length - 2) 2

/-- The packet that a packet which arrives now repeats: one of its ring executed at most 1 s ago that has its OPCODE, SEQ and trailer
check (R274). -/
def State.executedBefore (s : State) (ring code seq check arrival : Nat) : Option Executed :=
  (Assoc.get [] s.proto.history ring).find? (fun e =>
    e.opcode == code && e.seq == seq && e.check == check && decide (arrival ≤ e.at_ + ms 1000))

/-- The packet that a request repeats. -/
def State.repeated (s : State) (op : Op) (r : Req) : Option Executed :=
  if r.params.length ≤ 1014 then s.executedBefore r.ring op.code r.seq (requestCheck r s.tag op.code) s.now else none

/-- A duplicate is not executed: its stored reply is sent again, and it is counted. -/
def State.repeatReply (s : State) (ring : Nat) (e : Executed) : State :=
  let s := if e.reply.isEmpty then s else s.pushAll (ring + 8) [e.reply]
  s.bump Reg.SYS_DUP_COUNT.COUNT Reg.SYS_FLAGS.CNT_SAT

/-- What R274 keeps of an answered packet. -/
def executedOf (tag : Nat) (op : Op) (r : Req) (a : Answer) (position now : Nat) (sent : Bool) : Executed :=
  ⟨op.code, r.seq, requestCheck r tag op.code, now,
    if sent then (replyPackets tag op.code r.seq position (replyParams a)).headD [] else []⟩

/-- WIDEN executes groups 0x02 and 0x03 and forwards them to every follower, BEAM_FIELD_MAP excepted (Table 11-6). -/
def State.widened (s : State) (code : Nat) : Bool :=
  !s.follower && s.get Reg.CAS_MODE.MODE == 0 && (code / 256 == 2 || code / 256 == 3) && code != 0x0210

/-- A packet of groups 0x02 and 0x03 for a follower that the cascade mode refuses (R336 ff., Table 11-6). -/
def State.modeRefuses (s : State) (code target : Nat) : Bool :=
  !s.follower && decide (1 ≤ target ∧ target ≤ 3) && s.admitted target && (code / 256 == 2 || code / 256 == 3)
    && ((s.get Reg.CAS_MODE.MODE == 0 && code != 0x0210) || s.get Reg.CAS_MODE.MODE == 1)

/-- The entries of a reply ring that a request's reply needs are kept free while it is executed, and no longer (R281). -/
def State.reserve (s : State) (x : Option (Nat × Nat)) : State := s.setProto { s.proto with reserved := x }

/-- One request handled, answered under a fold word (R266), counted and kept. -/
def State.serve (s : State) (tag : Nat) (op : Op) (r : Req) : State :=
  let s := s.reserve (some (r.ring + 8, replySpan op.code))
  let a := if s.modeRefuses op.code r.target then refuse s Status.badState else s.answerOf op r
  let s' := ((a.place tag op r).reserve none).countCmd (replies a.state r a.status) a.status
  if a.status.good ∧ r.params.length ≤ 1014 then s'.keep r.ring (executedOf tag op r a s.position s.now (replies a.state r a.status)) else s'

/-- One request executed, its check made with a fold word (R266): passed on when TARGET names an admitted follower; otherwise
checked, handled, counted and answered, and passed on as well when it is a broadcast or widened. -/
def State.commandAs (s : State) (tag : Nat) (op : Op) (r : Req) : State :=
  let s := s.wait r.wait
  let s := if s.flag Reg.PWR_STATE.SERVICE then s.setPwr { s.pwr with servicePacket := s.now } else s
  if s.executes r.ring op.code && s.cascadeRoom (if s.widened op.code then 0x0F else r.target) then
    if s.follower = false ∧ 1 ≤ r.target ∧ r.target ≤ 3 ∧ s.admitted r.target ∧ !s.modeRefuses op.code r.target then s.passOn op r
    else
      let s' := s.serve tag op r
      if r.target = 0x0F then s'.passOn op r
      else if r.target = 0 ∧ s.widened op.code then s'.passOn op { r with target := 0x0F }
      else s'
  else s.push r.ring (packetOf r s.tag op.code s.now)

/-- The bus of a command-in ring receives: the debug port's receivers are off except in MANUFACTURE and SERVICE (R556). -/
def State.receives (s : State) (ring : Nat) : Bool := ring != 7 || s.id.lifecycle == .manufacture || s.id.lifecycle == .service

/-- One request executed under the node tag, unless it repeats one (R274). -/
def State.command (s : State) (op : Op) (r : Req) : State :=
  if !s.receives r.ring then s.wait r.wait
  else match (if s.executes r.ring op.code then s.repeated op r else none) with
  | some e => (s.wait r.wait).repeatReply r.ring e
  | none => s.commandAs s.tag op r

/-- Whether a handler refuses: its status is neither OK nor ACCEPTED_PENDING. -/
def Answer.refused (a : Answer) : Bool := !a.status.good

end Sys2Proof.Machine
end

