-- ==== Sys2Proof/Machine/Store.lean ====
section
/-! DEFINITION. The containers in external flash and the RAM store (R212, R213, R219): where an entry stands, and what it holds. -/

namespace Sys2Proof.Machine

/-- Base of a container in the default directory (Table 7-4). -/
def defaultBase (kind : Nat) : Nat :=
  match kind with
  | 1 => 0x04010000 | 2 => 0x02010000 | 3 => 0x00010000 | 4 => 0x00810000 | 5 => 0x00C10000 | _ => 0x01C10000

/-- Size of a container in the default directory (Table 7-4); the pattern library takes the rest of the devices. -/
def State.defaultSize (s : State) (kind : Nat) : Nat :=
  match kind with
  | 1 => s.lib.devices.sum - 0x04010000 | 2 => 33554432 | 3 => 8388608 | 4 => 4194304 | 5 => 16777216 | _ => 4194304

/-- ENTRY_MAX of a container (Table 7-6, R426, R529). The spec sets none for the calibration backup, which has room for one entry, nor for the
ageing history, of which it describes none (DESIGN CHOICE, notes/assumptions/74.md). -/
def entryMax (kind : Nat) : Nat :=
  match kind with
  | 1 => 256 | 2 => 4096 | 3 => 3 | 4 => 1 | _ => 1024

/-- Index size of a container: ENTRY_MAX × 32 + 16 bytes in whole sectors (R213). -/
def indexSize (n : Nat) : Nat := (32 * n + 16 + 4095) / 4096 * 4096

/-- A container as the default directory and a new header lay it out: the index copies follow the header, the data follows them. -/
def State.newContainer (s : State) (kind : Nat) : Container :=
  let n := indexSize (entryMax kind)
  ⟨defaultBase kind, s.defaultSize kind, 4096, 4096 + n, 4096 + 2 * n, entryMax kind, 1, 0⟩

/-- The container of a kind, as found at start. -/
def State.container (s : State) (kind : Nat) : Container := (s.lib.containers.find kind).getD (s.newContainer kind)

/-- The device address of a place in the flash memory (R212). -/
def State.deviceAddr (s : State) (a : Nat) : Nat := if a < s.lib.devices.headD 0 then a else a - s.lib.devices.headD 0

/-- No external flash is in use: patterns and symbols are held in the RAM store (R219). -/
def State.ramStore (s : State) : Bool := s.flag Reg.CMP_LIB_STATUS.RAM_STORE
def State.inRam (s : State) (kind : Nat) : Bool := s.ramStore && decide (kind ≤ 2)

/-- Where an offset of a kind's container stands: in the RAM store, or in flash. -/
def State.storePlace (s : State) (kind off : Nat) : Nat := if s.inRam kind then 0x00C00000 + off else (s.container kind).base + off

/-- The fold word of an entry's check: the device address of its first byte (Table 7-7). -/
def State.storeFold (s : State) (kind off : Nat) : Nat := if s.inRam kind then 0x00C00000 + off else s.deviceAddr ((s.container kind).base + off)

/-- Bytes of a kind's container, or of the RAM store. -/
def State.storeBytes (s : State) (kind off n : Nat) : List Byte :=
  if s.inRam kind then Memory.readN 0 s.sram (s.storePlace kind off) n else Memory.readN 0xFF s.flash (s.storePlace kind off) n

/-- Bytes written to a kind's container, or to the RAM store. -/
def State.storePut (s : State) (kind off : Nat) (bs : List Byte) : State :=
  if s.inRam kind then { s with sram := Memory.store 0 s.sram (s.storePlace kind off) bs }
  else { s with flash := Memory.store 0xFF s.flash (s.storePlace kind off) bs }

/-- The bytes of an entry. -/
def State.entryBytes (s : State) (kind : Nat) (e : LibEntry) : List Byte := s.storeBytes kind e.offset e.length

/-- An entry passes its check (R214), which CHK3 makes: armed for injection, it never passes (R541). -/
def State.entryGood (s : State) (kind : Nat) (e : LibEntry) : Bool :=
  crc32cFold (s.storeFold kind e.offset) (s.entryBytes kind e) == e.check && !s.armed 0x23

/-- A library entry failed its check: counted, and raised once per entry (R214). -/
def State.entryFailed (s : State) (kind id : Nat) (e : LibEntry) : State :=
  let inj := s.armed 0x23
  let s := (s.injectAt 0x23).bump Reg.CMP_LIB_ERR_COUNT.COUNT Reg.CMP_STATUS.CNT_SAT
  let key := kind * 65536 + id
  if s.lib.raised.contains key then s
  else ({ s with lib := { s.lib with raised := key :: s.lib.raised } }).report ⟨Src.libEntryCheck, s.storeFold kind e.offset, 0, 4, inj, false⟩

/-- An entry was read whole, if there is one: a failing check counts. -/
def State.entryRead (s : State) (kind id : Nat) (e : Option LibEntry) : State :=
  match e with
  | none => s
  | some e => if s.entryGood kind e then s else s.entryFailed kind id e

end Sys2Proof.Machine
end

