-- ==== Sys2Proof/Machine/Beam.lean ====
section
/-! DEFINITION. Meeting place 1: the working copy, commits and their landing (R22, R23, R26 to R28, R161 to R189). -/

namespace Sys2Proof.Machine


def State.setWork (s : State) (w : Tables) : State := s.setBeam { s.beam with work := w }

/-! ### Frame instants -/

/-- Period P of the running light frame, base cycles (R44). -/
def State.period (s : State) : Nat := s.get Reg.SCN_FRAME_PERIOD.PERIOD

/-- The coming boundary. -/
def State.nextBoundary (s : State) : Nat := s.scan.frameStart + s.period

/-- Tick length and stretched ticks of the running frame. -/
def State.tickLen (s : State) : Nat := s.get Reg.SCN_LOCK_STATUS.T
def State.stretch (s : State) : Nat := s.get Reg.SCN_LOCK_STATUS.F

/-- SCN_FRAME_COUNT at the coming boundary: the next number, or the FRAME taken at the end of a realignment (R47, R334). -/
def State.comingCount (s : State) : Nat :=
  match s.casc.realign with
  | some n => n
  | none => (s.get Reg.SCN_FRAME_COUNT.COUNT + 1) % 2 ^ 32

/-- Light is composed: in ACTIVE, and during the fade of an entry from ACTIVE (R36, R56, R438). -/
def State.composes (s : State) : Bool := s.power == 1 || (s.power == 0 && s.pwr.entry.any (fun e => e.origin == 1))

/-! ### Timing of the coming frame (R46, R48 to R50, R335) -/

/-- Period of a frame of `t` base cycles a tick with `f` stretched ticks (R44). -/
def framePeriod (t f : Nat) : Nat := 4096 * t + f + 4240

/-- The video period times 15, as last measured: the mean interval between the last pixels of 16 consecutive complete input frames
(R48). -/
def State.video15 (s : State) : Option Nat := s.scan.video

/-- N of R48 from 15 × V and Pnom, at least 1. -/
def lockN (v15 p : Nat) : Nat := max 1 ((2 * v15 + 15 * p) / (30 * p))

/-- The target period V / N lies within both ranges, and N is at most 63 (R48). -/
def lockInRange (v15 p : Nat) : Bool :=
  let n := lockN v15 p
  decide (n ≤ 63 ∧ 98 * p * 15 * n ≤ 100 * v15 ∧ 100 * v15 ≤ 102 * p * 15 * n ∧ 250000 * 15 * n ≤ v15 ∧ v15 ≤ 495760 * 15 * n)

/-- The period of the coming frame in locked mode (R49): towards the aligned boundary with T one of TICK - 1, TICK, TICK + 1 within 60
to 120, and by at most 64 base cycles from the frame before. DESIGN CHOICE (notes/assumptions/68.md): where both bounds cannot hold, after
TICK was written, the step of 64 holds and T approaches its range. `left` frames run to the aligned boundary at `goal`; `b` is the boundary
from which they run. -/
def lockPeriod (tick old b goal left : Nat) : Nat :=
  let want := (goal - b + left - 1) / left
  let want := min (framePeriod (min 120 (tick + 1)) 4095) (max (framePeriod (max 60 (tick - 1)) 0) want)
  min (old + 64) (max (old - 64) want)

/-- T and F of a period. -/
def tickOf (p : Nat) : Nat × Nat := let t := min 120 ((p - 4240) / 4096); (t, p - 4240 - 4096 * t)

/-- The aligned instant after `b` nearest to `left` frames of the target period: an input frame's completion, extrapolated
by whole video periods, plus OFFSET (R49). -/
def lockGoal (last offset v15 b left n : Nat) : Nat :=
  let at_ := b + left * v15 / (15 * n)
  let k := if last + offset ≤ at_ then (2 * (at_ - last - offset) * 15 + v15) / (2 * v15) else 0
  last + offset + k * v15 / 15

/-- T and F of the frame that begins at boundary `b` (R46, R48, R49; a follower's come from its marker, R335). -/
def State.timing (s : State) (b : Nat) : Nat × Nat :=
  let tick := s.get Reg.SCN_TICK.TICK
  if s.follower then
    match s.casc.mark with
    | some m => (m.tick, m.stretch)
    | none => (s.tickLen, s.stretch)
  else if s.flag Reg.SCN_LOCK_CTRL.EN then
    match s.video15, s.scan.lastInput with
    | some v, some last =>
      if lockInRange v (framePeriod tick 0) then
        let n := lockN v (framePeriod tick 0)
        let left := if s.scan.aligned ≤ 1 then n else s.scan.aligned - 1
        tickOf (lockPeriod tick s.period b (lockGoal last (s.get Reg.SCN_LOCK_CTRL.OFFSET) v b left n) left)
      else tickOf (lockPeriod tick s.period b (b + framePeriod tick 0) 1)
    | _, _ => tickOf (lockPeriod tick s.period b (b + framePeriod tick 0) 1)
  else (tick, 0)

/-- Period of the frame that begins at `b`: the running one, or the coming one (R44). -/
def State.periodAt (s : State) (b : Nat) : Nat :=
  if b = s.scan.frameStart then s.period else framePeriod (s.timing b).1 (s.timing b).2

/-- What happens at `t` acts from boundary `b`: at least 0.9 ms before, certainly; less than 0.8 ms before, not; between, the choice
of rule `k`. -/
def bandFirst (k t b : Nat) : Bool :=
  if t + 90000 ≤ b then true else if b < t + 80000 then false else Config.choice k t

/-- R23: a commit at `t` lands for boundary `b`. -/
def landsFirst (t b : Nat) : Bool := bandFirst 23 t b

/-- R185: an object-list timer that expires at `t` acts from boundary `b`. -/
def expiryActs (t b : Nat) : Bool := bandFirst 185 t b

/-- R24: a commit of meeting place 2 or 3 at `t` lands for boundary `b`. -/
def landsSecond (t b : Nat) : Bool :=
  if t + 40000 ≤ b then true else if b < t + 35000 then false else Config.choice 24 t

/-! ### Commits -/

/-- Entries set since the last commit take its instant as their t_commit (R174). -/
def Tables.stamp (w : Tables) (t : Nat) : Tables :=
  { w with ctxs := w.ctxs.map (fun p => (p.1, if p.2.committed.isNone then { p.2 with committed := some t } else p.2)) }

/-- The CP commits the working copy (R26): a commit that still waits is replaced and counted. -/
def State.commitWork (s : State) : State :=
  let w := s.beam.work.stamp s.now
  let old := s.beam.waiting.isSome
  let s := s.setBeam { s.beam with work := w, waiting := some (w, s.now) }
  if old then s.bump Reg.BEAM_SUPERSEDED_COUNT.COUNT Reg.BEAM_STATUS.CNT_SAT else s

/-- A symbol is resident (R199, R219). -/
def State.symbolResident (s : State) (id : Nat) : Bool := s.ramStore || s.lib.resident.any (fun x => x.1 == id)

/-- The SYMBOL contexts that the commit to be made names first and whose symbols are not resident (R199), with their symbols. -/
def State.missingSymbols (s : State) : List (Nat × Nat) :=
  (s.beam.work.ctxs.filter (fun p => p.2.entry.type == 3 && !p.2.releasing && !s.symbolResident p.2.entry.symbol && p.2.committed.isNone
    && !s.beam.symbolWait.contains (p.1, p.2.entry.symbol))).map (fun p => (p.1, p.2.entry.symbol))

/-- A commit at meeting place 1: at once, or once every missing symbol is resident (R199). DEDUCED (notes/assumptions/77.md): a commit made
meanwhile, which names no further missing symbol, is made at once and carries the whole working copy (R26, R32). -/
def State.commit (s : State) : State :=
  match s.missingSymbols with
  | [] => s.commitWork
  | l =>
    let since := if s.beam.symbolWait.isEmpty then s.now else s.beam.symbolSince
    (s.setBeam { s.beam with symbolWait := s.beam.symbolWait ++ l, symbolSince := since }).bump Reg.CMP_SYM_MISS_COUNT.COUNT Reg.CMP_STATUS.CNT_SAT

/-- The commit when the COMMIT flag is set. -/
def State.commitIf (s : State) (b : Bool) : State := if b then s.commit else s

/-- The next edition number. -/
def State.edition (s : State) : Nat := s.beam.editions + 1
def State.editionUp (s : State) : State := s.setBeam { s.beam with editions := s.beam.editions + 1 }

/-! ### Fades (R178) -/

/-- Progress u of a fade for the frame shown from `b` with period `p`. -/
def Fade.u (f : Fade) (b p : Nat) : Nat :=
  if f.len = 0 then 4096 else min 4096 (4096 * (b + p - f.b0) / f.len)

/-- The weight k of a fade. -/
def Fade.k (f : Fade) (b p : Nat) : Nat :=
  let u := f.u b p
  if f.perceptual then u * u * u / 16777216 else u

/-- The level shown: A + (Z - A) * k / 4096, rounded to nearest (halves upwards, notes/assumptions/12.md). -/
def Fade.level (f : Fade) (b p : Nat) : Nat :=
  let k := f.k b p
  if f.a ≤ f.z then f.a + ((f.z - f.a) * k * 2 + 4096) / 8192
  else f.z + ((f.a - f.z) * (4096 - k) * 2 + 4096) / 8192

/-- A level that does not fade. -/
def Fade.still (v b : Nat) : Fade := ⟨v, v, b, 0, false⟩

/-- The boundary at which a fade is complete: the end of the first frame that ends at or after B0 + T (R178). -/
def State.fadeDone (s : State) (f : Fade) : Nat :=
  s.scan.frameStart + (f.b0 + f.len - s.scan.frameStart + s.period - 1) / s.period * s.period

/-- The level of a context in the frame shown from `b`. -/
def State.ctxLevel (s : State) (n b : Nat) : Nat :=
  match s.beam.fades.find n with
  | some f => f.level b (s.periodAt b)
  | none => 0

/-! ### Landing (R22, R179, R180) -/

/-- The level of an object that lets everything through, or shows nothing (R177). -/
def ObjEntry.off (e : ObjEntry) : Nat := if e.type = 1 then 4096 else 0

/-- The fade a context starts with when its entry lands at `b` (Table 6-3, R180). An object released before it was shown starts from the
level that shows nothing of it. -/
def State.landFade (s : State) (n : Nat) (old : Option Ctx) (c : Ctx) (b : Nat) : Fade :=
  let shown := s.ctxLevel n s.scan.frameStart
  let e := c.entry
  if c.releasing then
    ⟨if old.any (fun o => o.entry.type == e.type) then shown else e.off, e.off, b, ms e.fadeMs, e.perceptual⟩
  else
    match old with
    | some o =>
      if o.entry.type = e.type then
        if !o.releasing ∧ o.entry.level = e.level then (s.beam.fades.find n).getD (Fade.still e.level b)
        else if e.type = 1 ∧ e.level ≤ shown then Fade.still e.level b
        else ⟨shown, e.level, b, ms e.fadeMs, e.perceptual⟩
      else if e.type = 1 then Fade.still e.level b else ⟨0, e.level, b, ms e.fadeMs, e.perceptual⟩
    | none => if e.type = 1 then Fade.still e.level b else ⟨0, e.level, b, ms e.fadeMs, e.perceptual⟩

/-- Contexts of the landing copy: new fades for those that changed. -/
def State.landCtxs (s : State) (new : Assoc Ctx) (b : Nat) : Assoc Fade :=
  new.map (fun p =>
    let old := s.beam.front.ctxs.find p.1
    match old with
    | some o =>
      if o.edition = p.2.edition then (p.1, (s.beam.fades.find p.1).getD (Fade.still p.2.entry.level b))
      else (p.1, s.landFade p.1 old p.2 b)
    | none => (p.1, s.landFade p.1 none p.2 b))

/-- The front and back copies of flipped layers exchange (R203). -/
def State.landFlips (s : State) (b : Nat) : List Nat → State
  | [] => s
  | n :: l =>
    let s := s.set (Reg.CMP_LAYER_STATUS.FRONT_COPY n) (1 - s.get (Reg.CMP_LAYER_STATUS.FRONT_COPY n))
    State.landFlips (s.setBeam { s.beam with flipLanded := s.beam.flipLanded.insert n b }) b l

/-- CRC-32C of the map image with fold word 0 (R171). -/
def FieldMap.image (m : FieldMap) : List Byte :=
  [m.h0, m.v0, m.dh, m.dv].flatMap (fun z => le 2 (ofSigned 16 z))
    ++ m.nodes.flatMap (fun n => le 2 (ofSigned 16 n.1) ++ le 2 (ofSigned 16 n.2))
def FieldMap.check (m : FieldMap) : Nat := crc32cFold 0 m.image

/-- The registers of the field map in use (Table 6-17). -/
def State.showMap (s : State) (m : Option FieldMap) : State :=
  match m with
  | none => s.set Reg.BEAM_STATUS.MAP_VALID 0
  | some m => s.setAll [(Reg.BEAM_STATUS.MAP_VALID, 1), (Reg.BEAM_FIELD_MAP_CHECK.CHK, m.check),
      (Reg.BEAM_FIELD_GRID_H.H0, ofSigned 16 m.h0), (Reg.BEAM_FIELD_GRID_H.DH, ofSigned 16 m.dh),
      (Reg.BEAM_FIELD_GRID_V.V0, ofSigned 16 m.v0), (Reg.BEAM_FIELD_GRID_V.DV, ofSigned 16 m.dv)]

/-- CMP_ENABLE and CMP_STATUS follow the front descriptors (Table 7-16). -/
def State.showLayers (s : State) (t : Tables) : State :=
  let idx := t.layers.mapIdx (fun i l => (i, l))
  let static := maskOf ((idx.filter (fun x => x.2.static)).map (·.1))
  let out := idx.any (fun x => x.2.static && x.2.enabled && !t.run.contains x.1)
  s.setAll [(Reg.CMP_ENABLE.ENABLE, maskOf ((idx.filter (fun x => x.2.enabled)).map (·.1))),
    (Reg.CMP_ENABLE.STATIC, static), (Reg.CMP_ENABLE.RUN, maskOf t.run), (Reg.CMP_STATUS.STATIC_LIVE, b2n out),
    (Reg.CMP_STATUS.FRONT, t.bisque.getD (s.get Reg.CMP_STATUS.FRONT)),
    (Reg.CMP_STATUS.LIVE, b2n (!t.run.isEmpty && t.bisque.isNone))]

/-- The index of a base buffer that holds a pattern (R163). -/
def State.bufferOf (s : State) (pat : Nat) : Option Nat :=
  (s.beam.buffers.find? (fun p => p.2 == some pat)).map (·.1)

/-- The bases that a running crossfade starts from (R166). -/
def Beam.fadeBases (b : Beam) : List BaseSel := if b.baseFade.isSome then b.oldBase :: b.oldMix.map (·.1) else []

/-- The bases in use or on their way: shown, faded from, set, waiting to land, queued (R163, R166). -/
def Beam.bases (b : Beam) : List BaseSel :=
  [b.front.base, b.work.base] ++ b.fadeBases ++ (b.waiting.map (·.1.base)).toList ++ b.queued.toList

/-- The buffers in use (R163): those of the bases in use, of the stale-list pattern, and of the input frame in use. -/
def State.heldBuffers (s : State) : List Nat :=
  (((s.beam.bases.filter (fun x => x.source == 0)).map (·.pattern) ++ [s.get Reg.BEAM_STALE.PATTERN]).filterMap s.bufferOf)
    ++ s.beam.linkBuffer.toList

/-- The base buffer that takes a pattern (R163, R164): the one that it stands in already, else one not in use. DESIGN CHOICE
(notes/assumptions/76.md): while all three are in use, as during a crossfade between two patterns beside a third stale-list pattern, no
load completes. -/
def State.bufferFor (s : State) (pat : Nat) : Option Nat :=
  match s.bufferOf pat with
  | some n => some n
  | none => [0, 1, 2].find? (fun n => !s.heldBuffers.contains n)

/-- LINK has landed where it was not the base (R163, R165): the buffers serve the link, the stale-list pattern is not resident, and the base
is zero until an input frame is taken up; the patterns the base crossfades from stay. -/
def State.enterLink (s : State) : State :=
  let keep := s.beam.buffers.filter (fun (p : Nat × Option Nat) => s.beam.fadeBases.any (fun x => x.source == 0 && p.2 == some x.pattern))
  (s.setBeam { s.beam with linkBuffer := none, buffers := keep }).set Reg.BEAM_STATUS.STALE_RESIDENT 0

/-- The load of a pattern begins (R164). -/
def State.beginLoad (s : State) (pat : Nat) (select : Option BaseSel) (stale : Bool) : State :=
  (s.setBeam { s.beam with loading := some ⟨pat, select, s.now, stale⟩ }).set Reg.BEAM_STATUS.LOADING 1

/-- The CP loads the stale-list pattern where it is not in a base buffer, or was installed anew, once no other load runs (R163, R218). -/
def State.staleLoad (s : State) : State :=
  let pat := s.get Reg.BEAM_STALE.PATTERN
  let here := (s.bufferOf pat).isSome
  let s := s.set Reg.BEAM_STATUS.STALE_RESIDENT (b2n here)
  if (here && !s.beam.reload) || s.beam.loading.isSome then s else s.beginLoad pat none true

/-- The frame of LINK is no longer needed once the base has left LINK and no crossfade from it runs (R163, R165); a follower in the clone
modes goes on with it (R342). -/
def State.settleLink (s : State) : State :=
  if s.beam.front.base.source = 1 ∨ s.beam.baseFade.isSome ∨ (s.follower && (s.get Reg.CAS_MODE.MODE == 1 || s.flag Reg.CAS_MODE.CLONE)) then s
  else s.setBeam { s.beam with linkBuffer := none }

/-- The bank loaded with the variant of a newly selected pattern becomes the active one at the landing boundary (R19, R162). -/
def State.microLands (s : State) (old : BaseSel) (pattern : Nat) : State :=
  if old.source = 0 ∧ old.pattern = pattern then s
  else
    let b := 1 - s.get Reg.BEAM_STATUS.BANK
    (s.setBeam { s.beam with micro := setNth s.beam.micro b (some pattern) }).set Reg.BEAM_STATUS.BANK b

/-- A base selection lands at `b` (R164 to R166): the base crossfades from the one shown, or is replaced whole. -/
def State.landBase (s : State) (sel : BaseSel) (b : Nat) : State :=
  if sel.edition = s.beam.front.base.edition then s
  else
    let front := s.beam.front.base
    let old := match s.beam.baseFade with
      | none => (front, [])
      | some f => (s.beam.oldBase, s.beam.oldMix ++ [(front, f.k s.scan.frameStart s.period)])
    let fade := if sel.fadeMs = 0 then none else some (Fade.mk 0 4096 b (ms sel.fadeMs) sel.perceptual)
    let s := s.setBeam { s.beam with oldBase := old.1, oldMix := old.2, baseFade := fade }
    let s := s.setAll [(Reg.BEAM_STATUS.SOURCE, sel.source), (Reg.BEAM_STATUS.XFADE, b2n (sel.fadeMs != 0))]
    let s := if sel.source = 0 then (s.set Reg.BEAM_PATTERN.CURRENT sel.pattern).microLands front sel.pattern else s
    if sel.source = 1 then (if front.source = 1 then s else s.enterLink) else if front.source = 1 then s.staleLoad else s

/-- A commanded level lands: its fade starts from the level shown. -/
def landRamp (old new : Ramp) (f : Fade) (b frame p : Nat) : Fade :=
  if old.edition = new.edition then f else ⟨f.level frame p, new.target, b, new.len, new.perceptual⟩

/-- A context of the front copy freed: it is removed from every copy that holds the same setting of it; a later setting in the working
copy or in a commit that waits stands (R26, R180). -/
def Beam.drop (b : Beam) (n : Nat) : Beam :=
  let ed := (b.front.ctxs.find n).map (·.edition)
  let del := fun (t : Tables) => if (t.ctxs.find n).map (·.edition) = ed then { t with ctxs := t.ctxs.erase n } else t
  { b with front := del b.front, work := del b.work, waiting := b.waiting.map (fun p => (del p.1, p.2)), fades := b.fades.erase n }

/-- WATCH is FRESH again (R189): margins are no longer grown. -/
def State.watchFresh (s : State) : State :=
  ((s.setBeam { s.beam with t1At := none, t2At := none, fallBase := none }).set Reg.BEAM_STATUS.WATCH 0).beamEvent 7 0xFF
    (s.get Reg.BEAM_PATTERN.CURRENT) 0

/-- A complete list has landed (R189): GROWING returns to FRESH; the grown margins of the fallback stay until its crossfade is complete
(R187). -/
def State.landList (s : State) : State :=
  match s.get Reg.BEAM_STATUS.WATCH with
  | 0 => s
  | 1 => s.watchFresh
  | _ => s.setBeam { s.beam with listSince := true, t1At := if s.beam.t2At.isSome then s.beam.t1At else none }

/-- The crossfade of the fallback is complete (R187): the DIM_BOX contexts that it kept are freed. -/
def State.fallComplete (s : State) : State :=
  match s.beam.t2At with
  | none => s
  | some t2 =>
    if s.beam.fallBase ≠ some s.beam.front.base.edition then s
    else
      let boxes := s.beam.front.ctxs.filterMap (fun p => if p.2.entry.type = 1 ∧ p.2.committed.getD 0 ≤ t2 then some p.1 else none)
      let b := boxes.foldl (fun b n => b.drop n) s.beam
      s.setBeam { b with t2At := none, t1At := if b.listSince then none else b.t1At }

/-- The waiting commit lands whole at boundary `b` (R22, R23). -/
def State.landTables (s : State) (new : Tables) (b : Nat) : State :=
  let fades := s.landCtxs new.ctxs b
  let old := s.beam.front
  let dim := landRamp old.dimmer new.dimmer s.beam.dimFade b s.scan.frameStart s.period
  let stop := landRamp old.stop new.stop s.beam.stopFade b s.scan.frameStart s.period
  let s := s.landBase new.base b
  let s := s.landFlips b new.flips
  let s := if new.map = old.map then s else s.showMap new.map
  let s := s.showLayers new
  let ctxs := new.ctxs.filter (fun p => !p.2.atOnce)
  let work := { s.beam.work with
    flips := s.beam.work.flips.filter (fun n => !new.flips.contains n), ctxs := s.beam.work.ctxs.filter (fun p => !p.2.atOnce) }
  let s := s.setBeam { s.beam with
    front := { new with flips := [], ctxs := ctxs }, waiting := none, work := work, fades := fades, dimFade := dim, stopFade := stop }
  let s := if s.get Reg.CMP_STATUS.BUILD = 2 then s.set Reg.CMP_STATUS.BUILD 0 else s
  let s := if new.list = old.list then s else s.landList
  if s.beam.baseFade.isSome then s else s.settleLink.fallComplete

/-- The commit waiting for the coming boundary lands there if R23 lets it; while scan-out is held it waits (R28). -/
def State.landFirst (s : State) (b : Nat) : State :=
  match s.beam.waiting with
  | none => s
  | some (new, t) => if s.scanHeld then s else if landsFirst t b then s.landTables new b else s

/-- The content in force for the coming boundary (R54): the waiting commit if it lands there, else the front. -/
def State.inForce (s : State) : Tables :=
  match s.beam.waiting with
  | none => s.beam.front
  | some (new, t) => if !s.scanHeld && landsFirst t s.nextBoundary then new else s.beam.front

/-! ### The working copy -/

/-- A context of the working copy set to an entry, or released (TYPE 0, R179, R180). -/
def State.setCtx (s : State) (n : Nat) (e : Option ObjEntry) : State :=
  let s := s.editionUp
  let w := s.beam.work
  match e with
  | some e => s.setWork { w with ctxs := w.ctxs.insert n ⟨e, false, false, none, s.beam.editions⟩ }
  | none =>
    match w.ctxs.find n with
    | some c =>
      if c.releasing then s
      else s.setWork { w with ctxs := w.ctxs.insert n { c with releasing := true, edition := s.beam.editions } }
    | none => s

/-- A context freed at once, without fade (IMMEDIATE, Table 6-7). -/
def State.freeCtx (s : State) (n : Nat) : State :=
  let s := s.editionUp
  let w := s.beam.work
  match w.ctxs.find n with
  | some c => s.setWork { w with ctxs := w.ctxs.insert n { c with releasing := true, atOnce := true, edition := s.beam.editions } }
  | none => s

/-- The variant of a newly selected pattern is loaded into the inactive microcode bank before the selection commits (R19, R162). -/
def State.microLoads (s : State) (pattern : Nat) : State :=
  if s.beam.front.base.source = 0 ∧ s.beam.front.base.pattern = pattern then s
  else s.setBeam { s.beam with micro := setNth s.beam.micro (1 - s.get Reg.BEAM_STATUS.BANK) (some pattern) }

/-- The base selected in the working copy. -/
def State.selectBase (s : State) (source pattern fadeMs : Nat) (perceptual : Bool) : State :=
  let s := if source = 0 then s.editionUp.microLoads pattern else s.editionUp
  s.setWork { s.beam.work with base := ⟨source, pattern, fadeMs, perceptual, s.beam.editions⟩ }

/-- The module dimmer commanded (R438). -/
def State.setDimmer (s : State) (target len : Nat) : State :=
  let s := s.editionUp
  s.setWork { s.beam.work with dimmer := ⟨target, len, true, s.beam.editions⟩ }

/-- The thermal stop weight commanded (R479). -/
def State.setStop (s : State) (target fadeMs : Nat) (perceptual : Bool) : State :=
  let s := s.editionUp
  s.setWork { s.beam.work with stop := ⟨target, ms fadeMs, perceptual, s.beam.editions⟩ }

/-- The waiting selections dropped by the fallback (R166): loading abandoned, LOADING and QUEUED clear. -/
def State.dropSelections (s : State) : State :=
  let n := (if (s.beam.loading.bind (·.select)).isSome then 1 else 0) + (if s.beam.queued.isSome then 1 else 0)
    + (if s.beam.work.base.edition ≠ s.beam.front.base.edition then 1 else 0)
  let keep := fun (t : Tables) => { t with base := s.beam.front.base }
  let s := s.setBeam { s.beam with
    loading := none, queued := none, work := keep s.beam.work, waiting := s.beam.waiting.map (fun p => (keep p.1, p.2)) }
  (s.setAll [(Reg.BEAM_STATUS.LOADING, 0), (Reg.BEAM_STATUS.QUEUED, 0)]).bumpBy
    Reg.BEAM_SUPERSEDED_COUNT.COUNT Reg.BEAM_STATUS.CNT_SAT n

end Sys2Proof.Machine
end

