-- ==== Sys2Proof/Machine/Render.lean ====
section
/-! DEFINITION. The arithmetic of the composed output, pixel by pixel: the field map and geometry at light time (R168 to
R176), masks and edges (R177), symbols and layers (R192 to R197), segments (R210), the base and the order of rendering
(R161). All arithmetic before a stated rounding is exact. -/

namespace Sys2Proof.Machine

/-! ### Perceptual decode -/

/-- The greatest number of `[lo, lo + 2^k)` for which a downward-closed test holds. -/
def bisect (holds : Nat → Bool) : Nat → Nat → Nat
  | 0, lo => lo
  | k + 1, lo => if holds (lo + 2 ^ k) then bisect holds k (lo + 2 ^ k) else bisect holds k lo

/-- LUMA8P (R234): floor(65,535 × 2^((n - 255) / 16) + 0.5), and 0 for 0. The value is the greatest v with
(2v - 1)^16 × 2^(255 - n) at most 131,070^16. -/
def luma8p (n : Nat) : Nat :=
  if n = 0 then 0 else bisect (fun v => decide ((2 * v - 1) ^ 16 * 2 ^ (255 - n) ≤ 131070 ^ 16)) 16 0

/-- LUMA12 (R234). -/
def luma12 (v : Nat) : Nat := v * 16 + v / 256

/-! ### sin² profile (R177) -/

/-- 2^96 times the cosine of x / 2^96, by the series to the power 40; `x` below 4 × 2^96. -/
def cosFixed (x : Int) : Int :=
  let one : Int := 2 ^ 96
  let x2 := x * x / one
  ((List.range 20).foldl (fun (acc : Int × Int) (k : Nat) =>
    let t := -(acc.2 * x2 / one) / (((2 * k + 1) * (2 * k + 2) : Nat) : Int)
    (acc.1 + t, t)) (one, one)).1

/-- 2^96 × π. -/
def piFixed : Int := 248902613312231085230521944622

/-- round(n × sin²(π × k / (2 × (e + 1)))): exact where the sine squared is rational (1/4, 1/2, 3/4), by the fixed-point
cosine elsewhere, where no tie can occur. -/
def sinSquared (n k e : Nat) : Nat :=
  let q := e + 1
  if 3 * k = q then (n + 2) / 4
  else if 2 * k = q then (n + 1) / 2
  else if 3 * k = 2 * q then (3 * n + 2) / 4
  else
    let one : Int := 2 ^ 96
    let c := cosFixed (piFixed * k / q)
    (((n : Int) * (one - c) + one) / (2 * one)).toNat

/-- The profile of R177 at distance `d`, running from `inner` up or down to `outer` over the edge. -/
def profile (inner outer d margin edge : Nat) : Nat :=
  if d ≤ margin then inner
  else if d ≤ margin + edge then
    if inner ≤ outer then inner + sinSquared (outer - inner) (d - margin) edge
    else inner - sinSquared (inner - outer) (d - margin) edge
  else outer

/-! ### Geometry at light time (R168 to R176) -/

/-- A direction mapped to a pixel position in eighths (R169). -/
def FieldMap.position (m : FieldMap) (h v : Rat) : Rat × Rat :=
  let fi := (h - m.h0) / m.dh
  let fj := (m.v0 - v) / m.dv
  let i := (min (max fi.floor 0) 31).toNat
  let j := (min (max fj.floor 0) 7).toNat
  let u := fi - (i : Rat)
  let w := fj - (j : Rat)
  let n := fun a b => m.nodes.getD (33 * b + a) (0, 0)
  let mix := fun (f : Int × Int → Int) =>
    (1 - u) * (1 - w) * (f (n i j) : Rat) + u * (1 - w) * f (n (i + 1) j) + (1 - u) * w * f (n i (j + 1)) + u * w * f (n (i + 1) (j + 1))
  (mix Prod.fst, mix Prod.snd)

/-- A rectangle of pixels: first and last column, first and last row; the array is taken as unbounded (R176). -/
structure Rect where
  colFirst : Int
  colLast : Int
  rowFirst : Int
  rowLast : Int
deriving DecidableEq, Repr

/-- The extrapolation time tau in base cycles for the frame shown from `b` with period `p` (R174), and whether it was cut. -/
def tau (e : ObjEntry) (commit b p limitMs : Nat) : Rat × Bool :=
  let t : Rat := (e.obsAge * 1000 : Nat) + ((b : Rat) + (p : Rat) / 2 - (commit : Rat))
  let cap : Rat := (limitMs * 100000 : Nat)
  if cap < t then (cap, true) else (t, false)

/-- Base cycles per second. -/
def perSecond : Rat := 100000000

/-- Velocity in the units of the coordinates per base cycle: 0.01° per second, or sixteenths of a pixel per second. -/
def speed (e : ObjEntry) (v : Int) : Rat := if e.angle then (v : Rat) / perSecond else (v : Rat) / 16 / perSecond

def absRat (r : Rat) : Rat := if r < 0 then -r else r

/-- Grid lines strictly between two values. -/
def between (lo hi : Rat) (lines : List Rat) : List Rat := lines.filter (fun x => decide (lo < x) && decide (x < hi))

def minRat (l : List Rat) : Rat := l.tail.foldl (fun a b => if b < a then b else a) (l.headD 0)
def maxRat (l : List Rat) : Rat := l.tail.foldl (fun a b => if a < b then b else a) (l.headD 0)

/-- The core rectangle of a DIM_BOX or MARK for the frame shown from `b` with period `p` (R174). -/
def coreRect (e : ObjEntry) (map : Option FieldMap) (commit b p limitMs : Nat) : Rect :=
  let t := (tau e commit b p limitMs).1
  let dh := speed e e.velH * t
  let dv := speed e e.velV * t
  let sh := absRat (speed e e.velH) * p / 2
  let sv := absRat (speed e e.velV) * p / 2
  let left : Rat := e.left + dh - sh
  let right : Rat := e.right + dh + sh
  match e.angle, map with
  | true, some m =>
    let top : Rat := e.top + dv + sv
    let bottom : Rat := e.bottom + dv - sv
    let hs := between left right ((List.range 33).map (fun (i : Nat) => (m.h0 + m.dh * i : Rat)))
    let vs := between bottom top ((List.range 9).map (fun (j : Nat) => (m.v0 - m.dv * j : Rat)))
    let pts := ((left :: right :: hs).flatMap (fun h => [(h, top), (h, bottom)])) ++ vs.flatMap (fun v => [(left, v), (right, v)])
    let ps := pts.map (fun q => m.position q.1 q.2)
    let xs := ps.map (·.1)
    let ys := ps.map (·.2)
    ⟨(minRat xs / 8).floor, (maxRat xs / 8).ceil - 1, (minRat ys / 8).floor, (maxRat ys / 8).ceil - 1⟩
  | _, _ =>
    let top : Rat := e.top + dv - sv
    let bottom : Rat := e.bottom + dv + sv
    ⟨left.floor, right.ceil, top.floor, bottom.ceil⟩

/-- The pixel of a SYMBOL's anchor (R175). -/
def anchor (e : ObjEntry) (map : Option FieldMap) (commit b p limitMs : Nat) : Int × Int :=
  let t := (tau e commit b p limitMs).1
  let x : Rat := e.left + speed e e.velH * t
  let y : Rat := e.top + speed e e.velV * t
  match e.angle, map with
  | true, some m =>
    let q := m.position x y
    ((q.1 / 8).ceil - 1, (q.2 / 8).ceil - 1)
  | _, _ => ((x - 1 / 2).ceil, (y - 1 / 2).ceil)

/-- Distance of a pixel from a rectangle (R177). -/
def Rect.distance (r : Rect) (x y : Nat) : Nat :=
  let d := fun (lo hi z : Int) => if z < lo then (lo - z).toNat else if hi < z then (z - hi).toNat else 0
  max (d r.colFirst r.colLast x) (d r.rowFirst r.rowLast y)

/-- The instant the object-list timers measure from (R185). -/
def State.listBase (s : State) : Nat := max (s.beam.lastList.getD 0) s.beam.activeAt

/-- The timers run: WATCH_EN, and the power state ACTIVE (R185). -/
def State.watching (s : State) : Bool := s.flag Reg.BEAM_GROW.WATCH_EN && s.power == 1

/-- The expiry of T1 that margins grow from: the one that has come, or the one to come (R185, R186). -/
def State.t1Instant (s : State) : Option Nat :=
  match s.beam.t1At with
  | some t => some t
  | none => if s.watching && s.get Reg.BEAM_STATUS.WATCH == 0 then some (s.listBase + ms (s.get Reg.BEAM_WATCH.T1)) else none

/-- Extra margin of DIM_BOX contexts while the host is silent (R186), for the frame shown from `b`. -/
def State.growth (s : State) (b : Nat) : Nat :=
  match s.t1Instant with
  | some t1 =>
    if s.flag Reg.BEAM_GROW.WATCH_EN && expiryActs t1 b then min (s.get Reg.BEAM_GROW.MAX) (s.get Reg.BEAM_GROW.RATE * (b - t1) / 100000000)
    else 0
  | none => 0

/-- Sensed-source dimming acts in the frame shown from `b` (R155): T1 has expired since the last list that landed, no list completed before
it did, whether or not WATCH_EN is set. -/
def State.ssdActs (s : State) (b : Nat) : Bool :=
  let e := max (s.beam.front.list.getD 0) s.beam.activeAt + ms (s.get Reg.BEAM_WATCH.T1)
  s.id.variant == .aw && bit (s.get Reg.SNS_CTRL.ENABLE) 3 && s.power == 1 && expiryActs e b
    && (s.beam.lastList == s.beam.front.list || decide (e ≤ s.beam.lastList.getD 0)) && s.scan.running && !s.scanHeld
    && !s.flag Reg.STR_STATUS.LIMP_ENGAGED

/-- The core rectangle of a context for the frame shown from `b`. -/
def State.ctxRect (s : State) (t : Tables) (c : Ctx) (b : Nat) : Rect :=
  coreRect c.entry t.map (c.committed.getD s.now) b (s.periodAt b) (s.get Reg.BEAM_CTRL.EXTRAP_MAX)

/-! ### What a frame shows, context by context and row by row

Nothing of it changes within a frame, so it is worked out once: the contexts for the whole frame, the rest for each row. -/

/-- A context as a frame shows it: its level, the core rectangle of a DIM_BOX or MARK, the anchor pixel of a SYMBOL and, when the symbol
is resident, its bytes. -/
structure CtxView where
  entry : ObjEntry
  level : Nat
  rect : Rect
  anchor : Int × Int
  bytes : List Byte
deriving DecidableEq, Repr

/-- Two bytes at a time (R6). -/
def pairs : List Byte → List Nat
  | a :: b :: l => ofLe [a, b] :: pairs l
  | _ => []

/-- Bytes per pixel of a buffer format (Table 7-2). -/
def formatBytes (f : Nat) : Nat := if f = 0 ∨ f = 2 then 2 else 1

/-- Size of one copy of a layer's content (R201). -/
def Layer.copySize (l : Layer) : Nat :=
  if l.source = 3 then 98304 else (l.bufW * l.bufH * formatBytes l.format + 4095) / 4096 * 4096

/-- Address of a copy (R201). -/
def Layer.copyAt (l : Layer) (copy : Nat) : Nat := 0x01000000 + l.bufOffset * 4096 + copy * l.copySize

/-- The bytes of a library symbol: in external flash, or in the RAM store (R219). -/
def State.symbolBytes (s : State) (id : Nat) : List Byte :=
  match Assoc.get none s.lib.symbols id with
  | none => []
  | some e => s.entryBytes 2 e

/-- A context as the frame shown from `b` shows it. A symbol that is not resident draws nothing (R199). -/
def State.ctxView (s : State) (t : Tables) (b : Nat) (p : Nat × Ctx) : CtxView :=
  let e := p.2.entry
  { entry := e, level := s.ctxLevel p.1 b
    rect := if e.type = 3 then ⟨0, 0, 0, 0⟩ else s.ctxRect t p.2 b
    anchor := if e.type = 3 then anchor e t.map (p.2.committed.getD s.now) b (s.periodAt b) (s.get Reg.BEAM_CTRL.EXTRAP_MAX) else (0, 0)
    bytes := if e.type = 3 ∧ s.symbolResident e.symbol then s.symbolBytes e.symbol else [] }

/-- The contexts of a set of tables for the frame shown from `b`, in increasing context number. -/
def State.views (s : State) (t : Tables) (b : Nat) : List CtxView := t.ctxs.map (s.ctxView t b)

/-- The values of a row of a base buffer (R6). -/
def State.bufferRow (s : State) (n y : Nat) : List Nat :=
  let a := n * 0x200000 + 4096 * y
  pairs (Memory.readN 0 (keysIn s.sram a 4096) a 4096)

/-- The values of one base in a row: the pattern's buffer, the input frame in use, or zero (R163). -/
def State.baseRow (s : State) (b : BaseSel) (y : Nat) : List Nat :=
  match b.source with
  | 0 => match s.bufferOf b.pattern with
    | some n => s.bufferRow n y
    | none => []
  | 1 => match s.beam.linkBuffer with
    | some n => s.bufferRow n y
    | none => []
  | _ => []

/-- A layer in a row: the bytes of a BUFFER's row, or the blocks of a SEGMENT layer that cover it, the highest first: first column, last
column, level. -/
structure LayerRow where
  number : Nat
  layer : Layer
  bytes : List Byte
  blocks : List (Nat × Nat × Nat)
deriving DecidableEq, Repr

/-- The row of a BUFFER layer's content that a pixel row meets (R194). -/
def State.layerBytes (s : State) (l : Layer) (copy y : Nat) : List Byte :=
  let r : Int := y - l.bufY
  if r < 0 ∨ (l.bufH : Int) ≤ r then []
  else
    let n := l.bufW * formatBytes l.format
    let a := l.copyAt copy + r.toNat * n
    Memory.readN 0 (keysIn s.sram a n) a n

/-- The blocks that cover a row, the highest first (R210). -/
def State.blocksOf (s : State) (l : Layer) (copy y : Nat) : List (Nat × Nat × Nat) :=
  let base := l.copyAt copy
  let m := keysIn s.sram base 98304
  let words := (Memory.readN 0 m (base + 32768) 65536)
  let rec go : Nat → List Byte → List (Nat × Nat × Nat) → List (Nat × Nat × Nat)
    | n, b0 :: b1 :: b2 :: b3 :: l, acc =>
      let w := ofLe [b0, b1, b2, b3]
      let c := bits w 0 11
      let r := bits w 11 9
      go (n + 1) l (if r ≤ y ∧ y ≤ r + bits w 26 6 then (c, c + bits w 20 6, ofLe (Memory.readN 0 m (base + 2 * n) 2)) :: acc else acc)
    | _, _, acc => acc
  go 0 words []

/-- A layer in a row, with its front copy in the tables. -/
def State.layerRow (s : State) (t : Tables) (y : Nat) (nl : Nat × Layer) : LayerRow :=
  let l := nl.2
  let copy := s.get (Reg.CMP_LAYER_STATUS.FRONT_COPY nl.1)
  let copy := if t.flips.contains nl.1 then 1 - copy else copy
  { number := nl.1, layer := l, bytes := if l.source = 2 then s.layerBytes l copy y else []
    blocks := if l.source = 3 then s.blocksOf l copy y else [] }

/-- Address of a bisque copy (R206). -/
def bisqueAt (copy : Nat) : Nat := if copy = 0 then 0x01400000 else 0x01E00000

/-- What a frame needs for one row. -/
structure RowView where
  y : Nat
  ctxs : List CtxView
  /-- The base commanded, those that a crossfade starts from with their frozen weights, and its weight. -/
  base : List Nat
  old : List Nat
  mix : List (List Nat × Nat)
  k : Option Nat
  markLimit : Nat
  growth : Nat
  /-- The flattened run, the row of the bisque copy that holds it, if one does, and the layers above it. -/
  run : List LayerRow
  cached : Option (List Nat)
  above : List LayerRow
  stopK : Nat
  stopLevel : Nat
  /-- Limp-home bins of the row. -/
  limp : List Nat
  /-- Masked bins within 9 pixels of the row, with their masks. -/
  ssd : List (Rect × Nat)
  dimmer : Nat
deriving DecidableEq, Repr

/-- A row of the frame shown from `b`; `vs` are the contexts of its tables. -/
def State.rowView (s : State) (t : Tables) (vs : List CtxView) (b y : Nat) : RowView :=
  let fade := s.beam.baseFade.isSome
  { y := y, ctxs := vs, base := s.baseRow t.base y
    old := if fade then s.baseRow s.beam.oldBase y else []
    mix := if fade then s.beam.oldMix.map (fun x => (s.baseRow x.1 y, x.2)) else []
    k := s.beam.baseFade.map (fun f => f.k b (s.periodAt b))
    markLimit := s.get Reg.BEAM_MARK_LIMIT.LIMIT, growth := s.growth b
    run := (t.stack.takeWhile (fun z => z.2.static)).map (s.layerRow t y)
    cached := t.bisque.map (fun c =>
      let a := bisqueAt c + 4096 * y
      pairs (Memory.readN 0 (keysIn s.sram a 4096) a 4096))
    above := (t.stack.dropWhile (fun z => z.2.static)).map (s.layerRow t y)
    stopK := s.beam.stopFade.level b (s.periodAt b), stopLevel := s.get Reg.TMP_POLICY_S.STOP_LEVEL
    limp := (List.range 256).filter (fun c => Block.limpBin s.spBlock c (y / 8))
    ssd := ((if s.ssdActs b then s.beam.ssd else []).map (fun p =>
      let c : Int := p.1 % 256 * 8
      let r : Int := p.1 / 256 * 8
      (Rect.mk c (c + 7) r (r + 7), p.2))).filter (fun q => decide (q.1.rowFirst - 9 ≤ (y : Int) ∧ (y : Int) ≤ q.1.rowLast + 9))
    dimmer := s.beam.dimFade.level b (s.periodAt b) }

/-! ### The base and the marks (R161 steps 1 and 2) -/

/-- A mix at weight k: A + (Z - A) × k / 4,096 rounded to nearest (R178). -/
def mixAt (a z k : Nat) : Nat :=
  if a ≤ z then a + ((z - a) * k * 2 + 4096) / 8192 else z + ((a - z) * (4096 - k) * 2 + 4096) / 8192

/-- The base image at a pixel (R161 step 1, R164, R166). -/
def RowView.baseImage (r : RowView) (x : Nat) : Nat :=
  match r.k with
  | none => nth 0 r.base x
  | some k => mixAt (r.mix.foldl (fun v m => mixAt v (nth 0 m.1 x) m.2) (nth 0 r.old x)) (nth 0 r.base x) k

/-- Luminance of a MARK context at a pixel (R177), capped at BEAM_MARK_LIMIT. -/
def CtxView.markValue (c : CtxView) (limit x y : Nat) : Nat :=
  let q := profile 4096 0 (c.rect.distance x y) c.entry.margin c.entry.edge
  min ((c.level * q * 2 + 4096) / 8192) limit

/-- The beam image at a pixel (R161 steps 1 and 2). -/
def RowView.beamImage (r : RowView) (x : Nat) : Nat :=
  r.ctxs.foldl (fun v c => if c.entry.type = 2 then max v (c.markValue r.markLimit x r.y) else v) (r.baseImage x)

/-! ### Layers (R192 to R197, R210) -/

/-- Value and coverage of a BUFFER layer at a pixel (R194). -/
def LayerRow.bufferSource (l : LayerRow) (x : Nat) : Nat × Nat :=
  let c : Int := x - l.layer.bufX
  if l.bytes.isEmpty ∨ c < 0 ∨ (l.layer.bufW : Int) ≤ c then (0, 0)
  else
    let i := c.toNat * formatBytes l.layer.format
    let b0 := (nth 0 l.bytes i).toNat
    let b1 := (nth 0 l.bytes (i + 1)).toNat
    match l.layer.format with
    | 0 => (b0 + 256 * b1, 255)
    | 1 => (luma8p b0, 255)
    | 2 => (luma8p b0, b1)
    | _ => (l.layer.level, b0)

/-- Value and coverage of a SEGMENT layer at a pixel: the highest block that covers it (R210). -/
def LayerRow.segmentSource (l : LayerRow) (x : Nat) : Nat × Nat :=
  match l.blocks.find? (fun b => decide (b.1 ≤ x ∧ x ≤ b.2.1)) with
  | some b => (b.2.2, 255)
  | none => (0, 0)

/-- Value and coverage of a layer's source (Table 7-1). -/
def RowView.source (r : RowView) (l : LayerRow) (x : Nat) : Nat × Nat :=
  match l.layer.source with
  | 1 => (r.beamImage x, 255)
  | 2 => l.bufferSource x
  | 3 => l.segmentSource x
  | _ => (0, 0)

/-- Coverage of a symbol entry's bytes at its pixel (x, y) (R197). -/
def symbolCoverage (bs : List Byte) (mh mv : Bool) (x y : Int) : Nat :=
  let w := leAt bs 0 2
  let h := leAt bs 2 2
  if x < 0 ∨ y < 0 ∨ (w : Int) ≤ x ∨ (h : Int) ≤ y then 0
  else
    let cx := if mh then w - 1 - x.toNat else x.toNat
    let cy := if mv then h - 1 - y.toNat else y.toNat
    if leAt bs 4 1 = 0 then leAt bs (8 + cy * w + cx) 1
    else
      let b := leAt bs (8 + cy * ((w + 1) / 2) + cx / 2) 1
      17 * (if cx % 2 = 0 then b % 16 else b / 16)

/-- The SYMBOL contexts of a layer applied to (v, a), in increasing context number (R195). -/
def RowView.drawSymbols (r : RowView) (n x : Nat) (va : Nat × Nat) : Nat × Nat :=
  r.ctxs.foldl (fun va c =>
    let e := c.entry
    if e.type = 3 ∧ e.layer = n then
      let sc := symbolCoverage c.bytes e.mirrorH e.mirrorV (x - c.anchor.1) (r.y - c.anchor.2)
      ((va.1 * (255 - sc) + c.level * sc + 127) / 255, va.2 + ((255 - va.2) * sc + 127) / 255)
    else va) va

/-- The blend of R195. OP: 0 REPLACE, 1 MULTIPLY, 2 MAX, 3 ADD_CLAMP, 4 ALPHA. -/
def blend (op acc v a : Nat) : Nat :=
  match op with
  | 0 => v
  | 1 => (acc * (65535 - ((65535 - v) * a + 127) / 255) + 32767) / 65535
  | 2 => max acc ((v * a + 127) / 255)
  | 3 => min 65535 (acc + (v * a + 127) / 255)
  | _ => (acc * (255 - a) + v * a + 127) / 255

/-- One layer applied to the accumulator (R192, R195). -/
def RowView.applyLayer (r : RowView) (x : Nat) (acc : Nat) (lr : LayerRow) : Nat :=
  let l := lr.layer
  if x < l.colFirst ∨ l.colLast < x ∨ r.y < l.rowFirst ∨ l.rowLast < r.y then acc
  else
    let va := r.drawSymbols lr.number x (r.source lr x)
    if va.2 = 0 then acc else blend l.op acc va.1 va.2

/-- The accumulator after the flattened run, composited live (R206). -/
def RowView.runValue (r : RowView) (x : Nat) : Nat := r.run.foldl (r.applyLayer x) 0

/-- The composite at a pixel (R192), with the run from the bisque cache when a copy is valid (R206). -/
def RowView.composite (r : RowView) (x : Nat) : Nat :=
  r.above.foldl (r.applyLayer x) (match r.cached with
    | some l => nth 0 l x
    | none => r.runValue x)

/-! ### Stop image, dim mask, sensed-source mask, module dimmer (R161 step 4, R155, R438, R479) -/

/-- The least of the masks of all DIM_BOX contexts at a pixel, in 1/4,096 (R161, R177, R186). -/
def RowView.dimMask (r : RowView) (x : Nat) : Nat :=
  r.ctxs.foldl (fun m c =>
    if c.entry.type = 1 then min m (profile c.level 4096 (c.rect.distance x r.y) (c.entry.margin + r.growth) c.entry.edge) else m) 4096

/-- The sensed-source mask at a pixel: least over the masked bins near it, with an edge 8 pixels wide (R155). -/
def RowView.ssdMask (r : RowView) (x : Nat) : Nat :=
  r.ssd.foldl (fun m p => min m (profile (4096 - p.2) 4096 (p.1.distance x r.y) 0 8)) 4096

/-- Y × m with the rounding of R161. -/
def scale12 (y m : Nat) : Nat := (y * m + 2048) / 4096

/-- The stop image mixed in at weight k (R479): Y + round((S - Y) × k / 4,096). -/
def RowView.stopMix (r : RowView) (x v : Nat) : Nat :=
  mixAt v (if r.limp.contains (x / 8) then r.stopLevel else 0) r.stopK

/-- The composed output of a pixel of the row (R161, R438). -/
def RowView.composed (r : RowView) (x : Nat) : Nat :=
  scale12 (scale12 (scale12 (r.stopMix x (r.composite x)) (r.dimMask x)) (r.ssdMask x)) r.dimmer

/-- A row of the composed output at the clone point for the frame shown from `b` (R161, R438). In READY no light is composed
(R56). -/
def State.composedRow (s : State) (vs : List CtxView) (b y : Nat) : List Nat :=
  if !s.composes then List.replicate 2048 0
  else
    let r := s.rowView s.inForce vs b y
    (List.range 2048).map r.composed

/-- The composed output, row after row. -/
def State.composedRows (s : State) (b : Nat) : List (List Nat) :=
  let vs := s.views s.inForce b
  (List.range 512).map (s.composedRow vs b)

/-! ### Guarded boxes (R368, R369) -/

/-- A guarded box as in bytes 4 to 11 of a row packet (R373), little-endian: COL_FIRST with bit 15 VALID, COL_LAST,
ROW_FIRST, ROW_LAST; 0 for none. -/
def packBox (c0 c1 r0 r1 : Nat) : Nat := c0 + 0x8000 + c1 * 2 ^ 16 + r0 * 2 ^ 32 + r1 * 2 ^ 48

/-- The guarded box of a context for the boundary `b`: its core rectangle widened by MARGIN - 1 pixels on each side (narrowed
by one for MARGIN 0) and clipped to the array; none when empty (R369). -/
def State.guardBox (s : State) (t : Tables) (c : Ctx) (b : Nat) : Nat :=
  let r := s.ctxRect t c b
  let m : Int := (c.entry.margin : Int) - 1
  let c0 := max 0 (r.colFirst - m)
  let c1 := min 2047 (r.colLast + m)
  let r0 := max 0 (r.rowFirst - m)
  let r1 := min 511 (r.rowLast + m)
  if c0 ≤ c1 ∧ r0 ≤ r1 then packBox c0.toNat c1.toNat r0.toNat r1.toNat else 0

/-- The 128 guarded boxes that the SP computes from the contexts in force for the coming boundary `b`, box n of context n
(notes/assumptions/40.md). -/
def State.ownBoxes (s : State) (b : Nat) : List Nat :=
  let t := s.inForce
  (List.range 128).map (fun n => match t.ctxs.find n with
    | some c => if c.entry.type = 1 ∧ !c.releasing ∧ c.entry.level ≤ Block.guardLevel s.spBlock then s.guardBox t c b else 0
    | none => 0)

end Sys2Proof.Machine
end

