-- ==== Sys2Proof/Machine/BeamCommands.lean ====
section
/-! DEFINITION. The commands and timed events of 06_beam_synthesis. -/

namespace Sys2Proof.Machine

/-! ### Object entries -/

/-- The object of a 32-byte entry (Table 6-2). -/
def readObj (p : List Byte) : ObjEntry :=
  let f := leAt p 2 1
  let s16 := fun o => toSigned 16 (leAt p o 2)
  { type := leAt p 1 1, angle := bit f 0, perceptual := bit f 1, mirrorH := bit f 2, mirrorV := bit f 3
    layer := bits f 4 3, margin := leAt p 3 1, edge := leAt p 4 1, fadeMs := leAt p 6 2
    left := s16 8, right := s16 10, top := s16 12, bottom := s16 14, velH := s16 16, velV := s16 18
    obsAge := leAt p 20 2, level := leAt p 22 2, symbol := leAt p 24 2, tag := leAt p 28 4 }

/-- The 32 bytes of an object entry: its context, and the object unless TYPE is 0. -/
def readEntry (p : List Byte) : Nat × Option ObjEntry :=
  (leAt p 0 1, if leAt p 1 1 = 0 then none else some (readObj p))

/-- Parameter faults of an entry (R173): `true` when BAD_PARAM applies. -/
def State.entryBad (s : State) (p : List Byte) : Bool :=
  let ty := leAt p 1 1
  let f := leAt p 2 1
  let e := readObj p
  let box := ty = 1 ∨ ty = 2
  decide (127 < leAt p 0 1) || decide (3 < ty) || bit f 7 || decide (63 < e.margin) || decide (63 < e.edge)
    || leAt p 5 1 != 0 || decide (10000 < e.fadeMs) || leAt p 26 2 != 0
    || decide (ty = 1 ∧ 4096 < e.level)
    || decide (box ∧ (e.right < e.left ∨ (e.angle ∧ e.top < e.bottom) ∨ (!e.angle ∧ e.bottom < e.top)))
    || decide (box ∧ (e.mirrorH ∨ e.mirrorV ∨ e.layer ≠ 0))
    || decide (ty ≠ 3 ∧ e.symbol ≠ 0)
    || decide (ty = 3 ∧ (e.right ≠ 0 ∨ e.bottom ≠ 0 ∨ 4095 < e.symbol))
    || (ty == 3 && (Assoc.get none s.lib.symbols e.symbol).isNone)

/-- Size in bytes of a symbol of the library. -/
def State.symbolSize (s : State) (id : Nat) : Nat :=
  match Assoc.get none s.lib.symbols id with
  | some e => e.length
  | none => 0

/-- Symbols that the SYMBOL contexts of a table name. -/
def namedSymbols (l : Assoc Ctx) : List Nat := l.filterMap (fun p => if p.2.entry.type = 3 then some p.2.entry.symbol else none)

/-- Symbols that non-FREE SYMBOL contexts name: pinned (R199). -/
def State.pinned (s : State) : List Nat :=
  namedSymbols (s.beam.work.ctxs ++ s.beam.front.ctxs ++ (s.beam.waiting.map (·.1.ctxs)).getD [])

/-- The pinned symbols exceed 4 MiB once the entries are set (R200); a list with no SYMBOL adds none. -/
def State.pinsOver (s : State) (es : List (Nat × Option ObjEntry)) : Bool :=
  let new := es.filterMap (fun x => x.2.bind (fun e => if e.type = 3 then some e.symbol else none))
  let kept := s.beam.work.ctxs.filter (fun p => es.all (fun x => x.1 != p.1 || x.2.isNone))
  let ids := namedSymbols (kept ++ s.beam.front.ctxs ++ (s.beam.waiting.map (·.1.ctxs)).getD []) ++ new
  !new.isEmpty && decide (4194304 < (ids.eraseDups.map s.symbolSize).sum)

/-- State faults of an entry (R173, R198): `true` when BAD_STATE applies. -/
def State.entryState (s : State) (p : List Byte) : Bool :=
  let angle := (readObj p).angle && !s.flag Reg.BEAM_STATUS.MAP_VALID
  match (readEntry p).2 with
  | none => angle
  | some e =>
    angle
      || (e.type == 3 && (s.beam.work.layers.getD e.layer ⟨0, 0, 0, 0, 0, 0, 0, 0, 0, 0, 0, 0, 0, 0, false, false⟩).static)

/-- The first fault of an entry, state before parameters (R190). -/
def State.entryFault (s : State) (p : List Byte) : Option Status :=
  if s.entryState p then some Status.badState
  else if s.entryBad p then some Status.badParam
  else none

/-- An over-bright MARK sets MARK_CLAMPED (R173). -/
def State.markClamp (s : State) (e : ObjEntry) : State :=
  if e.type = 2 ∧ s.get Reg.BEAM_MARK_LIMIT.LIMIT < e.level then s.set Reg.BEAM_STATUS.MARK_CLAMPED 1 else s

/-- A resident symbol is named: it is the last to be evicted (R199). -/
def State.nameSymbol (s : State) (id : Nat) : State :=
  match s.lib.resident.find? (fun x => x.1 == id) with
  | none => s
  | some x => { s with lib := { s.lib with resident := (x.1, x.2.1, s.now) :: s.lib.resident.filter (fun y => y.1 != id) } }

/-- An accepted entry put into the working copy. -/
def State.takeEntry (s : State) (x : Nat × Option ObjEntry) : State :=
  let s := s.setCtx x.1 x.2
  match x.2 with
  | some e => if e.type = 3 then s.nameSymbol e.symbol else s.markClamp e
  | none => s

/-! ### BEAM_SELECT_PATTERN (R164 to R166, R189, Table 6-6) -/

/-- A selection queued while a crossfade runs (R166), else committed. -/
def State.placeSelection (s : State) (source pattern fadeMs : Nat) (perceptual : Bool) : State :=
  if s.flag Reg.BEAM_STATUS.XFADE then
    let s := s.editionUp
    (s.setBeam { s.beam with queued := some ⟨source, pattern, fadeMs, perceptual, s.beam.editions⟩ }).setAll
      [(Reg.BEAM_STATUS.QUEUED, 1), (Reg.BEAM_PATTERN.QUEUED_ID, pattern)]
  else (s.selectBase source pattern fadeMs perceptual).commit

/-- The light that went dark with the fallback comes back (R188, R254): the dimmer is at full again. -/
def State.undark (s : State) : State :=
  let s := if s.link.dark then s.setDimmer 4096 0 else s
  s.setLink { s.link with dark := false, fell := false }

/-- A selection made: queued while a crossfade runs (R166), else committed. -/
def State.makeSelection (s : State) (source pattern fadeMs : Nat) (perceptual : Bool) : State :=
  s.undark.placeSelection source pattern fadeMs perceptual

/-- The first selection accepted after the fallback returns WATCH to FRESH (R189). -/
def State.selectionAccepted (s : State) : State := if 2 ≤ s.get Reg.BEAM_STATUS.WATCH then s.watchFresh else s

def runSelectPattern (r : Req) (s : State) : Answer :=
  let p := r.params
  let pat := leAt p 0 2
  let src := leAt p 2 1
  let f := leAt p 3 1
  let fade := leAt p 4 2
  let bad := decide (2 < src) || decide (3 < f) || decide (10000 < fade) || leAt p 6 2 != 0
    || (src == 0 && (decide (255 < pat) || (Assoc.get none s.lib.patterns pat).isNone && (s.bufferOf pat).isNone))
    || (bit f 0 && src != 0)
  if 2 ≤ s.get Reg.BEAM_STATUS.WATCH ∧ !s.beam.listSince then refuse s Status.badState
  else if s.flag Reg.BEAM_STATUS.LOADING ∨ (bit f 0 ∧ s.flag Reg.BEAM_STATUS.XFADE) then refuse s Status.busy
  else if bad then refuse s Status.badParam
  else if src ≠ 0 ∨ (s.bufferOf pat).isSome then
    if bit f 0 then accept s else accept (s.selectionAccepted.makeSelection src pat fade (bit f 1))
  else
    let sel := if bit f 0 then none else some ⟨src, pat, fade, bit f 1, s.edition⟩
    let s := if bit f 0 then s else s.selectionAccepted
    pend ((s.beginLoad pat sel false).set Reg.BEAM_PATTERN.NEXT pat)

def opSelectPattern : Op := ⟨0x0200, exactly 8, runSelectPattern⟩
def execBeamSelectPattern (r : Req) (s : State) : Host.Outcome State Fault Refusal := .next (s.command opSelectPattern r)

/-! ### BEAM_OBJECT_SET, BEAM_OBJECT_CLEAR (Table 6-7) -/

def runObjectSet (r : Req) (s : State) : Answer :=
  let f := leAt r.params 0 1
  let e := r.params.drop 4
  if s.entryState e || s.pinsOver [readEntry e] then refuse s Status.badState
  else if decide (1 < f) || leAt r.params 1 3 != 0 || s.entryBad e then refuse s Status.badParam
  else accept ((s.takeEntry (readEntry e)).commitIf (bit f 0))

def opObjectSet : Op := ⟨0x0201, exactly 36, runObjectSet⟩
def execBeamObjectSet (r : Req) (s : State) : Host.Outcome State Fault Refusal := .next (s.command opObjectSet r)

/-- Contexts released or freed, one after another. -/
def State.clearCtxs (s : State) (atOnce : Bool) : List Nat → State
  | [] => s
  | n :: l => State.clearCtxs (if atOnce then s.freeCtx n else s.setCtx n none) atOnce l

def runObjectClear (r : Req) (s : State) : Answer :=
  let f := leAt r.params 0 1
  let mask := leAt r.params 4 16
  if 7 < f ∨ leAt r.params 1 3 ≠ 0 then refuse s Status.badParam
  else
    let ns := (List.range 128).filter (fun n => bit f 1 || bit mask n)
    accept ((s.clearCtxs (bit f 2) ns).commitIf (bit f 0))

def opObjectClear : Op := ⟨0x0202, exactly 20, runObjectClear⟩
def execBeamObjectClear (r : Req) (s : State) : Host.Outcome State Fault Refusal := .next (s.command opObjectClear r)

/-! ### BEAM_OBJECT_LIST (R181 to R184, Table 6-8) -/

/-- The entries of a part. -/
def partEntries : Nat → List Byte → List (List Byte)
  | 0, _ => []
  | k + 1, p => p.take 32 :: partEntries k (p.drop 32)

/-- A list is discarded and counted (R181, R182). -/
def State.abandonList (s : State) : State :=
  ((s.setBeam { s.beam with list := none }).set Reg.BEAM_LIST_SEQ.PENDING 0).bump Reg.BEAM_LIST_ABANDON_COUNT.COUNT Reg.BEAM_STATUS.CNT_SAT

/-- A complete list (R181, R183, R184): its entries are set, unnamed DIM_BOX and MARK contexts are released under
REPLACE, and the commit is made. -/
def State.completeList (s : State) (a : ListAssembly) : State :=
  let es := (List.range a.parts).flatMap (fun i => (a.got.find i).getD [])
  let gone := s.beam.work.ctxs.filterMap (fun p =>
    if a.replaceAll && p.2.entry.type != 3 && !es.any (fun e => e.1 == p.1) then some p.1 else none)
  let s := es.foldl (fun s e => s.takeEntry e) (s.clearCtxs false gone)
  let s := s.setBeam { s.beam with list := none, lastList := some s.now, work := { s.beam.work with list := some s.now } }
  let s := s.setAll [(Reg.BEAM_LIST_SEQ.LAST, a.seq), (Reg.BEAM_LIST_SEQ.PENDING, 0)]
  (s.bump Reg.BEAM_LIST_COUNT.COUNT Reg.BEAM_STATUS.CNT_SAT).commit

/-- A part joins the list being assembled, or begins one. -/
def State.joinPart (s : State) (seq part parts : Nat) (rep : Bool) (es : List (Nat × Option ObjEntry)) : State :=
  let a := s.beam.list.getD ⟨seq, parts, rep, [], [], s.now⟩
  let a := { a with got := a.got.insert part es, have_ := part :: a.have_ }
  if a.have_.length = parts then s.completeList a
  else (s.setBeam { s.beam with list := some a }).set Reg.BEAM_LIST_SEQ.PENDING seq

def runObjectList (r : Req) (s : State) : Answer :=
  let p := r.params
  let seq := leAt p 0 2
  let part := leAt p 2 1
  let parts := leAt p 3 1
  let rep := bit (leAt p 5 1) 0
  let raw := partEntries (leAt p 4 1) (p.drop 8)
  let other := match s.beam.list with
    | some a => a.seq != seq || a.parts != parts || a.replaceAll != rep
    | none => false
  let s := if other then s.abandonList else s
  let es := raw.map readEntry
  let all := ((s.beam.list.map (fun a => a.got.flatMap (·.2))).getD []) ++ es
  let named := all.map (·.1)
  let again := (s.beam.list.map (fun a => a.have_.contains part)).getD false
  if again && decide (part < parts) then accept s
  else if raw.any s.entryState || s.pinsOver all then refuse s.abandonList Status.badState
  else if decide (parts = 0 ∨ 5 < parts ∨ parts ≤ part ∨ 1 < leAt p 5 1) || leAt p 6 2 != 0 || raw.any s.entryBad
      || decide (named.eraseDups.length ≠ named.length) then refuse s.abandonList Status.badParam
  else accept (s.joinPart seq part parts rep es)

/-- Length 8 + 32 × COUNT, COUNT 0 to 31 (Table 6-5). -/
def listLen (p : List Byte) : Bool := decide (8 ≤ p.length) && decide (leAt p 4 1 ≤ 31) && p.length == 8 + 32 * leAt p 4 1

def opObjectList : Op := ⟨0x0203, listLen, runObjectList⟩
def execBeamObjectList (r : Req) (s : State) : Host.Outcome State Fault Refusal := .next (s.command opObjectList r)

/-- OBJECT_LIST_TIMEOUT (R182): the list is discarded between 20 ms and 21 ms after its first part. -/
def execObjectListTimeout (s : State) : Host.Outcome State Fault Refusal :=
  match s.beam.list with
  | none => .next s
  | some a => .next (s.until (a.firstAt + ms 20 + s.free % (ms 1 + 1))).drawn.abandonList

/-! ### BEAM_FIELD_MAP (R168 to R171, Table 6-9) -/

/-- The nodes of a part: X then Y, signed 16-bit. -/
def readNodes : Nat → List Byte → List (Int × Int)
  | 0, _ => []
  | k + 1, p => (toSigned 16 (leAt p 0 2), toSigned 16 (leAt p 2 2)) :: readNodes k (p.drop 4)

/-- The map that two staged parts give. -/
def mapOf (p0 p1 : List Byte) : FieldMap :=
  ⟨toSigned 16 (leAt p0 4 2), toSigned 16 (leAt p0 6 2), leAt p0 8 2, leAt p0 10 2,
    readNodes 165 (p0.drop 12) ++ readNodes 132 (p1.drop 12)⟩

/-- Node (i, j) (R168). -/
def FieldMap.node (m : FieldMap) (i j : Nat) : Int × Int := m.nodes.getD (33 * j + i) (0, 0)

/-- A list of integers rises strictly, or falls strictly. -/
def strictUp (l : List Int) : Bool := (l.zip l.tail).all (fun p => decide (p.1 < p.2))
def strictDown (l : List Int) : Bool := (l.zip l.tail).all (fun p => decide (p.2 < p.1))

/-- A valid field map (R170). -/
def FieldMap.valid (m : FieldMap) : Bool :=
  let rows := (List.range 9).map (fun j => (List.range 33).map (fun i => (m.node i j).1))
  let cols := (List.range 33).map (fun i => (List.range 9).map (fun j => (m.node i j).2))
  decide (1 ≤ m.dh ∧ 1 ≤ m.dv ∧ m.h0 + 32 * m.dh ≤ 32767 ∧ -32768 ≤ m.h0 + 32 * m.dh ∧ -32768 ≤ m.v0 - 8 * m.dv ∧ m.v0 - 8 * m.dv ≤ 32767)
    && (rows.all strictUp || rows.all strictDown) && (cols.all strictUp || cols.all strictDown)

def runFieldMap (r : Req) (s : State) : Answer :=
  let p := r.params
  let part := leAt p 0 1
  let f := leAt p 1 1
  if s.power ≠ 2 then refuse s Status.badState
  else if decide (1 < part ∨ 1 < f ∨ (part = 0 ∧ f ≠ 0)) || leAt p 2 2 != 0
      || decide (f = 0 ∧ (leAt p 8 2 = 0 ∨ 32767 < leAt p 8 2 ∨ leAt p 10 2 = 0 ∨ 32767 < leAt p 10 2)) then refuse s Status.badParam
  else if part = 0 then accept (s.setBeam { s.beam with part0 := some p })
  else if f = 0 then accept (s.setBeam { s.beam with part1 := some p })
  else
    let clear := s.setBeam { s.beam with part0 := none, part1 := none }
    match s.beam.part0 with
    | none => refuse clear Status.badParam
    | some q =>
      let m := mapOf q p
      if (q.drop 4).take 8 ≠ (p.drop 4).take 8 ∨ !m.valid then refuse clear Status.badParam
      else answer ((clear.setWork { clear.beam.work with map := some m }).commit) (le 4 m.check)

/-- Length 672 for part 0, 540 for part 1 (Table 6-5). -/
def mapLen (p : List Byte) : Bool := p.length == (if leAt p 0 1 = 0 then 672 else 540)

def opFieldMap : Op := ⟨0x0210, mapLen, runFieldMap⟩
def execBeamFieldMap (r : Req) (s : State) : Host.Outcome State Fault Refusal := .next (s.command opFieldMap r)

/-! ### FADE_SET (Table 6-10) -/

def runFadeSet (r : Req) (s : State) : Answer :=
  let p := r.params
  let n := leAt p 0 1
  let f := leAt p 1 1
  let level := leAt p 4 2
  match s.beam.work.ctxs.find n with
  | none => if 127 < n then refuse s Status.badParam else refuse s Status.badState
  | some c =>
    if 3 < f ∨ 10000 < leAt p 2 2 ∨ leAt p 6 2 ≠ 0 ∨ (c.entry.type = 1 ∧ 4096 < level) then refuse s Status.badParam
    else
      let s := s.editionUp
      let c := { c with entry := { c.entry with fadeMs := leAt p 2 2, perceptual := bit f 1, level := level }, edition := s.beam.editions }
      accept (((s.setWork { s.beam.work with ctxs := s.beam.work.ctxs.insert n c }).markClamp c.entry).commitIf (bit f 0))

def opFadeSet : Op := ⟨0x0303, exactly 8, runFadeSet⟩
def execFadeSet (r : Req) (s : State) : Host.Outcome State Fault Refusal := .next (s.command opFadeSet r)

/-! ### The silent host (R185 to R189) -/

/-- WATCH_T1_EXPIRY (R186): WATCH becomes GROWING. -/
def execWatchT1Expiry (s : State) : Host.Outcome State Fault Refusal :=
  if s.watching && s.get Reg.BEAM_STATUS.WATCH == 0 then
    let t1 := s.listBase + ms (s.get Reg.BEAM_WATCH.T1)
    let s := s.until t1
    let s := (s.setBeam { s.beam with t1At := some t1 }).set Reg.BEAM_STATUS.WATCH 1
    .next (s.beamEvent 4 0xFF (s.get Reg.BEAM_PATTERN.CURRENT) 0)
  else .next s

/-- The fallback's base: the stale-list pattern over BEAM_STALE.FADE, perceptual; MARK contexts are released (R187). -/
def State.fallBack (s : State) : State :=
  let s := s.dropSelections
  let marks := s.beam.work.ctxs.filterMap (fun p => if p.2.entry.type = 2 then some p.1 else none)
  let s := (s.clearCtxs false marks).selectBase 0 (s.get Reg.BEAM_STALE.PATTERN) (s.get Reg.BEAM_STALE.FADE) true
  (s.setBeam { s.beam with fallBase := some s.beam.work.base.edition }).commitWork

/-- WATCH_T2_EXPIRY (R187): WATCH becomes FALLBACK; the stale-list pattern is loaded first if it is not resident. -/
def execWatchT2Expiry (s : State) : Host.Outcome State Fault Refusal :=
  if s.watching && s.get Reg.BEAM_STATUS.WATCH == 1 then
    let t2 := s.listBase + ms (s.get Reg.BEAM_WATCH.T2)
    let s := s.until t2
    let s := (s.setBeam { s.beam with t2At := some t2, listSince := false }).set Reg.BEAM_STATUS.WATCH 2
    let s := s.beamEvent 5 0xFF (s.get Reg.BEAM_PATTERN.CURRENT) 0
    let pat := s.get Reg.BEAM_STALE.PATTERN
    if (s.bufferOf pat).isSome then .next s.fallBack
    else .next (s.dropSelections.beginLoad pat none true)
  else .next s

/-- All programmable light fades to dark over BEAM_STALE.FADE and the SP requests the limp-home beam (R188, R254). -/
def State.goDark (s : State) : State :=
  let s := (s.setBeam { s.beam with loading := none }).set Reg.BEAM_STATUS.LOADING 0
  let s := ((s.selectBase 2 0 (s.get Reg.BEAM_STALE.FADE) true).setDimmer 0 (ms (s.get Reg.BEAM_STALE.FADE))).commitWork
  (s.setLink { s.link with dark := true }).spLimp true

/-- STALE_LOAD_TIMEOUT (R188, R254): the stale-list pattern is not resident within 20 ms of T2, or of the link's fallback. -/
def execStaleLoadTimeout (s : State) : Host.Outcome State Fault Refusal :=
  if (s.bufferOf (s.get Reg.BEAM_STALE.PATTERN)).isSome then .next s
  else
    match s.beam.t2At, s.link.fallAt with
    | some t2, none =>
      if s.get Reg.BEAM_STATUS.WATCH = 2 then
        let s := (s.until (t2 + ms 20)).goDark
        let s := s.setBeam { s.beam with t2At := none }
        .next ((s.set Reg.BEAM_STATUS.WATCH 3).beamEvent 6 0xFF (s.get Reg.BEAM_PATTERN.CURRENT) 0)
      else .next s
    | _, some t =>
      let s := (s.until (t + ms 20)).goDark
      .next ((s.setLink { s.link with fallAt := none }).linkEvent 9)
    | _, _ => .next s

/-! ### Loading, crossfades and fades -/

/-- The microcode block of a pattern entry is signed with the vendor key (R215): SHA-256 of the image, 64-byte signature. -/
def microGood (key entry : List Byte) : Bool :=
  let n := leAt entry 0 4
  let block := (entry.drop 64).take n
  decide (128 ≤ n ∧ n ≤ 65536) && Config.ecdsaGood key (Config.sha256 (block.take (n - 64))) (block.drop (n - 64))

/-- Whether a pattern entry passes its checks (R214, R215). -/
def State.patternGood (s : State) (e : LibEntry) : Bool := s.entryGood 1 e && microGood s.id.updKeyHash (s.entryBytes 1 e)

/-- A loaded pattern stands in its base buffer, its microcode block beside it (Tables 1-7 and 7-3). -/
def State.fillBuffer (s : State) (n pat : Nat) (entry : List Byte) : State :=
  let micro := leAt entry 0 4
  let sram := Memory.writeN 0 s.sram (n * 0x200000) ((entry.drop (64 + micro)).take 2097152)
  let sram := Memory.writeN 0 sram (0x01DD0000 + n * 0x10000) ((entry.drop 64).take micro)
  ({ s with sram := sram }).setBeam { s.beam with buffers := s.beam.buffers.insert n (some pat) }

/-- The base crossfades to the stale-list pattern after an input loss (R254). -/
def State.linkFallSelect (s : State) : State :=
  let s := s.setLink { s.link with fallAt := none }
  s.placeSelection 0 (s.get Reg.BEAM_STALE.PATTERN) (s.get Reg.BEAM_STALE.FADE) true

/-- The stale-list pattern is loaded once a load that kept it waiting has ended (R163). -/
def State.staleRetry (s : State) : State := if s.get Reg.BEAM_STATUS.SOURCE = 1 then s else s.staleLoad

/-- A load has ended well: READY, and the selection it was made for is committed (R164, R167). -/
def State.loadDone (s : State) (l : Loading) : State :=
  let s := (s.setBeam { s.beam with loading := none }).set Reg.BEAM_STATUS.LOADING 0
  let s := if l.pattern = s.get Reg.BEAM_STALE.PATTERN then (s.setBeam { s.beam with reload := false }).set Reg.BEAM_STATUS.STALE_RESIDENT 1 else s
  let s := s.beamEvent 1 0xFF l.pattern 0
  match l.select with
  | some b => (s.makeSelection b.source b.pattern b.fadeMs b.perceptual).staleRetry
  | none =>
    if l.stale ∧ s.get Reg.BEAM_STATUS.WATCH = 2 ∧ s.beam.t2At.isSome ∧ s.beam.fallBase.isNone then s.fallBack
    else if l.stale ∧ s.link.fallAt.isSome then s.linkFallSelect
    else s.staleRetry

/-- A load has failed (R167): the previous base stays; CHECK_FAILED (2) or READ_ERROR (3). -/
def State.loadFailed (s : State) (l : Loading) (reason : Nat) : State :=
  let s := ((s.setBeam { s.beam with loading := none }).set Reg.BEAM_STATUS.LOADING 0).beamEvent reason 0xFF l.pattern 0
  if l.pattern = s.get Reg.BEAM_STALE.PATTERN then s.setBeam { s.beam with reload := false } else s.staleRetry

/-- PATTERN_LOAD_COMPLETE (R164, R167). `readable`: the entry could be read. A load waits for a free buffer (notes/assumptions/76.md). -/
def execPatternLoadComplete (readable : Bool) (s : State) : Host.Outcome State Fault Refusal :=
  match s.beam.loading with
  | none => .next s
  | some l =>
    match Assoc.get none s.lib.patterns l.pattern with
    | none => .next (s.loadFailed l 3)
    | some e =>
      if !readable then .next (s.loadFailed l 3)
      else if s.patternGood e then
        match s.bufferFor l.pattern with
        | none => .next s
        | some n => .next ((s.fillBuffer n l.pattern (s.entryBytes 1 e)).loadDone l)
      else .next ((s.entryFailed 1 l.pattern e).loadFailed l 2)

/-- CROSSFADE_COMPLETE (R166, R187): a queued selection starts; after the fallback its DIM_BOX contexts are freed. -/
def execCrossfadeComplete (s : State) : Host.Outcome State Fault Refusal :=
  match s.beam.baseFade with
  | none => .next s
  | some f =>
    let s := s.until (s.fadeDone f)
    let s := (s.setBeam { s.beam with baseFade := none, oldBase := s.beam.front.base, oldMix := [] }).setAll
      [(Reg.BEAM_STATUS.XFADE, 0), (Reg.BEAM_PATTERN.XFADE_K, 255)]
    let s := s.settleLink.fallComplete
    match s.beam.queued with
    | none => .next s
    | some q =>
      let s := (s.setBeam { s.beam with queued := none }).setAll [(Reg.BEAM_STATUS.QUEUED, 0), (Reg.BEAM_PATTERN.QUEUED_ID, 0)]
      .next ((s.selectBase q.source q.pattern q.fadeMs q.perceptual).commit)

/-- FADE_COMPLETE (R178, R179): a releasing context whose fade has ended becomes FREE. -/
def execFadeComplete (ctx : Nat) (s : State) : Host.Outcome State Fault Refusal :=
  match s.beam.front.ctxs.find ctx, s.beam.fades.find ctx with
  | some c, some f =>
    let s := s.until (s.fadeDone f)
    if c.releasing then .next (s.setBeam (s.beam.drop ctx))
    else .next (s.setBeam { s.beam with fades := s.beam.fades.insert ctx (Fade.still f.z f.b0) })
  | _, _ => .next s

end Sys2Proof.Machine
end

