-- ==== Sys2Proof/Machine/LayerCommands.lean ====
section
/-! DEFINITION. The commands and timed events of 07_layers_and_libraries: layers, bisque builds, libraries, stores. -/

namespace Sys2Proof.Machine

def State.setLib (s : State) (l : Library) : State := { s with lib := l }

/-- A layer at reset (R196): L0 carries the beam image, L1 to L7 nothing. -/
def layerDefault (n : Nat) : Layer := Tables.resetLayer n

/-- A layer of a copy of the descriptors. -/
def Tables.layer (t : Tables) (n : Nat) : Layer := t.layers.getD n (layerDefault n)

/-! ### Staging (R207, R208) -/

/-- A LAYER_CONFIG implies a flip when it changes SOURCE, FORMAT, BUF_OFFSET, BUF_W or BUF_H (R203). -/
def Layer.moves (a b : Layer) : Bool :=
  a.source != b.source || a.format != b.format || a.bufOffset != b.bufOffset || a.bufW != b.bufW || a.bufH != b.bufH

/-- One layer replaced in a copy of the descriptors, with the flip it implies. -/
def Tables.configure (t : Tables) (n : Nat) (d : Layer) : Tables :=
  let old := t.layer n
  let flips := if old.moves d && (d.source == 2 || d.source == 3) then (n :: t.flips).eraseDups else t.flips
  { t with layers := setNth t.layers n { d with enabled := old.enabled, static := old.static }, flips := flips }

/-- Enables and flips set in a copy (R222). -/
def Tables.enable (t : Tables) (mask flips : Nat) : Tables :=
  { t with
    layers := t.layers.mapIdx (fun i l => { l with enabled := bit mask i })
    flips := ((List.range 8).filter (bit flips) ++ t.flips).eraseDups }

/-- The static set of a copy (R224). -/
def Tables.flatten (t : Tables) (mask : Nat) : Tables :=
  { t with layers := t.layers.mapIdx (fun i l => { l with static := bit mask i }) }

/-- A staged command applied to a copy. -/
def Tables.stage (t : Tables) : Staged → Tables
  | .config n d => t.configure n d
  | .enable m f => t.enable m f
  | .flatten m => t.flatten m

/-- The working copy with everything staged applied. -/
def State.staged (s : State) : Tables := (s.beam.stage ++ s.beam.queuedStage).foldl Tables.stage s.beam.work

/-- Layers that a staged command names. -/
def Staged.names : Staged → List Nat
  | .config n _ => [n]
  | .enable _ f => (List.range 8).filter (bit f)
  | .flatten m => (List.range 8).filter (bit m)

/-- Every set of tables that names descriptors in use (R201): in force, waiting to land, set, staged. -/
def State.everyTables (s : State) : List Tables := [s.beam.front, s.beam.work, s.staged] ++ (s.beam.waiting.map (·.1)).toList

/-- CMP_LAYERn_STATUS.STAGED follows the stages. -/
def State.showStaged (s : State) : State :=
  let l := (s.beam.stage ++ s.beam.queuedStage).flatMap Staged.names
  (List.range 8).foldl (fun s n => s.set (Reg.CMP_LAYER_STATUS.STAGED n) (b2n (l.contains n))) s

/-- A command is staged: a build starts, or it joins the queued stage while one runs (R207, R208). -/
def State.stageCommand (s : State) (x : Staged) (event : Bool) : State :=
  match s.beam.buildAt with
  | none =>
    ((s.setBeam { s.beam with stage := [x], buildAt := some s.now, buildEvent := event }).set Reg.CMP_STATUS.BUILD 1).showStaged
  | some _ =>
    ((s.setBeam { s.beam with queuedStage := s.beam.queuedStage ++ [x], queuedEvent := s.beam.queuedEvent || event }).set
      Reg.CMP_STATUS.QUEUED 1).showStaged

/-- Whether a new copy changes the membership or the content of the flattened run (R207). -/
def changesRun (old new : Tables) (touched : List Nat) : Bool :=
  old.run != new.run || touched.any (fun n => old.run.contains n || new.run.contains n)

/-- A flip becomes pending at acceptance (R203). -/
def State.flipPending (s : State) (l : List Nat) : State := l.foldl (fun s n => s.set (Reg.CMP_LAYER_STATUS.FLIP_PENDING n) 1) s

/-- The default block table (R210). -/
def defaultBlocks : List Byte :=
  (List.range 16384).flatMap (fun n => le 4 (16 * (n % 128) + 2048 * (4 * (n / 128)) + 2 ^ 20 * 15 + 2 ^ 26 * 3))

/-- A copy of a layer's content cleared (R203, R204): zero, and the default block table of a SEGMENT layer. -/
def State.clearCopy (s : State) (d : Layer) (copy : Nat) : State :=
  let a := d.copyAt copy
  let m := Memory.fill 0 s.sram a d.copySize 0
  { s with sram := if d.source = 3 then Memory.writeN 0 m (a + 32768) defaultBlocks else m }

/-- The back copy of a layer's new place cleared (R203). -/
def State.clearBack (s : State) (n : Nat) (d : Layer) : State := s.clearCopy d (1 - s.get (Reg.CMP_LAYER_STATUS.FRONT_COPY n))

/-! ### LAYER_CONFIG (R221, Table 7-9) -/

def readLayer (p : List Byte) : Layer :=
  { source := leAt p 2 1, format := leAt p 3 1, op := leAt p 4 1, priority := leAt p 5 1
    colFirst := leAt p 8 2, colLast := leAt p 10 2, rowFirst := leAt p 12 2, rowLast := leAt p 14 2
    bufOffset := leAt p 16 2, bufX := toSigned 16 (leAt p 18 2), bufY := toSigned 16 (leAt p 20 2)
    bufW := leAt p 22 2, bufH := leAt p 24 2, level := leAt p 26 2, enabled := false, static := false }

/-- The place of both copies of a layer in the buffer area: first and last address + 1 (R201). -/
def Layer.place (l : Layer) : Option (Nat × Nat) :=
  if l.source = 2 ∨ l.source = 3 then some (l.copyAt 0, l.copyAt 0 + 2 * l.copySize) else none

/-- Two places overlap. -/
def overlaps (a b : Nat × Nat) : Bool := decide (a.1 < b.2 ∧ b.1 < a.2)

/-- Every descriptor that names a place of another layer (R201). -/
def State.otherPlaces (s : State) (n : Nat) : List (Nat × Nat) :=
  s.everyTables.flatMap (fun t => (t.layers.mapIdx (fun i l => (i, l))).filterMap (fun x => if x.1 = n then none else x.2.place))

/-- Buffer copies outside the area or overlapping (R201). -/
def State.placeBad (s : State) (n : Nat) (d : Layer) : Bool :=
  match d.place with
  | none => false
  | some a => decide (0x01400000 < a.2) || (s.otherPlaces n).any (overlaps a)

/-- Parameter faults of LAYER_CONFIG (R221). -/
def State.layerBad (s : State) (p : List Byte) : Bool :=
  let n := leAt p 0 1
  let d := readLayer p
  let t := s.staged
  decide (7 < n ∨ 1 < leAt p 1 1 ∨ 3 < d.source ∨ 3 < d.format ∨ 4 < d.op ∨ 7 < d.priority ∨ leAt p 6 2 ≠ 0)
    || decide (2047 < d.colFirst ∨ 2047 < d.colLast ∨ 511 < d.rowFirst ∨ 511 < d.rowLast ∨ d.colLast < d.colFirst ∨ d.rowLast < d.rowFirst)
    || decide (d.source ≠ 2 ∧ (d.format ≠ 0 ∨ d.bufX ≠ 0 ∨ d.bufY ≠ 0 ∨ d.bufW ≠ 0 ∨ d.bufH ≠ 0))
    || decide (d.source ≠ 2 ∧ d.source ≠ 3 ∧ d.bufOffset ≠ 0) || decide (1023 < d.bufOffset)
    || decide (¬(d.source = 2 ∧ d.format = 3) ∧ d.level ≠ 0)
    || decide (d.source = 2 ∧ (d.bufW = 0 ∨ 2048 < d.bufW ∨ d.bufH = 0 ∨ 512 < d.bufH ∨ d.bufX < -2047 ∨ 2047 < d.bufX ∨ d.bufY < -511 ∨ 511 < d.bufY))
    || (d.source == 3 && (t.layers.mapIdx (fun i l => decide (i ≠ n) && l.source == 3)).any (fun b => b))
    || ((t.layer n).static && d.source != 2)
    || s.placeBad n d

def runLayerConfig (r : Req) (s : State) : Answer :=
  let p := r.params
  let n := leAt p 0 1
  let d := readLayer p
  if n = 7 ∧ s.flag Reg.HST_CTRL.DALI_EN then refuse s Status.badState
  else if n < 8 ∧ s.flag (Reg.CMP_LAYER_STATUS.FLIP_PENDING n) then refuse s Status.busy
  else if s.layerBad p then refuse s Status.badParam
  else
    let old := s.beam.work
    let new := old.configure n d
    let moved := (old.layer n).moves d && (d.source == 2 || d.source == 3)
    let s := if moved then (s.clearBack n d).flipPending [n] else s
    if changesRun old new [n] then pend (s.stageCommand (.config n d) false)
    else accept ((s.setWork new).commitIf (bit (leAt p 1 1) 0))

def opLayerConfig : Op := ⟨0x0300, exactly 28, runLayerConfig⟩
def execLayerConfig (r : Req) (s : State) : Host.Outcome State Fault Refusal := .next (s.command opLayerConfig r)

/-! ### LAYER_ENABLE (R222, Table 7-10) -/

def runLayerEnable (r : Req) (s : State) : Answer :=
  let p := r.params
  let flip := leAt p 1 1
  let fs := (List.range 8).filter (bit flip)
  if s.flag Reg.HST_CTRL.DALI_EN ∧ (bit flip 7 ∨ bit (leAt p 0 1) 7 ≠ (s.staged.layer 7).enabled) then refuse s Status.badState
  else if fs.any (fun n => s.flag (Reg.CMP_LAYER_STATUS.FLIP_PENDING n)) then refuse s Status.busy
  else if decide (1 < leAt p 2 1 ∨ leAt p 3 1 ≠ 0) || fs.any (fun n => (s.staged.layer n).source != 2 && (s.staged.layer n).source != 3) then
    refuse s Status.badParam
  else
    let new := s.beam.work.enable (leAt p 0 1) flip
    let s' := s.flipPending fs
    if changesRun s.beam.work new fs then pend (s'.stageCommand (.enable (leAt p 0 1) flip) false)
    else accept ((s'.setWork new).commitIf (bit (leAt p 2 1) 0))

def opLayerEnable : Op := ⟨0x0301, exactly 4, runLayerEnable⟩
def execLayerEnable (r : Req) (s : State) : Host.Outcome State Fault Refusal := .next (s.command opLayerEnable r)

/-! ### SYMBOL_PLACE (R223, Table 7-11) -/

/-- The entry of Table 6-2 that a SYMBOL_PLACE stands for. -/
def placeEntry (p : List Byte) : List Byte :=
  let f := leAt p 1 1
  [byte (leAt p 0 1), byte 3, byte (2 * b2n (bit f 1) + 4 * b2n (bit f 2) + 8 * b2n (bit f 3) + 16 * (leAt p 2 1 % 8)), byte 0, byte 0, byte 0]
    ++ le 2 (leAt p 12 2) ++ le 2 (leAt p 6 2) ++ le 2 0 ++ le 2 (leAt p 8 2) ++ le 2 0 ++ le 2 (leAt p 14 2) ++ le 2 (leAt p 16 2)
    ++ le 2 0 ++ le 2 (leAt p 10 2) ++ le 2 (leAt p 4 2) ++ le 2 0 ++ le 4 (leAt p 20 4)

def runSymbolPlace (r : Req) (s : State) : Answer :=
  let p := r.params
  let e := placeEntry p
  if s.entryState e || s.pinsOver [readEntry e] then refuse s Status.badState
  else if decide (15 < leAt p 1 1 ∨ 7 < leAt p 2 1 ∨ leAt p 3 1 ≠ 0 ∨ leAt p 18 2 ≠ 0) || s.entryBad e then refuse s Status.badParam
  else accept ((s.takeEntry (readEntry e)).commitIf (bit (leAt p 1 1) 0))

def opSymbolPlace : Op := ⟨0x0302, exactly 24, runSymbolPlace⟩
def execSymbolPlace (r : Req) (s : State) : Host.Outcome State Fault Refusal := .next (s.command opSymbolPlace r)

/-! ### BISQUE_FLATTEN (R224) and builds (R207 to R209) -/

def runFlatten (r : Req) (s : State) : Answer :=
  let p := r.params
  let mask := leAt p 0 1
  let t := s.staged
  let ls := (List.range 8).filter (bit mask)
  if s.flag Reg.HST_CTRL.DALI_EN ∧ bit mask 7 then refuse s Status.badState
  else if ls.any (fun n => t.ctxs.any (fun c => c.2.entry.type == 3 && c.2.entry.layer == n)) then refuse s Status.badState
  else if decide (1 < leAt p 1 1 ∨ leAt p 2 2 ≠ 0) || ls.any (fun n => (t.layer n).source != 2) then refuse s Status.badParam
  else if t.flatten mask = t ∧ !bit (leAt p 1 1) 0 then accept s
  else pend (s.stageCommand (.flatten mask) true)

def opFlatten : Op := ⟨0x0310, exactly 4, runFlatten⟩
def execBisqueFlatten (r : Req) (s : State) : Host.Outcome State Fault Refusal := .next (s.command opFlatten r)

/-- The bisque copy a build writes: the one that is not front (R207). -/
def State.buildCopy (s : State) : Nat := 1 - s.get Reg.CMP_STATUS.FRONT

/-- The values of the flattened run of a copy, as bytes in pixel order (R206). -/
def State.runBytes (s : State) (t : Tables) : List Byte :=
  let vs := s.views t s.nextBoundary
  (List.range 512).flatMap (fun y =>
    let r := s.rowView t vs s.nextBoundary y
    (List.range 2048).flatMap (fun x => le 2 (r.runValue x)))

/-- BISQUE_BUILD_COMPLETE (R207, R208, R224): within 4 light-frame periods the CP commits the staged changes with the new
copy; a build for a queued stage follows. -/
def execBisqueBuildComplete (s : State) : Host.Outcome State Fault Refusal :=
  match s.beam.buildAt with
  | none => .next s
  | some t0 =>
    let s := (s.until (t0 + s.free % (4 * s.period + 1))).drawn
    let new := s.beam.stage.foldl Tables.stage s.beam.work
    let copy := if new.run.isEmpty then none else some s.buildCopy
    let s := match copy with
      | some c => { s with sram := Memory.writeN 0 s.sram (bisqueAt c) (s.runBytes new) }
      | none => s
    let event := s.beam.buildEvent
    let corrected := s.beam.stage.isEmpty
    let s := (s.setBeam { s.beam with work := { new with bisque := copy }, stage := [], buildAt := none, buildEvent := s.beam.queuedEvent, queuedEvent := false }).commitWork
    let s := (s.set Reg.CMP_STATUS.BUILD 2).bump Reg.CMP_BUILD_COUNT.COUNT Reg.CMP_STATUS.CNT_SAT
    let s := if event then s.layerEvent 1 (maskOf new.run) (copy.getD 0) else s
    let s := if corrected then s.fault Src.bisqueLive (copy.getD 0) 2 4 else s
    match s.beam.queuedStage with
    | [] => .next s.showStaged
    | q =>
      let s := s.setBeam { s.beam with stage := q, queuedStage := [], buildAt := some s.now }
      .next ((s.setAll [(Reg.CMP_STATUS.BUILD, 1), (Reg.CMP_STATUS.QUEUED, 0)]).showStaged)

/-- A legacy update written into the back copy of L1 and committed with its flip (R211). -/
def State.legacyCommit (s : State) (levels : NMap) : State :=
  let l := s.beam.work.layer 1
  let a := l.copyAt (1 - s.get (Reg.CMP_LAYER_STATUS.FRONT_COPY 1))
  let put := fun (m : Memory) (p : Nat × Nat) => Memory.writeN 0 m (a + 2 * p.1) (le 2 p.2)
  let s := { s with sram := levels.foldl put s.sram }
  let s := s.flipPending [1]
  (s.setWork { s.beam.work with flips := (1 :: s.beam.work.flips).eraseDups }).commit

/-- FLIP_COPY_COMPLETE (R203, R211): within 2 ms of the landing boundary the new front copy stands in the back copy too. -/
def execFlipCopyComplete (layer : Nat) (s : State) : Host.Outcome State Fault Refusal :=
  match s.beam.flipLanded.find layer with
  | none => .next s
  | some b =>
    let s := (s.until (b + s.free % (ms 2 + 1))).drawn
    let l := s.beam.front.layer layer
    let front := s.get (Reg.CMP_LAYER_STATUS.FRONT_COPY layer)
    let sram := Memory.writeN 0 s.sram (l.copyAt (1 - front)) (Memory.readN 0 s.sram (l.copyAt front) l.copySize)
    let s := ({ s with sram := sram }).setBeam { s.beam with flipLanded := s.beam.flipLanded.erase layer }
    let s := s.set (Reg.CMP_LAYER_STATUS.FLIP_PENDING layer) 0
    match s.lib.legacyWaiting with
    | some u => if layer = 1 then .next ((s.setLib { s.lib with legacyWaiting := none }).legacyCommit u) else .next s
    | none => .next s

/-! ### Symbols (R199) -/

/-- Unpinned symbols evicted, least recently named first, until the cache of 4 MiB holds `need` more bytes. -/
def State.evict (s : State) (need : Nat) : Nat → State
  | 0 => s
  | k + 1 =>
    if (s.lib.resident.map (fun x => x.2.1)).sum + need ≤ 4194304 then s
    else
      match (s.lib.resident.reverse.find? (fun (x : Nat × Nat × Nat) => !s.pinned.contains x.1)) with
      | none => s
      | some v =>
        State.evict ((s.setLib { s.lib with resident := s.lib.resident.filter (fun (x : Nat × Nat × Nat) => x.1 != v.1) }).bump
          Reg.CMP_SYM_EVICT_COUNT.COUNT Reg.CMP_STATUS.CNT_SAT) need k

/-- The symbol awaited first is dealt with, for every context that waits for it when it is resident, for the first context alone when it
failed; the commit is made once none is left (R199). -/
def State.symbolDone (s : State) (ok : Bool) : State :=
  match s.beam.symbolWait with
  | [] => s
  | x :: l =>
    let left := if ok then l.filter (fun y => y.2 != x.2) else l
    let s := s.setBeam { s.beam with symbolWait := left }
    if left.isEmpty then s.commitWork else s

/-- SYMBOL_LOAD_COMPLETE (R199): at most 10 ms after the command; on a failure the commit is made without the symbol. -/
def execSymbolLoadComplete (readable : Bool) (s : State) : Host.Outcome State Fault Refusal :=
  match s.beam.symbolWait with
  | [] => .next s
  | (ctx, id) :: _ =>
    let s := (s.until (s.beam.symbolSince + s.free % (ms 10 + 1))).drawn
    let tag := ((s.beam.work.ctxs.find ctx).map (fun c => c.entry.tag)).getD 0
    let failed := fun (s : State) (reason : Nat) => (s.beamEvent reason ctx (s.get Reg.BEAM_PATTERN.CURRENT) tag).symbolDone false
    match Assoc.get none s.lib.symbols id with
    | none => .next (failed s 3)
    | some e =>
      if !readable then .next (failed s 3)
      else if s.entryGood 2 e then
        let s := s.evict e.length 4096
        .next ((s.setLib { s.lib with resident := (id, e.length, s.now) :: s.lib.resident.filter (fun x => x.1 != id) }).symbolDone true)
      else .next (failed (s.entryFailed 2 id e) 2)

/-! ### Installing (R217, R218, R225) -/

/-- Entries of a kind. -/
def State.entries (s : State) (kind : Nat) : Assoc (Option LibEntry) :=
  match kind with
  | 1 => s.lib.patterns
  | 2 => s.lib.symbols
  | 3 => s.lib.archive
  | 4 => s.lib.backups
  | 6 => s.lib.exports
  | _ => []

/-- Whether `n` bytes at offset `o` meet no valid entry of the kind. -/
def State.spaceFree (s : State) (kind o n : Nat) : Bool :=
  (s.entries kind).all (fun p => match p.2 with
    | some e => !overlaps (e.offset, (e.offset + e.length + 4095) / 4096 * 4096) (o, (o + n + 4095) / 4096 * 4096)
    | none => true)

/-- The free place an entry takes: the lowest sector run that meets no valid entry (notes/assumptions/15.md). -/
def State.findSpace (s : State) (kind n : Nat) : Option Nat :=
  let ram := s.inRam kind
  let first := if ram then 0 else (s.container kind).data
  let size := if ram then 4194304 else (s.container kind).size
  let near := if ram then s.entries 1 ++ s.entries 2 else s.entries kind
  let ends := near.filterMap (fun p => p.2.map (fun e => (e.offset + e.length + 4095) / 4096 * 4096))
  let free := fun o => if ram then s.spaceFree 1 o n && s.spaceFree 2 o n else s.spaceFree kind o n
  ((first :: ends).filter (fun o => decide (first ≤ o ∧ o + n ≤ size) && free o)).min?

/-- The installation running with a KIND and ID. -/
def State.installing (s : State) (p : List Byte) : Option Install :=
  match s.lib.install with
  | some i => if i.kind = leAt p 1 1 ∧ i.id = leAt p 2 2 then some i else none
  | none => none

/-- KIND and ID in range (Table 7-13). -/
def libIdBad (p : List Byte) : Bool :=
  let k := leAt p 1 1
  decide (k = 0 ∨ 2 < k ∨ (k = 1 ∧ 255 < leAt p 2 2) ∨ (k = 2 ∧ 4095 < leAt p 2 2))

/-- Whether an entry is in use so that R218 refuses: a pattern that is resident, but for the RAM store (R219), a symbol named by a context. -/
def State.entryInUse (s : State) (kind id : Nat) : Bool :=
  if kind = 1 then !s.ramStore && (s.bufferOf id).isSome else s.pinned.contains id

/-- The installation ends; its sectors are free again. -/
def State.endInstall (s : State) : State := (s.setLib { s.lib with install := none }).set Reg.CMP_LIB_STATUS.INSTALL 0

def installBegin (p : List Byte) (s : State) : Answer :=
  let kind := leAt p 1 1
  let id := leAt p 2 2
  let n := leAt p 4 4
  if kind = 2 ∧ s.entryInUse 2 id then refuse s Status.badState
  else if s.lib.install.isSome then refuse s Status.busy
  else if libIdBad p ∨ n = 0 then refuse s Status.badParam
  else
    match s.findSpace kind n with
    | none => refuse s (if s.ramStore then Status.busy else Status.badParam)
    | some o =>
      accept ((s.setLib { s.lib with install := some ⟨kind, id, n, leAt p 8 4, 0, 0, 0, o, s.now⟩ }).set Reg.CMP_LIB_STATUS.INSTALL 1)

def installData (p : List Byte) (s : State) : Answer :=
  match s.installing p with
  | none => refuse s Status.badState
  | some i =>
    let off := leAt p 4 4
    let crc := leAt p 8 4
    let bs := p.drop 12
    if off = i.lastOffset ∧ crc = i.lastCrc ∧ i.received ≠ 0 ∧ off ≠ i.received ∧ crc32cFold off bs = crc then accept s
    else if off ≠ i.received ∨ i.length < off + bs.length ∨ crc32cFold off bs ≠ crc then refuse s Status.badParam
    else
      let s := s.storePut i.kind (i.base + off) bs
      accept (s.setLib { s.lib with install := some { i with received := off + bs.length, lastOffset := off, lastCrc := crc, lastAt := s.now } })

/-- The bytes installed so far. -/
def State.installBytes (s : State) (i : Install) : List Byte := s.storeBytes i.kind i.base i.length

/-- The length an entry's own header gives (R215, R197). -/
def entryLength (kind : Nat) (bs : List Byte) : Nat :=
  if kind = 1 then 64 + leAt bs 0 4 + 2097152
  else
    let w := leAt bs 0 2
    8 + leAt bs 2 2 * (if leAt bs 4 1 = 0 then w else (w + 1) / 2)

/-- The checks made at END (R217). -/
def State.installGood (s : State) (i : Install) : Bool :=
  let bs := s.installBytes i
  i.received == i.length && i.length == entryLength i.kind bs && crc32cFold 0 bs == i.crc
    && (i.kind != 1 || microGood s.id.updKeyHash bs)

/-- A valid row of an index (Table 7-7). -/
def indexRow (id : Nat) (e : LibEntry) : List Byte :=
  le 2 id ++ [byte 1, byte 0] ++ le 4 e.version ++ le 4 e.offset ++ le 4 e.length ++ le 4 e.check ++ le 12 0

/-- Where an index copy of a container stands in the flash memory, and its bytes up to its CHECK. -/
def Container.indexAt (c : Container) (copy : Nat) : Nat := c.base + (if copy = 0 then c.indexA else c.indexB)
def State.indexBytes (s : State) (c : Container) (copy : Nat) : List Byte :=
  Memory.readN 0xFF s.flash (c.indexAt copy) (32 * c.entryMax + 16)

/-- The rows of the index copy in force; free rows where no copy was ever written. -/
def State.indexRows (s : State) (c : Container) : List (List Byte) :=
  if c.seq = 0 then List.replicate c.entryMax (List.replicate 32 (byte 0xFF)) else partEntries c.entryMax (s.indexBytes c c.copy)

/-- Rows with any valid entry of an ID marked deleted, and a new entry in a free row, else in a deleted one (R217, Table 7-7). -/
def markRows (rows : List (List Byte)) (id : Nat) (e : Option LibEntry) : List (List Byte) :=
  let rows := rows.map (fun r => if leAt r 0 2 = id ∧ leAt r 2 1 = 1 then r.take 2 ++ byte 0 :: r.drop 3 else r)
  match e with
  | none => rows
  | some e =>
    let row := fun (st : Nat) => rows.findIdx? (fun r => leAt r 2 1 == st)
    match row 0xFF, row 0 with
    | some i, _ => rows.set i (indexRow id e)
    | none, some i => rows.set i (indexRow id e)
    | none, none => rows

/-- The index copy that is not in force written with the next SEQ, from which it is in force (R213, R217). -/
def State.writeIndex (s : State) (kind id : Nat) (e : Option LibEntry) : State :=
  if s.ramStore then s
  else
    let c := s.container kind
    let new := { c with copy := 1 - c.copy, seq := (c.seq + 1) % 2 ^ 32 }
    let b := (markRows (s.indexRows c) id e).flatten ++ le 4 new.seq ++ le 8 0
    let addr := new.indexAt new.copy
    let flash := Memory.store 0xFF s.flash addr (b ++ le 4 (crc32cFold (s.deviceAddr addr) b))
    ({ s with flash := flash }).setLib { s.lib with containers := s.lib.containers.insert kind new }

/-- The entry of a kind and number replaced in the index, and CMP_LIB_STATUS counted. -/
def State.setEntry (s : State) (kind id : Nat) (e : Option LibEntry) : State :=
  let l := s.lib
  let s := s.setLib (match kind with
    | 1 => { l with patterns := Assoc.set none l.patterns id e }
    | 2 => { l with symbols := Assoc.set none l.symbols id e }
    | 3 => { l with archive := Assoc.set none l.archive id e }
    | 4 => { l with backups := Assoc.set none l.backups id e }
    | _ => { l with exports := Assoc.set none l.exports id e })
  let s := s.setAll [(Reg.CMP_LIB_STATUS.PATTERNS, s.lib.patterns.length), (Reg.CMP_LIB_STATUS.SYMBOLS, s.lib.symbols.length)]
  s.writeIndex kind id e

/-- A completed entry enters the index (R217, R218): an unpinned cached symbol is dropped, the stale-list pattern is reloaded. -/
def State.finishInstall (s : State) (i : Install) : State :=
  let e : LibEntry := ⟨((s.entries i.kind).find i.id |>.join.map (·.version)).getD 0, i.base, i.length,
    crc32cFold (s.storeFold i.kind i.base) (s.installBytes i)⟩
  let s := (s.setEntry i.kind i.id (some e)).endInstall
  let s := s.setLib { s.lib with raised := s.lib.raised.filter (fun k => k != i.kind * 65536 + i.id) }
  if i.kind = 2 then s.setLib { s.lib with resident := s.lib.resident.filter (fun x => x.1 != i.id) }
  else if i.id = s.get Reg.BEAM_STALE.PATTERN ∧ s.get Reg.BEAM_STATUS.WATCH < 2 then (s.setBeam { s.beam with reload := true }).staleRetry
  else s

/-- END (R217, R225). DESIGN CHOICE (notes/assumptions/77.md): a symbol that a context has named since BEGIN is refused as at BEGIN, and the
installation goes on. -/
def installEnd (p : List Byte) (s : State) : Answer :=
  match s.installing p with
  | none => refuse s Status.badState
  | some i =>
    if i.kind = 2 ∧ s.entryInUse 2 i.id then refuse s Status.badState
    else if s.installGood i then accept (s.finishInstall i) else refuse s.endInstall Status.imageInvalid

def installDelete (p : List Byte) (s : State) : Answer :=
  let kind := leAt p 1 1
  let id := leAt p 2 2
  if !libIdBad p ∧ s.entryInUse kind id then refuse s Status.badState
  else if libIdBad p then refuse s Status.badParam
  else accept (s.setEntry kind id none)

def installAbort (p : List Byte) (s : State) : Answer :=
  match s.installing p with
  | none => refuse s Status.badState
  | some _ => accept s.endInstall

def runInstall (r : Req) (s : State) : Answer :=
  match leAt r.params 0 1 with
  | 0 => installBegin r.params s
  | 1 => installData r.params s
  | 2 => installEnd r.params s
  | 3 => installDelete r.params s
  | 4 => installAbort r.params s
  | _ => refuse s Status.badParam

/-- Lengths of LIBRARY_INSTALL (Table 7-8); an OP above 4 has none and is left to the parameter check. -/
def installLen (p : List Byte) : Bool :=
  match leAt p 0 1 with
  | 0 => p.length == 12
  | 1 => decide (13 ≤ p.length ∧ p.length ≤ 1012)
  | 2 => p.length == 4
  | 3 => p.length == 4
  | 4 => p.length == 4
  | _ => true

def opInstall : Op := ⟨0x0B02, installLen, runInstall⟩

/-- A request of LIBRARY_INSTALL with its OP byte in front (Table 7-13). -/
def withOp (op : Nat) (r : Req) : Req := { r with params := byte op :: r.params }

def execLibraryInstallBegin (r : Req) (s : State) : Host.Outcome State Fault Refusal := .next (s.command opInstall (withOp 0 r))
def execLibraryInstallData (r : Req) (s : State) : Host.Outcome State Fault Refusal := .next (s.command opInstall (withOp 1 r))
def execLibraryInstallEnd (r : Req) (s : State) : Host.Outcome State Fault Refusal := .next (s.command opInstall (withOp 2 r))
def execLibraryInstallDelete (r : Req) (s : State) : Host.Outcome State Fault Refusal := .next (s.command opInstall (withOp 3 r))
def execLibraryInstallAbort (r : Req) (s : State) : Host.Outcome State Fault Refusal := .next (s.command opInstall (withOp 4 r))

/-- INSTALL_TIMEOUT (R217): no DATA or END for 10 s. -/
def execInstallTimeout (s : State) : Host.Outcome State Fault Refusal :=
  match s.lib.install with
  | none => .next s
  | some i => .next (s.until (i.lastAt + ms 10000)).endInstall

/-! ### Stores (R226) -/

/-- The container a store command names lies in the directory, and its range inside the container. -/
def State.storeRange (s : State) (kind off n : Nat) : Bool :=
  decide (1 ≤ kind ∧ kind ≤ 6 ∧ off + n ≤ (s.container kind).size)

def runStoreRead (r : Req) (s : State) : Answer :=
  let p := r.params
  let kind := leAt p 0 1
  let off := leAt p 4 4
  let n := leAt p 8 4
  if s.ramStore then refuse s Status.badState
  else if leAt p 1 3 ≠ 0 ∨ n = 0 ∨ 1000 < n ∨ !s.storeRange kind off n then refuse s Status.badParam
  else answer s (s.storeBytes kind off n)

def opStoreRead : Op := ⟨0x0B00, exactly 12, runStoreRead⟩
def execStoreRead (r : Req) (s : State) : Host.Outcome State Fault Refusal := .next (s.command opStoreRead r)

def runStoreWrite (r : Req) (s : State) : Answer :=
  let p := r.params
  let kind := leAt p 0 1
  let off := leAt p 4 4
  let bs := p.drop 12
  if s.ramStore then refuse s Status.badState
  else if leAt p 1 3 ≠ 0 ∨ kind < 3 ∨ !s.storeRange kind off bs.length ∨ crc32cFold off bs ≠ leAt p 8 4 then refuse s Status.badParam
  else
    let a := s.storePlace kind off
    let flash := if off % 4096 = 0 then Assoc.clearRange s.flash a (a + 4096) else s.flash
    accept { s with flash := Memory.writeN 0xFF flash a bs }

/-- 12 + n bytes, n from 1 to 1,000 (Table 7-8). -/
def storeLen (p : List Byte) : Bool := decide (13 ≤ p.length ∧ p.length ≤ 1012)

def opStoreWrite : Op := ⟨0x0B01, storeLen, runStoreWrite⟩
def execStoreWrite (r : Req) (s : State) : Host.Outcome State Fault Refusal := .next (s.command opStoreWrite r)

/-! ### Writes into the layer buffer area (R202) -/

/-- The layer whose back copy holds every address of a list, in its front descriptors or in the working copy. -/
def State.backOwner (s : State) (as : List Nat) : Option Nat :=
  (List.range 8).find? (fun n =>
    let l := s.staged.layer n
    let a := l.copyAt (1 - s.get (Reg.CMP_LAYER_STATUS.FRONT_COPY n))
    (l.source == 2 || l.source == 3) && as.all (fun x => decide (a ≤ x ∧ x + 4 ≤ a + l.copySize)))

/-- The status of a write whose words lie at `as`, some of them in the area (R202). -/
def State.layerWriteStatus (s : State) (as : List Nat) : Status :=
  match s.backOwner as with
  | none => Status.badState
  | some n => if s.flag (Reg.CMP_LAYER_STATUS.FLIP_PENDING n) then Status.busy else Status.ok

end Sys2Proof.Machine
end

