-- ==== Sys2Proof/Machine/Link.lean ====
section
/-! DEFINITION. The Shavy pixel link: lock, back-channel, training, frames, loss and resumption (08_pixel_link). -/

namespace Sys2Proof.Machine

/-! ### Requests on the back-channel (R241, R242) -/

/-- The message of a request or reply: TYPE, LEN, payload and CRC-16 (R241; preamble and sync byte apart). -/
def bcMessage (type : Nat) (payload : List Byte) : List Byte :=
  let b := byte type :: byte payload.length :: payload
  b ++ le 2 (crc16 b)

/-- TYPE and payload of a message whose CRC and LEN are good. -/
def readMessage (m : List Byte) : Option (Nat × List Byte) :=
  let n := leAt m 1 1
  if m.length = n + 4 ∧ n ≤ 32 ∧ crc16 (m.take (n + 2)) = leAt m (n + 2) 2 then some (leAt m 0 1, (m.drop 2).take n) else none

/-- A request begins an exchange. -/
def State.bcSend (s : State) (type : Nat) (payload : List Byte) : State :=
  s.setLink { s.link with
    request := type, payload := payload, requestAt := s.now, missing := 0, bcOut := bcMessage type payload }

/-- The capability record that the light engine sends (R242, R323, R344). Vendor and product codes are not given. -/
def State.capsRecord (s : State) : List Byte :=
  [byte 7, byte (if s.follower then 3 else 7), byte (if s.follower then 1 else 7), byte s.link.widths, byte 0, byte 0]
    ++ le 2 (s.get Reg.CAS_FWD.MAX_RATE) ++ le 4 (Config.free 0) ++ le 4 (Config.free 1)

/-- GEN_CHANGE asks for a generation and a lane count. -/
def State.genChange (s : State) (gen lanes : Nat) : State :=
  (s.setLink { s.link with wantGen := gen, wantLanes := lanes }).bcSend 4 [byte gen, byte lanes]

/-! ### Ceilings (R244, R245) -/

/-- The highest generation in a GENS mask. -/
def topGen (gens : Nat) : Nat := if bit gens 2 then 3 else if bit gens 1 then 2 else 1

/-- The generation ceiling of R244. -/
def State.genCeiling (s : State) : Nat :=
  min (topGen (s.get Reg.LNK_PARTNER.GENS)) (min (s.get Reg.LNK_POLICY.MAX_GEN) (s.get Reg.LNK_CABLE.GEN_LIMIT))

/-- Lanes 0 to L - 1 are not mapped out. -/
def State.lanesIn (s : State) (l : Nat) : Bool := s.get Reg.LNK_STATUS.MAPPED_OUT % 2 ^ l == 0

/-- The lane count of R244: the largest of 4, 2 and 1; 0 when lane 0 is mapped out. -/
def State.laneCount (s : State) : Nat :=
  let ok := fun (l i : Nat) => bit (s.get Reg.LNK_PARTNER.LANES) i && decide (l ≤ s.get Reg.LNK_POLICY.MAX_LANES)
    && s.lanesIn l && (!s.follower || decide (l ≤ 2))
  if ok 4 2 then 4 else if ok 2 1 then 2 else if s.lanesIn 1 then 1 else 0

/-- The mask of the lanes in use. -/
def State.usedMask (s : State) : Nat := 2 ^ s.get Reg.LNK_STATUS.LANES - 1

/-- Every used lane is locked. -/
def State.allLocked (s : State) : Bool := (s.get Reg.LNK_STATUS.LOCK &&& s.usedMask) == s.usedMask

/-! ### Loss, fallback, entries -/

/-- R35: the forwarded clock was the reference and has stopped. -/
def State.forwardStop (s : State) : State :=
  if s.flag Reg.LNK_STATUS.REF_FWD then (s.set Reg.LNK_STATUS.REF_FWD 0).fault Src.pllFallback 0 15 7 else s

/-- The fallback of R254 once the hold timer has expired. -/
def State.linkFallback (s : State) : State :=
  let s := ((s.set Reg.LNK_STATUS.INPUT 4).setLink { s.link with holdAt := none }).linkEvent 3
  if s.get Reg.BEAM_STATUS.SOURCE = 1 ∨ s.follower then
    let s := s.setLink { s.link with fell := true, fallAt := some s.now }
    if (s.bufferOf (s.get Reg.BEAM_STALE.PATTERN)).isSome then s.linkFallSelect
    else s.beginLoad (s.get Reg.BEAM_STALE.PATTERN) none true
  else s

/-- Input loss (R253), once per episode. -/
def State.inputLoss (s : State) : State :=
  if s.losable then
    let s := if s.follower then s.lossCore.cascadeEvent 8 s.position 0 else s.lossCore
    let s := if s.get Reg.BEAM_STATUS.SOURCE = 1 then s.fault Src.linkInputLoss Reg.LNK_STATUS.STATE.addr 6 4 else s
    if s.get Reg.LNK_TIMING.HOLD_MS = 0 then s.linkFallback else s
  else s

/-- The link is DOWN and loss is declared. -/
def State.linkDown (s : State) : State := (s.linkLeave 1).inputLoss

/-- UP is entered (R239, R261). -/
def State.enterUp (s : State) : State :=
  let s := s.linkState 6
  let s := s.setLink { s.link with
    upAt := s.now, everUp := true, polledAt := s.now, good160 := 0, low64 := [], prevValid := none, returning := false }
  let s := if s.get Reg.LNK_STATUS.INPUT = 3 ∨ s.get Reg.LNK_STATUS.INPUT = 4 then s else s.set Reg.LNK_STATUS.INPUT 1
  s.linkEvent 1

/-- The step-up hold-off of R248 starts. -/
def State.holdOff (s : State) : State := s.setLink { s.link with stepAt := some s.now }

/-- The hold-off runs: a step-down or failed step in the last 10 s (R248). -/
def State.heldOff (s : State) : Bool :=
  match s.link.stepAt with
  | none => false
  | some t => decide (s.now < t + 1000000000)

/-- Training begins at a generation with a lane count: in TRAIN at bring-up, in STEP otherwise (R249, R250). A Gen3 training takes
RS_DETECT (R260). -/
def State.train (s : State) (st gen lanes : Nat) : State :=
  let s := (s.dropFrame.breakInput.linkState st).setLink { s.link with
    rsDetect := if gen = 3 then bit (s.get Reg.LNK_POLICY.FLAGS) 4 else s.link.rsDetect
    rx := none, stateAt := s.now, good96 := 0, tried := 0, bestFom := 0, bestPreset := 0 }
  s.genChange gen lanes

/-- A step or lane change (R249, R250): the generation and lanes it returns to are kept. -/
def State.startStep (s : State) (gen lanes backGen backLanes : Nat) : State :=
  (s.setLink { s.link with backGen := backGen, backLanes := backLanes, returning := false }).train 7 gen lanes

/-- A step-down by one generation (R249), counted. -/
def State.stepDown (s : State) : State :=
  let g := s.get Reg.LNK_STATUS.GEN
  let s := (s.bump Reg.LNK_STEP_DOWN_COUNT.COUNT Reg.LNK_STATUS.CNT_SAT).holdOff
  s.startStep (g - 1) s.laneCount g s.laneCount

/-- MAX_GEN below the generation in use steps down at once; MAX_LANES below the lane count changes only that (R249). Neither takes place
while the back-channel has failed (R242). -/
def State.linkLimits (s : State) : State :=
  let g := s.get Reg.LNK_STATUS.GEN
  if s.get Reg.LNK_STATUS.STATE ≠ 6 ∨ !s.flag Reg.LNK_STATUS.BC_OK then s
  else if s.get Reg.LNK_POLICY.MAX_GEN < g then s.stepDown
  else if s.get Reg.LNK_POLICY.MAX_LANES < s.get Reg.LNK_STATUS.LANES then s.startStep g s.laneCount g s.laneCount
  else s

/-- UP is entered, and the limits that hold by now act (R249). -/
def State.comeUp (s : State) : State := s.enterUp.linkLimits

/-! ### Clock lane and lane lock (R243, R251) -/

/-- LINK_CLOCK_DETECT: the clock lane has run at the Gen1 rate for 100 µs; 1 s after a failed ALIGN it is retried. -/
def execLinkClockDetect (s : State) : Host.Outcome State Fault Refusal :=
  if s.get Reg.LNK_STATUS.STATE = 1 then
    let s := match s.link.retryAt with
      | some t => s.until t
      | none => s.wait (us 100)
    .next (((s.linkState 2).setLink { s.link with retryAt := none, stateAt := s.now }).setAll
      [(Reg.LNK_STATUS.GEN, 1), (Reg.LNK_STATUS.LANES, 1), (Reg.LNK_STATUS.LOCK, 0)])
  else .next s

/-- LINK_CLOCK_LOSS: no clock-lane edge for `gap` base cycles; between 0.2 µs and 1.0 µs either outcome (R243). -/
def execLinkClockLoss (gap : Nat) (s : State) : Host.Outcome State Fault Refusal :=
  let s := s.wait gap
  if s.get Reg.LNK_STATUS.STATE ≠ 0 ∧ band 243 s.now 20 100 gap then .next s.forwardStop.linkDown else .next s

/-- The run of good commas, block headers or codewords that locks a lane (R251). -/
def locks (gen good codewords : Nat) : Bool :=
  if gen ≤ 1 then decide (4 ≤ good) else if gen = 2 then decide (128 ≤ good) else decide (8 ≤ codewords ∧ 128 ≤ good)

/-- A lane's lock bit set or cleared. -/
def State.setLock (s : State) (lane : Nat) (on : Bool) : State :=
  let v := s.get Reg.LNK_STATUS.LOCK
  let v := v - (v / 2 ^ lane % 2) * 2 ^ lane
  s.set Reg.LNK_STATUS.LOCK (if on then v + 2 ^ lane else v)

/-- LANE_LOCK: `good` consecutive commas or valid headers, `codewords` consecutive codewords with zero syndrome. The receivers
of unused lanes are off (R229). -/
def execLaneLock (lane good codewords : Nat) (s : State) : Host.Outcome State Fault Refusal :=
  let st := s.get Reg.LNK_STATUS.STATE
  if decide (2 ≤ st) && bit s.usedMask lane && locks (s.get Reg.LNK_STATUS.GEN) good codewords then
    let s := s.setLock lane true
    if st = 2 ∧ lane = 0 then .next ((s.linkState 3).bcSend 1 s.capsRecord)
    else if st = 8 ∧ s.allLocked then .next s.comeUp
    else .next s
  else .next s

/-- The errors that lose a lane's lock (R251). -/
def unlocks (gen errors uncorr : Nat) : Bool :=
  if gen ≤ 1 then decide (16 ≤ errors) else if gen = 2 then decide (24 ≤ errors) else decide (24 ≤ errors ∨ 4 ≤ uncorr)

/-- The Gen3 decoder only detects errors (R231). -/
def State.detects (s : State) : Bool := s.get Reg.LNK_STATUS.GEN == 3 && s.link.rsDetect

/-- The trouble of a part's blocks, of what its lanes report: 1 is a codeword with errors that can be corrected, which marks its blocks
invalid, as an uncorrectable one does, only where the decoder detects and does not correct (R231). -/
def State.trouble (s : State) (lane : Nat) : Nat := if lane = 1 then (if s.detects then 4 else 0) else lane

/-- LANE_LOCK_LOSS: `errors` violations or invalid headers in 256, `corrected` symbols, `uncorr` consecutive
uncorrectable codewords of a used lane: the receivers of the others are off (R229). All are counted, but that a decoder which only
detects errors corrects none (R231); a lane that loses lock in UP takes the link to REALIGN. -/
def execLaneLockLoss (lane errors corrected uncorr : Nat) (s : State) : Host.Outcome State Fault Refusal :=
  if bit s.usedMask lane then
    let sat := Reg.LNK_STATUS.CNT_SAT
    let s := s.bumpBy Reg.LNK_CODE_ERR_COUNT.COUNT sat errors
    let s := s.bumpBy Reg.LNK_RS_CORR_COUNT.COUNT sat (if s.detects then 0 else corrected)
    let s := s.bumpBy Reg.LNK_RS_UNCORR_COUNT.COUNT sat uncorr
    if unlocks (s.get Reg.LNK_STATUS.GEN) errors uncorr then
      let s := s.setLock lane false
      if s.get Reg.LNK_STATUS.STATE = 6 then .next (s.dropFrame.linkState 8) else .next s
    else .next s
  else .next s

/-- ALIGN_TIMEOUT: no comma lock within 2 ms; the link is DOWN and retries after 1 s. -/
def execAlignTimeout (s : State) : Host.Outcome State Fault Refusal :=
  if s.get Reg.LNK_STATUS.STATE = 2 then
    let s := s.until (s.link.stateAt + ms 2)
    let s := s.linkLeave 1
    .next (s.setLink { s.link with retryAt := some (s.now + ms 1000) })
  else .next s

/-- REALIGN_TIMEOUT: no lock within 5 ms; a step down, or DOWN from Gen1 with loss declared; so too where the back-channel has failed and
no step can take place (R242). -/
def execRealignTimeout (s : State) : Host.Outcome State Fault Refusal :=
  if s.get Reg.LNK_STATUS.STATE = 8 then
    let s := s.until (s.link.stateAt + ms 5)
    if 2 ≤ s.get Reg.LNK_STATUS.GEN ∧ s.flag Reg.LNK_STATUS.BC_OK then .next s.stepDown else .next s.linkDown
  else .next s

/-! ### Replies on the back-channel -/

/-- The capability record taken into LNK_PARTNER. -/
def State.takeCaps (s : State) (p : List Byte) : State :=
  (s.setLink { s.link with partner := p }).setAll
    [(Reg.LNK_PARTNER.GENS, leAt p 0 1), (Reg.LNK_PARTNER.LANES, leAt p 1 1), (Reg.LNK_PARTNER.FORMATS, leAt p 2 1),
     (Reg.LNK_PARTNER.WIDTHS, leAt p 3 1), (Reg.LNK_PARTNER.PRESETS, leAt p 4 1),
     (Reg.LNK_PARTNER.MAX_RATE, min 511 (leAt p 6 2)), (Reg.LNK_PARTNER.VALID, 1)]

/-- The cable length of R245, exactly, in 0.1 m ÷ 12,800,000,000: ℓ = (t - t0 - 2,000 ns) × v × 0.299792 / 2, of the sum of 64 round trips
t and t0 in 0.1 ns, and v in 0.01. -/
def cableScaled (sum t0 velocity : Nat) : Nat := (sum - 64 * (t0 + 20000)) * velocity * 299792

def cableUnit : Nat := 64 * 200000000

/-- Cable length shown, in 0.1 m, rounded down (DESIGN CHOICE, notes/assumptions/79.md). -/
def cableLength (sum t0 velocity : Nat) : Nat := cableScaled sum t0 velocity / cableUnit

/-- The generation a cable permits (R245). -/
def cableGen (sum t0 velocity : Nat) : Nat :=
  let l := cableScaled sum t0 velocity
  if l ≤ 80 * cableUnit then 3 else if l ≤ 150 * cableUnit then 2 else 1

/-- Lanes that CLEAR_MAP has released are lanes again from the next training on (R492). -/
def State.lanesBack (s : State) : State :=
  let back := maskOf ((s.bst.released.filter (fun m => m.1 == 3 && decide (m.2 < 4))).map (·.2))
  let s := { s with bst := { s.bst with released := s.bst.released.filter (fun m => m.1 != 3) } }
  s.set Reg.LNK_STATUS.MAPPED_OUT (s.get Reg.LNK_STATUS.MAPPED_OUT - (s.get Reg.LNK_STATUS.MAPPED_OUT &&& back))

/-- TRAIN at Gen1 with the lane count of R244; without lane 0 the link is DOWN (R247). -/
def State.trainGen1 (s : State) : State :=
  let s := s.lanesBack
  if s.laneCount = 0 then s.linkLeave 1 else s.train 5 1 s.laneCount

/-- The measurement of R245 is complete. -/
def State.measured (s : State) : State :=
  let v := s.get Reg.LNK_POLICY.VELOCITY
  (s.setAll [(Reg.LNK_CABLE.LENGTH, min 1022 (cableLength s.link.echoSum s.link.t0 v)),
    (Reg.LNK_CABLE.GEN_LIMIT, cableGen s.link.echoSum s.link.t0 v)]).trainGen1

/-- MEASURE begins: 64 echoes. -/
def State.measure (s : State) : State :=
  ((s.linkState 4).setLink { s.link with echoes := 0, echoSum := 0, stateAt := s.now }).bcSend 2 []

/-- What a good reply does to the exchange it answers. `trip` is the echo's round trip in 0.1 ns. -/
def State.bcTake (s : State) (payload : List Byte) (trip : Nat) : State :=
  match s.link.request with
  | 1 =>
    let resume := s.get Reg.LNK_STATUS.STATE == 3 || s.link.failedAt.isSome
    let s := ((s.takeCaps payload).set Reg.LNK_STATUS.BC_OK 1).setLink
      { (s.takeCaps payload).link with request := 0, missing := 0, failedAt := none }
    if resume then s.dropFrame.measure else s
  | 2 =>
    let s := s.setLink { s.link with echoes := s.link.echoes + 1, echoSum := s.link.echoSum + trip, request := 0, missing := 0 }
    if s.get Reg.LNK_STATUS.STATE ≠ 4 then s else if s.link.echoes = 64 then s.measured else s.bcSend 2 []
  | 3 =>
    let preset := leAt s.link.payload 0 1
    let mask := leAt s.link.payload 1 1
    let s := s.setLink { s.link with request := 0, missing := 0 }
    [0, 1, 2, 3].foldl (fun s n => if bit mask n then s.set (Reg.LNK_EQ.PRESET n) preset else s) s
  | 4 =>
    (s.setLink { s.link with request := 0, missing := 0, good96 := 0 }).setAll
      [(Reg.LNK_STATUS.GEN, s.link.wantGen), (Reg.LNK_STATUS.LANES, s.link.wantLanes), (Reg.LNK_STATUS.LOCK, 0)]
  | 5 => s.setLink { s.link with request := 0, missing := 0, pollSeq := leAt payload 0 2, pollFlags := leAt payload 2 1 }
  | _ => s.setLink { s.link with request := 0, missing := 0 }

/-- A missing reply: the request is repeated; the third in a row is a back-channel failure (R242). The link stays at its generation and
lane count: capability exchange, measurement, and a generation or lane change that the source has not acknowledged, end in UP. -/
def State.bcMissing (s : State) : State :=
  if s.link.request = 0 then s
  else if s.link.missing < 2 then s.setLink { s.link with missing := s.link.missing + 1, requestAt := s.now }
  else
    let changing := s.link.request == 4 && (s.get Reg.LNK_STATUS.STATE == 5 || s.get Reg.LNK_STATUS.STATE == 7)
    let s := s.setLink { s.link with request := 0, missing := 0, failedAt := some s.now }
    let s := ((s.set Reg.LNK_STATUS.BC_OK 0).bump Reg.LNK_BC_ERR_COUNT.COUNT Reg.LNK_STATUS.CNT_SAT).linkEvent 7
    if s.get Reg.LNK_STATUS.STATE = 3 ∨ s.get Reg.LNK_STATUS.STATE = 4 ∨ changing then s.enterUp else s

/-- A request that goes out now, or waits for the exchange in progress (R327). -/
def State.bcQueue (s : State) (type : Nat) (payload : List Byte) : State :=
  if s.link.request = 0 then s.bcSend type payload else s.setCasc { s.casc with relay := s.casc.relay ++ [(type, payload)] }

/-- The next segment of a packet that goes upstream (R346): UP_PACKET when no other exchange runs, in a follower. -/
def State.upNext (s : State) : State :=
  if s.link.request = 0 ∧ !s.casc.relay.isEmpty then
    let x := s.casc.relay.headD (0, [])
    (s.setCasc { s.casc with relay := s.casc.relay.tail }).bcSend x.1 x.2
  else if s.follower && s.link.request == 0 && s.flag Reg.CAS_STATUS.UP_OK then
    let start := match s.casc.upSending with
      | some x => some x
      | none => (s.ring 12).head?.map (fun (p : Packet) => (0, p.bytes))
    match start with
    | none => s
    | some (n, bs) =>
      let last := decide (bs.length ≤ 31)
      let head := (if n = 0 then 128 else 0) + (if last then 64 else 0) + n % 64
      let s := s.bcSend 0x11 (byte head :: bs.take 31)
      s.setCasc { s.casc with upSending := some (n + 1, bs.drop 31) }
  else s

/-- The packet whose last segment was answered leaves ring 12. -/
def State.upDone (s : State) : State :=
  match s.casc.upSending with
  | some (_, []) => (s.pop 12).setCasc { s.casc with upSending := none }
  | _ => s

/-- BC_REPLY (R241, R242): a message from TYPE to its CRC, and the round trip of an echo in 0.1 ns. A bad CRC or a wrong
type counts as no reply; a NAK ends the exchange. -/
def execBcReply (message : List Byte) (trip : Nat) (s : State) : Host.Outcome State Fault Refusal :=
  if s.link.request = 0 then .next s
  else
    match readMessage message with
    | none => .next s.bcMissing
    | some (type, payload) =>
      if type = 0xFF then .next (s.setLink { s.link with request := 0, missing := 0 }).upNext
      else if type = s.link.request + 0x80 then
        let up := s.link.request == 0x11
        let s := s.bcTake payload trip
        .next ((if up then s.upDone else s).set Reg.CAS_STATUS.UP_OK (b2n s.follower)).upNext
      else .next s.bcMissing

/-- BC_REPLY_TIMEOUT (R242): the reply has not begun within 20 µs. -/
def execBcReplyTimeout (s : State) : Host.Outcome State Fault Refusal :=
  if s.link.request = 0 then .next s
  else
    let s := s.until (s.link.requestAt + us 20)
    let t := s.bcMissing
    .next (if t.flag Reg.LNK_STATUS.BC_OK then t else t.set Reg.CAS_STATUS.UP_OK 0)

/-- CAPS_RETRY (R242): CAPS_REQ is repeated every 1 s after a failure. -/
def execCapsRetry (s : State) : Host.Outcome State Fault Refusal :=
  match s.link.failedAt with
  | none => .next s
  | some t =>
    let s := s.until (t + ms 1000)
    .next ((s.setLink { s.link with failedAt := some s.now }).bcSend 1 s.capsRecord)

/-- LINK_POLL (R242): POLL every 10 ms while UP. -/
def execLinkPoll (s : State) : Host.Outcome State Fault Refusal :=
  if s.get Reg.LNK_STATUS.STATE = 6 ∧ s.flag Reg.LNK_STATUS.BC_OK ∧ s.link.request = 0 then
    let s := s.until (s.link.polledAt + ms 10)
    .next ((s.setLink { s.link with polledAt := s.now }).bcSend 5 [])
  else .next s

/-! ### Training and the figure of merit (R246 to R250) -/

/-- The figure of merit of an eye whose inner height and width are given in 1/65,536 of the nominal height and of one unit
interval (R246). -/
def figure (h w : Nat) : Nat := min 255 (255 * min h w / 65536)

/-- FOM_SAMPLE acts in UP: 1,000 samples of 160 step up, 100 samples below 64 step down (R248, R249), while the back-channel works
(R242). -/
def State.fomUp (s : State) : State :=
  let g := s.get Reg.LNK_STATUS.GEN
  if !s.flag Reg.LNK_STATUS.BC_OK then s
  else if s.link.low64.any (fun n => decide (100 ≤ n)) && decide (2 ≤ g) then s.stepDown
  else if decide (1000 ≤ s.link.good160 ∧ g < s.genCeiling) && !s.heldOff
      && (bit (s.get Reg.LNK_POLICY.FLAGS) 1 || s.get Reg.BEAM_STATUS.SOURCE != 1) then
    s.startStep (g + 1) s.laneCount g (s.get Reg.LNK_STATUS.LANES)
  else s

/-- In TRAIN the presets are tried one by one, and the best is kept (R246). -/
def State.fomTrain (s : State) (least : Nat) : State :=
  let n := s.get Reg.LNK_PARTNER.PRESETS
  if s.link.request ≠ 0 ∨ !s.flag Reg.LNK_STATUS.BC_OK ∨ n < s.link.tried then s
  else
    let l := s.link
    let better := decide (l.bestFom < least ∧ 0 < l.tried)
    let s := s.setLink { l with
      bestFom := if better then least else l.bestFom, bestPreset := if better then l.tried - 1 else l.bestPreset, tried := l.tried + 1 }
    if s.link.tried ≤ n then s.bcSend 3 [byte (s.link.tried - 1), byte s.usedMask]
    else s.bcSend 3 [byte s.link.bestPreset, byte s.usedMask]

/-- A tap of the decision-feedback equaliser, -31 to +31 in two's complement, of a drawn number (R246). -/
def dfeTap (v : Nat) : Nat := (v % 63 + 33) % 64

/-- The equaliser settings that adaptation chooses: free values (R246). -/
def State.adapt (s : State) : State :=
  [0, 1, 2, 3].foldl (fun s n =>
    if bit s.usedMask n then
      let v := s.free
      (s.drawn).setAll [(Reg.LNK_EQ.CTLE n, v), (Reg.LNK_EQ.DFE1 n, dfeTap (v / 16)), (Reg.LNK_EQ.DFE2 n, dfeTap (v / 1024)),
        (Reg.LNK_EQ.DFE3 n, dfeTap (v / 65536))]
    else s) s

/-- FOM_SAMPLE: the inner eye height and width of each lane, 100 µs after the sample before. -/
def execFomSample (eyes : List (Nat × Nat)) (s : State) : Host.Outcome State Fault Refusal :=
  let st := s.get Reg.LNK_STATUS.STATE
  if st = 5 ∨ st = 6 ∨ st = 7 then
    let s := s.until (s.link.fomAt + us 100)
    let used := (List.range (s.get Reg.LNK_STATUS.LANES)).map (fun n => figure (nth (0, 0) eyes n).1 (nth (0, 0) eyes n).2)
    let least := used.foldl min 255
    let s := (used.zipIdx.foldl (fun s p => s.set (Reg.LNK_FOM.FOM p.2) p.1) s).adapt
    let l := s.link
    let s := s.setLink { l with
      fomAt := s.now
      good96 := if s.allLocked && decide (96 ≤ least) then l.good96 + 1 else 0
      good160 := if st == 6 && decide (160 ≤ least) then l.good160 + 1 else 0
      low64 := used.mapIdx (fun i f => if f < 64 then l.low64.getD i 0 + 1 else 0) }
    .next (if st = 6 then s.fomUp else s.fomTrain least)
  else .next s

/-- Every preset of the partner has been tried and the best one is kept; a failed back-channel ends the trials (R242, R246). -/
def State.presetsDone (s : State) : Bool :=
  (decide (s.get Reg.LNK_PARTNER.PRESETS < s.link.tried) && s.link.request == 0) || !s.flag Reg.LNK_STATUS.BC_OK

/-- TRAIN_COMPLETE: every used lane locked with a figure of 96 or more in 10 consecutive samples, within 20 ms. -/
def execTrainComplete (s : State) : Host.Outcome State Fault Refusal :=
  let st := s.get Reg.LNK_STATUS.STATE
  if decide (st = 5 ∨ st = 7) && s.allLocked && s.presetsDone && decide (10 ≤ s.link.good96) && decide (s.now ≤ s.link.stateAt + ms 20) then
    .next s.comeUp
  else .next s

/-- A failed step counts, starts the hold-off and returns to the generation before (R250). -/
def State.stepFailed (s : State) (gen lanes : Nat) : State :=
  let s := ((s.bump Reg.LNK_STEP_FAIL_COUNT.COUNT Reg.LNK_STATUS.CNT_SAT).holdOff).linkEvent 5
  (s.setLink { s.link with returning := true }).train 7 gen lanes

/-- Training that failed at Gen1 maps out the lanes that did not lock (R247). -/
def State.mapOutLanes (s : State) : State :=
  let out := s.usedMask - (s.get Reg.LNK_STATUS.LOCK &&& s.usedMask)
  let s := if out = 0 then s else (s.set Reg.LNK_STATUS.MAPPED_OUT (s.get Reg.LNK_STATUS.MAPPED_OUT ||| out)).linkEvent 6
  s.trainGen1

/-- TRAIN_TIMEOUT (R247, R250): training has not succeeded within its 20 ms. Where the back-channel has failed, no further training can
be asked for, and the link goes to DOWN. -/
def execTrainTimeout (s : State) : Host.Outcome State Fault Refusal :=
  match s.get Reg.LNK_STATUS.STATE with
  | 5 =>
    let s := s.until (s.link.stateAt + ms 20)
    if !s.flag Reg.LNK_STATUS.BC_OK then .next s.linkDown
    else if s.link.wantGen ≤ 1 then .next s.mapOutLanes else .next (s.stepFailed (s.link.wantGen - 1) s.laneCount)
  | 7 =>
    let s := s.until (s.link.stateAt + ms 20)
    if s.link.returning || !s.flag Reg.LNK_STATUS.BC_OK then .next s.linkDown else .next (s.stepFailed s.link.backGen s.link.backLanes)
  | _ => .next s

/-! ### Frames (R233 to R240) -/

/-- Bytes of a row's pixels (Table 8-4). -/
def rowBytes (format width : Nat) : Nat :=
  match format with | 0 => 4096 * width | 1 => 3072 * width | _ => 2048 * width

/-- Pixel `c` of a row in FORMAT, as 16-bit luminance (R234). -/
def rowPixel (format : Nat) (px : List Byte) (c : Nat) : Nat :=
  match format with
  | 0 => leAt px (2 * c) 2
  | 1 => luma12 (bits (leAt px (3 * (c / 2)) 3) (if c % 2 = 0 then 0 else 12) 12)
  | _ => luma8p (leAt px c 1)

/-- The module takes input frames wider than 2,048 columns (R237, R337): up to the number of modules in the chain. -/
def State.widest (s : State) : Nat :=
  if s.follower then 3
  else if s.get Reg.CAS_MODE.MODE = 1 ∨ s.flag Reg.CAS_MODE.CLONE then 1
  else 1 + ([1, 2, 3].filter s.admitted).length

/-- A load that leaves LINK runs: for a selection, or for a fallback (R165, R187, R254). -/
def State.loadLeaves (s : State) : Bool :=
  s.beam.loading.any (fun l => l.select.isSome || (l.stale && (s.get Reg.BEAM_STATUS.WATCH == 2 || s.link.fallAt.isSome)))

/-- Input frames are stored and taken up: SOURCE is LINK and no selection leaves it (R165, R240). -/
def State.takesInput (s : State) : Bool :=
  s.get Reg.BEAM_STATUS.SOURCE == 1 && s.beam.work.base.source == 1 && s.beam.queued.all (fun q => q.source == 1) && !s.loadLeaves
    || (s.follower && (s.get Reg.CAS_MODE.MODE == 1 || s.flag Reg.CAS_MODE.CLONE))

/-- The base buffer that receives the next frame: neither in use, nor waiting, nor the base of a crossfade. -/
def State.rxBuffer (s : State) : Nat :=
  let keep := (if s.link.ready.length < 2 then [s.beam.linkBuffer] else []) ++ s.link.ready.map (fun r => some r.buffer)
    ++ (s.beam.fadeBases.filter (fun x => x.source == 0)).map (fun x => s.bufferOf x.pattern)
  ([0, 1, 2].find? (fun n => !keep.contains (some n))).getD 2

/-- A frame fails R236: discarded whole, counted, its first cause kept (R237). -/
def State.frameError (s : State) (cause row : Nat) : State :=
  let s := s.breakInput.setLink { s.link with rx := none, prevValid := none }
  (s.setAll [(Reg.LNK_LAST_ERR.CAUSE, cause), (Reg.LNK_LAST_ERR.ROW, row)]).bump
    Reg.LNK_FRAME_ERR_COUNT.COUNT Reg.LNK_STATUS.CNT_SAT

/-- Content is carried: the link is UP, and on a cascade hop at Gen2 or Gen3 (R323). -/
def State.carries (s : State) : Bool :=
  s.get Reg.LNK_STATUS.STATE == 6 && (!s.follower || decide (2 ≤ s.get Reg.LNK_STATUS.GEN))

/-- The slice of an input frame that this module shows (R337): the master its own, a follower columns 0 to 2,047. -/
def State.slice (s : State) : Nat := if s.follower then 0 else s.get Reg.CAS_MODE.SLICE_MAP % 4

/-- The 2,048 values of a row that this module stores, as bytes (R234, R337). -/
def State.rowStore (s : State) (format width : Nat) (px : List Byte) : List Byte :=
  if s.slice < width then (List.range 2048).flatMap (fun c => le 2 (rowPixel format px (2048 * s.slice + c))) else le 4096 0

/-- Frames are forwarded as VIDEO to admitted followers (R337, Table 11-6), by the master. -/
def State.forwards (s : State) : Bool :=
  decide (s.id.role < 3) && s.get Reg.CAS_MODE.MODE != 1 && !s.flag Reg.CAS_MODE.CLONE
    && decide (2 ≤ s.get Reg.CAS_STATUS.HOP_GEN) && !(s.targets 0x0F).isEmpty

/-- The admitted followers downstream of this module. -/
def State.downstream (s : State) : List Nat :=
  if s.follower then [1, 2, 3].filter (fun k => decide (s.position < k) && s.casc.last.any (fun m => bit m.admitMap k)) else s.targets 0x0F

/-- Frames are sent on, on the CO_ pads: by the master as VIDEO, and by an admitted follower that is not the last of the chain (R329, R337,
R342); not while the port is DISABLED by self-test (Table 16-1, R504). -/
def State.sendsFrames (s : State) : Bool :=
  if s.flag Reg.BST_PORT_OUT.CO_PORT || s.laneTested then false
  else if s.follower then
    s.admittedSelf && decide (s.id.role < 3) && decide (2 ≤ s.get Reg.CAS_STATUS.HOP_GEN) && !s.downstream.isEmpty
  else s.forwards

/-- A record and its CHECK, inverted where the record is sent on for its receivers to discard (R337). -/
def hopCheck (fold : Nat) (bad : Bool) (b : List Byte) : List Byte :=
  let c := crc32cFold fold b
  b ++ le 4 (if bad then c ^^^ 0xFFFFFFFF else c)

/-- The header of a frame as sent on (R331, R337): a CLONE frame unchanged; of a VIDEO frame the slices of the modules downstream. -/
def State.hopHeader (s : State) (h : List Byte) : List Byte :=
  if s.follower ∧ leAt h 12 1 = 1 then h
  else hopCheck 0 false (h.take 2 ++ [byte 0, byte (if s.follower then leAt h 3 1 - 1 else s.downstream.length)] ++ (h.drop 4).take 8
    ++ [byte 0, byte (s.position + 1)] ++ le 14 0)

/-- The pixels of a row as sent on (R337): a follower leaves out its own columns 0 to 2,047, but not of a CLONE frame; the master sends the
slices of positions 1 onwards, a slice beyond the frame as zero. -/
def State.hopPixels (s : State) (rx : Receiving) (px : List Byte) : List Byte :=
  if s.follower then (if rx.stream = 1 then px else px.drop 4096)
  else s.downstream.flatMap (fun p =>
    let slice := s.get Reg.CAS_MODE.SLICE_MAP / 4 ^ p % 4
    if slice < rx.width then (List.range 2048).flatMap (fun c => le 2 (rowPixel rx.format px (2048 * slice + c))) else le 4096 0)

/-- The frame being received is sent on. -/
def State.sending (s : State) (rx : Receiving) : Bool := s.sendsFrames && s.casc.forwarding == some rx.seq

/-- A row sent on after its check (R337). -/
def State.hopRow (s : State) (rx : Receiving) (p : List Byte) (bad : Bool) : State :=
  if s.sending rx then
    let n := rowBytes rx.format rx.width
    let b := p.take 16 ++ s.hopPixels rx ((p.drop 16).take n)
    let fold := rx.seq * 65536 + leAt p 0 2
    let s := s.setCasc { s.casc with
      hopChecks := crc32cFold fold b :: s.casc.hopChecks, forwarding := if bad then none else s.casc.forwarding }
    s.coSend (hopCheck fold bad b ++ le 12 0)
  else s

/-- A trailer sent on, over the rows as they were sent (Table 8-5). -/
def State.hopTrailer (s : State) (seq : Nat) (bad : Bool) : State :=
  let rows := s.casc.hopChecks.reverse
  s.coSend (hopCheck 0 bad (le 2 seq ++ le 2 512 ++ le 4 (crc32cFold seq (rows.flatMap (le 4))) ++ le 20 0))

/-- Rows waiting in the forwarding queue now: one leaves every ROW_MIN (R338). -/
def State.queuedRows (s : State) : Nat :=
  let q := s.get Reg.CAS_FWD.QUEUE
  q - min q ((s.now - s.casc.queueAt) / max 1 (s.get Reg.CAS_FWD.ROW_MIN))

/-- A row joins the master's forwarding queue; a 49th row abandons the forwarded frame, whose trailer is sent with its CHECK inverted
(R338). -/
def State.forwardRow (s : State) (rx : Receiving) (p : List Byte) : State :=
  let seq := rx.seq
  if s.follower ∨ !s.sending rx then s.hopRow rx p false
  else
    let q := s.queuedRows + 1
    if 48 < q then
      let s := ((s.hopTrailer seq true).setCasc { (s.hopTrailer seq true).casc with forwarding := none, queueAt := s.now }).set Reg.CAS_FWD.QUEUE 0
      (s.bump Reg.CAS_FWD_ABORT_COUNT.COUNT Reg.CAS_FLAGS.CNT_SAT).fault Src.casFwdAbort seq 6 4
    else
      let s := s.hopRow rx p false
      (s.setCasc { s.casc with queueAt := s.now }).set Reg.CAS_FWD.QUEUE q

/-- FRAME_HEADER_RX (R233, R237): the 32 bytes after FRAME_START. `lane` is the first trouble of its blocks: 0 none,
1 codeword with errors that can be corrected, 4 uncorrectable codeword, 5 invalid block, 9 deskew. -/
def execFrameHeaderRx (h : List Byte) (lane : Nat) (s : State) : Host.Outcome State Fault Refusal :=
  if s.carries then
    let s := s.dropFrame
    let s := s.bump Reg.LNK_FRAME_RX_COUNT.COUNT Reg.LNK_STATUS.CNT_SAT
    let lane := s.trouble lane
    if lane ≠ 0 then .next (s.frameError lane 0)
    else if h.length ≠ 32 ∨ crc32cFold 0 (h.take 28) ≠ leAt h 28 4 then .next (s.frameError 1 0)
    else
      let s := s.set Reg.LNK_SEQ.RX (leAt h 0 2)
      let format := leAt h 2 1
      let width := leAt h 3 1
      if width = 0 ∨ s.widest < width then .next (s.frameError 7 0)
      else if 2 < format ∨ (s.follower ∧ format ≠ 0) then .next (s.frameError 1 0)
      else
        let buffer := if s.takesInput then some s.rxBuffer else none
        let s := match buffer with
          | some b => s.setBeam { s.beam with buffers := s.beam.buffers.erase b }
          | none => s
        let hop := fun o n => if s.follower then leAt h o n else 0
        let s := s.setCasc { s.casc with forwarding := if s.sendsFrames then some (leAt h 0 2) else none, hopChecks := [] }
        let s := if s.sendsFrames then s.coSend (s.hopHeader h) else s
        .next (s.setLink { s.link with
          rx := some ⟨leAt h 0 2, format, width, 0, [], buffer, hop 12 1, hop 13 1, hop 16 4, leAt h 4 8, []⟩ })
  else .next s

/-- ROW_PACKET_RX (R233, R236): a row packet, checked; its pixels go to the receiving buffer. -/
def execRowPacketRx (p : List Byte) (lane : Nat) (s : State) : Host.Outcome State Fault Refusal :=
  match s.link.rx with
  | none => .next s
  | some rx =>
    let lane := s.trouble lane
    let n := rowBytes rx.format rx.width
    let row := leAt p 0 2
    let inj := lane == 0 && s.armed 0x25
    let s := if inj then s.injected else s
    let bad := fun cause => (s.hopRow rx p true).frameError cause rx.next
    if lane ≠ 0 then .next (bad lane)
    else if inj ∨ p.length ≠ 32 + n ∨ crc32cFold (rx.seq * 65536 + row) (p.take (16 + n)) ≠ leAt p (16 + n) 4 then .next (bad 3)
    else if row ≠ rx.next ∨ 511 < row then .next (bad 2)
    else if leAt p 2 2 ≠ rx.seq then .next (bad 8)
    else
      let s := match rx.buffer with
        | some b => { s with sram := Memory.writeN 0 s.sram (b * 0x200000 + row * 4096) (s.rowStore rx.format rx.width ((p.drop 16).take n)) }
        | none => s
      let s := s.setLink { s.link with rx := some { rx with
        next := row + 1, checks := leAt p (16 + n) 4 :: rx.checks
        boxes := if row < 128 then leAt p 4 8 :: rx.boxes else rx.boxes } }
      .next (s.forwardRow rx p)

/-- Input returns (R255): RESUMED, and from FALLEN with AUTO_RESUME the base crossfades back unless the object-list
fallback prevails (R256). -/
def State.resume (s : State) : State :=
  let was := s.get Reg.LNK_STATUS.INPUT
  let s := if s.follower ∧ 3 ≤ was then s.cascadeEvent 9 s.position 0 else s
  let s := (s.set Reg.LNK_STATUS.INPUT 2).setLink { s.link with holdAt := none }
  if was = 3 then s.linkEvent 4
  else if was = 4 then
    let s := s.linkEvent 4
    if s.link.fell ∧ bit (s.get Reg.LNK_POLICY.FLAGS) 2 ∧ s.get Reg.BEAM_STATUS.WATCH < 2 then
      let waiting := s.link.fallAt.isSome
      let s := s.undark
      let s := s.setLink { s.link with fallAt := none }
      if waiting then (s.setBeam { s.beam with loading := none }).set Reg.BEAM_STATUS.LOADING 0
      else s.placeSelection 1 0 (s.get Reg.BEAM_STALE.FADE) true
    else s
  else s

/-- The number of the boundary from which a frame completed now is shown (R30). -/
def State.dueBoundary (s : State) : Nat :=
  let n := s.comingCount
  let b := s.nextBoundary
  let lands := if s.now + 90000 ≤ b then true else if b < s.now + 80000 then false else Config.choice 30 s.now
  (if lands then n else n + 1) % 2 ^ 32

/-- FRAME_CHECK: CRC-32C over the 512 row CHECK values, fold word SEQ (Table 8-5). -/
def frameCheck (seq : Nat) (checks : List Nat) : Nat := crc32cFold seq (checks.reverse.flatMap (le 4))

/-- A frame is accepted (R238 to R240). -/
def State.acceptFrame (s : State) (rx : Receiving) : State :=
  let sat := Reg.LNK_STATUS.CNT_SAT
  let live := s.get Reg.LNK_STATUS.INPUT == 2
  let s := if live && rx.seq != (s.get Reg.LNK_SEQ.LAST + 1) % 65536 then s.bump Reg.LNK_SEQ_GAP_COUNT.COUNT sat else s
  let s := (s.set Reg.LNK_SEQ.LAST rx.seq).bump Reg.LNK_FRAME_ACCEPT_COUNT.COUNT sat
  let s := s.setLink { s.link with lastAccept := some s.now, srcTime := rx.srcTime }
  let s := match rx.buffer with
    | none => s
    | some b =>
      let due := if rx.stream = 1 then rx.frame else s.dueBoundary
      let old := s.link.ready.filter (fun (r : Ready) => r.due == due)
      let s := s.bumpBy Reg.LNK_FRAME_DROP_COUNT.COUNT sat old.length
      s.setLink { s.link with ready := s.link.ready.filter (fun (r : Ready) => r.due != due) ++ [Ready.mk b rx.seq s.now due (frameCheck rx.seq rx.checks) rx.boxes.reverse] }
  if s.casc.takeFallen then s else s.resume

/-- The frame's forwarded copy has left the CO_ pads whole (R339). -/
def State.forwardDone (s : State) (rx : Receiving) : State :=
  if s.sending rx then
    let s := s.hopTrailer rx.seq false
    (s.setCasc { s.casc with forwarding := none, forwarded := some (rx.seq, s.now) }).bump
      Reg.CAS_FWD_COUNT.COUNT Reg.CAS_FLAGS.CNT_SAT
  else s

/-- A complete input frame ends now (R48): the period is measured again once 16 have come without a discarded frame between them. -/
def State.timeInput (s : State) : State :=
  let times := (s.now :: s.scan.inputTimes).take 16
  let video := match times[15]? with
    | some u => some (s.now - u)
    | none => s.scan.video
  s.setScan { s.scan with inputTimes := times, lastInput := some s.now, video := video }

/-- A frame that passed R236: timed for locked mode, then accepted or not (R238, R239). -/
def State.validFrame (s : State) (rx : Receiving) : State :=
  let prev := s.link.prevValid
  let s := s.setLink { s.link with rx := none, prevValid := some rx.seq }
  let s := s.timeInput
  let s := s.forwardDone rx
  match s.get Reg.LNK_STATUS.INPUT with
  | 2 => if rx.seq = s.get Reg.LNK_SEQ.LAST then s.bump Reg.LNK_DUP_COUNT.COUNT Reg.LNK_STATUS.CNT_SAT else s.acceptFrame rx
  | _ => if prev = some ((rx.seq + 65535) % 65536) then s.acceptFrame rx else s

/-- FRAME_TRAILER_RX (R236): the frame completes or is discarded. -/
def execFrameTrailerRx (p : List Byte) (lane : Nat) (s : State) : Host.Outcome State Fault Refusal :=
  match s.link.rx with
  | none => .next s
  | some rx =>
    let lane := s.trouble lane
    let bad := fun cause row => (if s.sending rx then s.hopTrailer rx.seq true else s).frameError cause row
    if lane ≠ 0 then .next (bad lane 0)
    else if p.length ≠ 32 ∨ crc32cFold 0 (p.take 28) ≠ leAt p 28 4 then .next (bad 6 0)
    else if leAt p 0 2 ≠ rx.seq then .next (bad 8 0)
    else if rx.next ≠ 512 then .next (bad 2 rx.next)
    else if leAt p 2 2 ≠ 512 ∨ leAt p 4 4 ≠ frameCheck rx.seq rx.checks then .next (bad 6 0)
    else .next (s.validFrame rx)

/-! ### Timers of R253 and R254 -/

/-- GAP_TIMEOUT (R253): UP for GAP_MS with no frame accepted; suspended in STEP (R250). -/
def execGapTimeout (s : State) : Host.Outcome State Fault Refusal :=
  if s.get Reg.LNK_STATUS.STATE = 6 ∧ s.losable ∧ !s.follower then
    let t := max s.link.upAt (s.link.lastAccept.getD 0)
    .next (s.until (t + ms (s.get Reg.LNK_TIMING.GAP_MS))).inputLoss
  else .next s

/-- HOLD_TIMEOUT (R254). -/
def execHoldTimeout (s : State) : Host.Outcome State Fault Refusal :=
  match s.link.holdAt with
  | some t => if s.get Reg.LNK_STATUS.INPUT = 3 then .next (s.until t).linkFallback else .next s
  | none => .next s

/-! ### Commands (R257 to R260) -/

/-- LNK_STATUS.HOLDOFF as read: the hold-off runs. -/
def State.linkFollow (s : State) : State := s.set Reg.LNK_STATUS.HOLDOFF (b2n s.heldOff)

/-- A register word: its fields at their places. -/
def State.word (s : State) (fs : List Field) : Nat := fs.foldl (fun v f => v + s.get f * 2 ^ f.lo) 0

def lnkStatusWord : List Field :=
  [Reg.LNK_STATUS.STATE, Reg.LNK_STATUS.GEN, Reg.LNK_STATUS.LANES, Reg.LNK_STATUS.LOCK, Reg.LNK_STATUS.INPUT,
   Reg.LNK_STATUS.BC_OK, Reg.LNK_STATUS.HOLDOFF, Reg.LNK_STATUS.REF_FWD, Reg.LNK_STATUS.MAPPED_OUT, Reg.LNK_STATUS.CNT_SAT]

def runLinkStatus (_ : Req) (s : State) : Answer :=
  let s := s.linkFollow
  answer s (le 4 (s.word lnkStatusWord) ++ le 4 (s.word [Reg.LNK_FOM.FOM 0, Reg.LNK_FOM.FOM 1, Reg.LNK_FOM.FOM 2, Reg.LNK_FOM.FOM 3])
    ++ le 2 (s.get Reg.LNK_CABLE.LENGTH) ++ (s.link.partner ++ le 16 0).take 16 ++ le 2 (s.get Reg.LNK_SEQ.LAST) ++ le 2 0
    ++ le 8 s.link.srcTime ++ le 4 (s.get Reg.LNK_FRAME_ACCEPT_COUNT.COUNT) ++ le 4 (s.get Reg.LNK_FRAME_ERR_COUNT.COUNT))

def opLinkStatus : Op := ⟨0x0400, exactly 0, runLinkStatus⟩
def execLinkStatus (r : Req) (s : State) : Host.Outcome State Fault Refusal := .next (s.command opLinkStatus r)

/-- The states in which LINK_TRAIN is refused (R259). -/
def State.trainState (s : State) (op : Nat) : Option Status :=
  let st := s.get Reg.LNK_STATUS.STATE
  if st = 0 ∨ (op ≠ 1 ∧ st ≠ 6) ∨ (op = 2 ∧ s.get Reg.LNK_STATUS.GEN ≤ 1) ∨ (op = 3 ∧ s.genCeiling ≤ s.get Reg.LNK_STATUS.GEN) then
    some Status.badState
  else if st = 5 ∨ st = 7 ∨ st = 8 then some Status.busy
  else none

/-- What LINK_TRAIN starts (R259). After a back-channel failure no step takes place (R242): the command is accepted, and only RESTART
does anything (DESIGN CHOICE, notes/assumptions/79.md). -/
def State.linkTrain (s : State) (op : Nat) : State :=
  let g := s.get Reg.LNK_STATUS.GEN
  if op ≠ 1 ∧ !s.flag Reg.LNK_STATUS.BC_OK then s
  else match op with
  | 0 => s.train 5 g s.laneCount
  | 1 => s.freshLanes.linkLeave 1
  | 2 => s.stepDown
  | _ => s.startStep (g + 1) s.laneCount g (s.get Reg.LNK_STATUS.LANES)

def runLinkTrain (r : Req) (s : State) : Answer :=
  let op := leAt r.params 0 1
  match s.trainState op with
  | some st => refuse s st
  | none => if 3 < op ∨ leAt r.params 1 3 ≠ 0 then refuse s Status.badParam else pend (s.linkTrain op)

def opLinkTrain : Op := ⟨0x0401, exactly 4, runLinkTrain⟩
def execLinkTrainRetrain (r : Req) (s : State) : Host.Outcome State Fault Refusal := .next (s.command opLinkTrain (withOp 0 r))
def execLinkTrainRestart (r : Req) (s : State) : Host.Outcome State Fault Refusal := .next (s.command opLinkTrain (withOp 1 r))
def execLinkTrainStepDown (r : Req) (s : State) : Host.Outcome State Fault Refusal := .next (s.command opLinkTrain (withOp 2 r))
def execLinkTrainStepUp (r : Req) (s : State) : Host.Outcome State Fault Refusal := .next (s.command opLinkTrain (withOp 3 r))

/-- ENABLE acts at once (R260). -/
def State.linkEnable (s : State) (on : Bool) : State :=
  if !on then
    if s.get Reg.LNK_STATUS.STATE = 0 then s
    else ((s.linkLeave 0).set Reg.LNK_STATUS.INPUT 0).setLink { (s.linkLeave 0).link with holdAt := none, everUp := false }
  else if s.get Reg.LNK_STATUS.STATE = 0 ∧ !s.flag Reg.BST_PORT_OUT.PL_PORT then s.pd4On.linkState 1 else s

/-- The policy fields of LINK_POLICY, kept in the settings record (R260). -/
def State.setLinkPolicy (s : State) (p : List Byte) : State :=
  s.setAll [(Reg.LNK_POLICY.FLAGS, leAt p 0 1 % 32), (Reg.LNK_POLICY.MAX_GEN, leAt p 1 1), (Reg.LNK_POLICY.MAX_LANES, leAt p 2 1),
    (Reg.LNK_POLICY.VELOCITY, leAt p 3 1), (Reg.LNK_TIMING.HOLD_MS, leAt p 4 2), (Reg.LNK_TIMING.GAP_MS, leAt p 6 2)]

def linkPolicyBad (p : List Byte) : Bool :=
  decide (31 < leAt p 0 1 ∨ leAt p 1 1 = 0 ∨ 3 < leAt p 1 1) || !([1, 2, 4].contains (leAt p 2 1))
    || decide (leAt p 3 1 < 50 ∨ 95 < leAt p 3 1 ∨ 2000 < leAt p 4 2 ∨ leAt p 6 2 < 10 ∨ 1000 < leAt p 6 2 ∨ leAt p 8 8 ≠ 0)

def runLinkPolicy (r : Req) (s : State) : Answer :=
  let p := r.params
  if bit (leAt p 0 1) 3 ∧ s.get Reg.LNK_STATUS.STATE ≠ 6 then refuse s Status.badState
  else if linkPolicyBad p then refuse s Status.badParam
  else
    let s := (s.setLinkPolicy p).set Reg.LNK_STATUS.REF_FWD (bits (leAt p 0 1) 3 1)
    accept ((s.linkEnable (bit (leAt p 0 1) 0)).linkLimits)

def opLinkPolicy : Op := ⟨0x0402, exactly 16, runLinkPolicy⟩
def execLinkPolicy (r : Req) (s : State) : Host.Outcome State Fault Refusal := .next (s.command opLinkPolicy r)

end Sys2Proof.Machine
end

