-- ==== Sys2Proof/Machine/Cascade.lean ====
section
/-! DEFINITION. The cascade: discovery, states, markers, TAKE records, clone frames, packets along the chain
(11_cascade). -/

namespace Sys2Proof.Machine

/-! ### The hop on the CO_ pads (R323, R344) -/

/-- The module sends on its CO_ pads (Table 11-1). -/
def State.sendsOn (s : State) : Bool := decide (s.id.role < 3)

/-- Blocks per lane of one row on a hop of two lanes that carries some slices in LUMA16 (R235). -/
def hopRowBlocks (slices : Nat) : Nat := 1 + (32 + 4096 * slices) / 16

/-- Blocks per lane of one frame on a hop (R235). -/
def hopBlocks (slices : Nat) : Nat := 6 + 512 * hopRowBlocks slices

/-- Duration of one block on a lane, in ps (Table 8-1). -/
def blockTime (gen : Nat) : Nat := if gen = 2 then 10560 else if gen = 3 then 5280 else 64000

/-- Slices that the first hop carries as VIDEO: one for each admitted follower (R337); none in the clone modes. -/
def State.hopSlices (s : State) : Nat :=
  if s.get Reg.CAS_MODE.MODE = 1 ∨ s.flag Reg.CAS_MODE.CLONE ∨ s.get Reg.CAS_STATUS.HOP_GEN < 2 then 0
  else (s.targets 0x0F).length

/-- MAX_RATE = min(240, 10 × floor(0.085 / D1)) (R344). -/
def maxRate (gen slices : Nat) : Nat :=
  if slices = 0 then 240 else min 240 (10 * (85000000000 / (hopBlocks slices * blockTime gen)))

/-- CAS_FWD.ROW_MIN: the time of one forwarded row, 10 ns units (Table 11-13). -/
def rowMin (gen slices : Nat) : Nat := if slices = 0 then 0 else hopRowBlocks slices * blockTime gen / 10000

/-- The master advertises afresh when WIDTHS or MAX_RATE change (R344), with the event RATE. -/
def State.advertise (s : State) : State :=
  if s.follower then s
  else
    let gen := s.get Reg.CAS_STATUS.HOP_GEN
    let n := s.hopSlices
    let rate := maxRate gen n
    let widths := 2 ^ (1 + n) - 1
    let oldRate := s.get Reg.CAS_FWD.MAX_RATE
    let changed := rate != oldRate || widths != s.link.widths
    let s := (s.setAll [(Reg.CAS_FWD.MAX_RATE, rate), (Reg.CAS_FWD.ROW_MIN, rowMin gen n)]).setLink { s.link with widths := widths }
    let s := if rate ≠ oldRate then s.cascadeEvent 7 0 rate else s
    if changed ∧ s.flag Reg.LNK_PARTNER.VALID then s.bcQueue 1 s.capsRecord else s

/-- BC_REQUEST_RX (R241, R323): a request of the downstream module, from TYPE to its CRC. A bad message gets no reply. -/
def execBcRequestRx (m : List Byte) (s : State) : Host.Outcome State Fault Refusal :=
  if !s.sendsOn then .next s
  else
    match readMessage m with
    | none => .next s
    | some (type, p) =>
      let reply := fun (s : State) (t : Nat) (b : List Byte) => s.setCasc { s.casc with coBcOut := bcMessage t b }
      match type with
      | 1 =>
        let r := [byte 7, byte 3, byte 1, byte 7, byte (s.free % 16 + 1), byte 0] ++ le 2 240 ++ le 4 (Config.free 0) ++ le 4 (Config.free 1)
        .next (reply s.drawn 0x81 r)
      | 2 => .next (reply s 0x82 [])
      | 3 => .next (reply (s.setCasc { s.casc with coPreset := leAt p 0 1 }) 0x83 [])
      | 4 =>
        let s := (s.setCasc { s.casc with coLanes := leAt p 1 1 }).set Reg.CAS_STATUS.HOP_GEN (leAt p 0 1)
        .next (reply s.advertise 0x84 [])
      | 5 =>
        let seq := (s.casc.forwarded.map (·.1)).getD 0
        .next (reply s 0x85 (le 2 seq ++ [byte 0]))
      | _ => .next (reply s 0xFF [])

/-! ### Discovery (R327 to R329) -/

/-- The HELLO payload of a follower (Table 11-2). -/
def State.helloPayload (s : State) : List Byte :=
  [byte s.position, byte s.id.variant.code] ++ le 2 0x0100 ++ le 8 s.id.serial ++ le 4 s.tag ++ le 4 (s.get (Reg.UPD_RUN_VER.VERSION 0))

/-- HELLO_SEND (R327): when the input hop enters UP, then every 1 s until admitted. -/
def execHelloSend (s : State) : Host.Outcome State Fault Refusal :=
  if s.follower && s.get Reg.LNK_STATUS.STATE == 6 && !s.admittedSelf then
    let s := match s.casc.helloAt with
      | none => s
      | some t => s.until (if t < s.link.upAt then s.link.upAt else t + ms 1000)
    .next ((s.setCasc { s.casc with helloAt := some s.now }).bcQueue 0x10 s.helloPayload)
  else .next s

/-- The reply to a cascade request: empty, TYPE plus 0x80 (R327). -/
def State.bcAck (s : State) (type : Nat) : State := s.setCasc { s.casc with coBcOut := bcMessage (type + 0x80) [] }

/-- The member a HELLO describes. -/
def helloMember (p : List Byte) (now : Nat) : Member := ⟨leAt p 4 8, leAt p 12 4, leAt p 16 4, now, 0, 0, 0, []⟩

/-- The conditions of R328. -/
def State.admits (s : State) (p : List Byte) : Bool :=
  let pos := leAt p 0 1
  let n := (s.targets 0x0F).length
  pos == n + 1 && decide (pos ≤ 3) && leAt p 1 1 == s.id.variant.code && leAt p 2 2 == 0x0100
    && (s.targets 0x0F).all (fun k => ((s.member k).map (fun m => m.serial != leAt p 4 8)).getD true)

/-- HELLO_RX (R327, R328): the master admits or refuses; a follower relays, unless it is not admitted (R329). -/
def execHelloRx (m : List Byte) (s : State) : Host.Outcome State Fault Refusal :=
  match readMessage m with
  | some (0x10, p) =>
    if p.length ≠ 20 ∨ !s.sendsOn then .next s
    else
      let pos := leAt p 0 1
      let s := s.bcAck 0x10
      if s.follower then .next (if !s.admittedSelf then s else (s.setMember pos (helloMember p s.now)).bcQueue 0x10 p)
      else if s.admits p then
        let s := (s.setMember pos (helloMember p s.now)).set (Reg.CAS_MEMBER.P pos) 1
        .next (((s.cascadeEvent 1 pos 0).advertise).safeFollow).faultFollow
      else .next (s.cascadeEvent 2 pos 0)
  | _ => .next s

/-! ### STATE entries (R327, R348 to R350) -/

/-- The module's own STATE entry (Table 11-2). -/
def State.ownEntry (s : State) : List Byte :=
  let flags := b2n s.lockedOut + 2 * b2n (!s.flt.uncleared.isEmpty) + 4 * s.get Reg.STR_STATUS.LIMP_ENGAGED
    + 8 * s.get Reg.SAF_STATUS.SAFE_STATE + 16 * b2n (s.get Reg.CAS_STATUS.ALIGN == 2)
    + 32 * b2n (s.get Reg.LNK_STATUS.INPUT == 4) + 64 * b2n (!s.ringRoom 4)
  [byte s.position, byte flags, byte (s.get Reg.LNK_STATUS.INPUT), byte (min 255 s.flt.uncleared.length)]

/-- The STATE payload: the own entry and the latest entry of each follower downstream. -/
def State.statePayload (s : State) : List Byte :=
  s.ownEntry ++ s.casc.members.flatMap (fun (k : Nat × Member) => [byte k.1, byte k.2.flags, byte k.2.input, byte k.2.faults])

/-- STATE_SEND (R327): every 2 ms, and within 0.5 ms of any change. -/
def execStateSend (s : State) : Host.Outcome State Fault Refusal :=
  if s.follower && s.get Reg.LNK_STATUS.STATE == 6 then
    let due := if s.statePayload = s.casc.sentState then s.casc.stateAt + ms 2 else s.now
    let s := s.until due
    .next ((s.setCasc { s.casc with sentState := s.statePayload, stateAt := s.now }).bcQueue 0x12 s.statePayload)
  else .next s

/-- The packets that waited for a follower are sent once its ring 4 has room (R347). -/
def State.drainMember (s : State) (pos : Nat) : State :=
  match s.member pos with
  | none => s
  | some m =>
    if bit m.flags 6 then s
    else (m.queue.foldl (fun s p => s.coSend (cmdBlock s.nextTag p.bytes)) s).setMember pos { m with queue := [] }

/-- CAS_MEMBER of a follower from its FLAGS, its admitted bit kept. -/
def memberBits (admitted flags : Nat) : Nat :=
  admitted + 2 * bits flags 0 1 + 4 * bits flags 1 1 + 8 * bits flags 2 1 + 32 * bits flags 5 1

/-- One STATE entry recorded. -/
def State.takeEntryOf (s : State) (e : List Byte) : State :=
  let pos := leAt e 0 1
  match s.member pos with
  | none => s
  | some m =>
    let s := s.setMember pos { m with flags := leAt e 1 1, input := leAt e 2 1, faults := leAt e 3 1, stateAt := s.now }
    if s.follower then s
    else
      let old := s.get (Reg.CAS_MEMBER.P pos)
      let s := s.set (Reg.CAS_MEMBER.P pos) (memberBits (old % 2) (leAt e 1 1))
      let s := if bit (leAt e 1 1) 0 && !bit old 1 && bit old 0 then s.cascadeEvent 4 pos 0 else s
      s.drainMember pos

/-- The entries of a STATE payload. -/
def stateEntries (p : List Byte) : List (List Byte) := (List.range (p.length / 4)).map (fun i => (p.drop (4 * i)).take 4)

/-- STATE_RX (R327, R348, R350): recorded by the master, relayed by a follower with its own next STATE, unless it is not admitted (R329). -/
def execStateRx (m : List Byte) (s : State) : Host.Outcome State Fault Refusal :=
  match readMessage m with
  | some (0x12, p) =>
    if !s.sendsOn ∨ p.length % 4 ≠ 0 ∨ p.length = 0 ∨ 12 < p.length then .next s
    else
      let s := (s.bcAck 0x12)
      if s.follower && !s.admittedSelf then .next s
      else .next ((((stateEntries p).foldl State.takeEntryOf s).safeFollow).faultFollow)
  | _ => .next s

/-- Admission of a follower and of all downstream is withdrawn (R349). -/
def State.withdraw (s : State) (pos : Nat) : State :=
  [1, 2, 3].foldl (fun s k =>
    if pos ≤ k then
      let v := s.get (Reg.CAS_MEMBER.P k)
      s.set (Reg.CAS_MEMBER.P k) (v - v % 2)
    else s) s

/-- FOLLOWER_STATUS_TIMEOUT (R349): between 20 ms and 25 ms without a valid STATE entry. -/
def execFollowerStatusTimeout (pos : Nat) (s : State) : Host.Outcome State Fault Refusal :=
  if s.follower then .next s
  else
    match s.member pos with
    | none => .next s
    | some m =>
      if bit (s.get (Reg.CAS_MEMBER.P pos)) 4 then .next s
      else
        let s := (s.until (m.stateAt + ms 20 + 1 + s.free % ms 5)).drawn
        let s := (s.withdraw pos).set (Reg.CAS_MEMBER.P pos) ((s.withdraw pos).get (Reg.CAS_MEMBER.P pos) + 16)
        let s := (s.cascadeEvent 3 pos 0).fault Src.casMemberLost pos 2 7
        .next ((s.advertise.safeFollow).faultFollow)

/-! ### Markers (R332 to R336) -/

/-- The mode in force. -/
def State.cascMode (s : State) : CascMode :=
  ⟨s.get Reg.CAS_MODE.MODE, s.flag Reg.CAS_MODE.CLONE, s.get Reg.CAS_MODE.SLICE_MAP,
    [s.get Reg.CAS_SHARE01.SHARE_0, s.get Reg.CAS_SHARE01.SHARE_1, s.get Reg.CAS_SHARE23.SHARE_2, s.get Reg.CAS_SHARE23.SHARE_3]⟩

/-- The bytes of a MARK record (Table 11-4). -/
def markBytes (m : Mark) (delay : Nat) : List Byte :=
  let b := le 4 m.frame ++ le 4 delay ++ [byte m.tick, byte (m.mode.mode + 128 * b2n m.mode.clone)] ++ le 2 m.stretch
    ++ [byte m.admitMap, byte m.power, byte m.mode.sliceMap, byte m.epoch] ++ m.mode.shares.flatMap (le 2) ++ le 4 0
  b ++ le 4 (crc32cFold 0 b)

/-- The ADMIT byte of the master's markers. -/
def State.admitByte (s : State) : Nat := maskOf (s.targets 0x0F)

/-- ACTIVE or READY as a marker gives it to a follower (R326); one that is not admitted stays in READY (R329). -/
def State.markedPower (s : State) : Option Nat :=
  if s.follower then s.casc.mark.map (fun m => if m.power = 1 ∧ bit m.admitMap s.position then 1 else 2) else none

/-- A POWER_STATE to ACTIVE from READY is in force for the coming boundary (R23, R436); where a marker came, that decides. -/
def State.activeLands (s : State) : Bool :=
  s.pwr.activePending.any (fun t => landsFirst t s.nextBoundary) && s.markedPower.isNone && (!s.follower || s.admittedSelf)

/-- The power state from the coming boundary on: ACTIVE lands there, or a marker places it (R326, R436). -/
def State.comingPower (s : State) : Nat :=
  match s.markedPower with
  | some p => if p = 1 ∧ s.power = 2 then 1 else if p = 2 ∧ s.power = 1 ∧ s.pwr.entry = none then 2 else s.power
  | none => if s.activeLands then 1 else s.power

/-- MARK_SEND (R333): between 40 µs and 30 µs before the coming boundary. A CASCADE_MODE accepted before it lands there. -/
def execMarkSend (s : State) : Host.Outcome State Fault Refusal :=
  if !s.follower && s.scan.running && s.sendsOn then
    let b := s.nextBoundary
    let s := (s.until (b - us 40 + s.free % (us 10 + 1))).drawn
    let lands := s.casc.modePending.isSome
    let mode := (s.casc.modePending).getD s.cascMode
    let epoch := if lands then (s.casc.epoch + 1) % 256 else s.casc.epoch
    let m : Mark := ⟨s.comingCount, b, s.get Reg.SCN_LOCK_STATUS.T, s.get Reg.SCN_LOCK_STATUS.F, mode,
      s.admitByte, if s.comingPower = 1 then 1 else 2, epoch⟩
    let s := (s.setCasc { s.casc with
      modeLands := s.casc.modePending, modePending := none, epoch := epoch, last := some m, mark := some m }).setAll
      [(Reg.CAS_STATUS.ADMIT, m.admitMap / 2), (Reg.CAS_STATUS.EPOCH, epoch)]
    .next (s.coSend (markBytes m (b - s.now)))
  else .next s

/-- A marker read from its record; `boundary` is filled in by the receiver. -/
def readMark (r : List Byte) : Option (Mark × Nat) :=
  if r.length = 32 ∧ crc32cFold 0 (r.take 28) = leAt r 28 4 then
    let mode : CascMode := ⟨leAt r 9 1 % 4, bit (leAt r 9 1) 7, leAt r 14 1, [leAt r 16 2, leAt r 18 2, leAt r 20 2, leAt r 22 2]⟩
    some (⟨leAt r 0 4, 0, leAt r 8 1, leAt r 10 2, mode, leAt r 12 1, leAt r 13 1, leAt r 15 1⟩, leAt r 4 4)
  else none

/-- CAS_STATUS.ALIGN set, with the events ALIGNED and UNALIGNED (R335, R354). -/
def State.setAlign (s : State) (a : Nat) : State :=
  let old := s.get Reg.CAS_STATUS.ALIGN
  let s := s.set Reg.CAS_STATUS.ALIGN a
  if a = 2 ∧ old ≠ 2 then s.cascadeEvent 5 s.position 0
  else if a ≠ 2 ∧ old = 2 then s.cascadeEvent 6 s.position 0
  else s

/-- The first boundary of the master at or after an instant, from a marked boundary and its period. -/
def masterBoundary (mark period t : Nat) : Nat := if t ≤ mark then mark else mark + (t - mark + period - 1) / period * period

/-- The follower's coming boundary is moved onto the marked one (R334): within the frame when the error is at most 64 base
cycles, by extending the slot, dark, when it is larger. -/
def State.follow (s : State) (m : Mark) : State :=
  let own := s.nextBoundary
  let e : Int := (own : Int) - (m.boundary : Int)
  let s := s.set Reg.CAS_PHASE.ERR (ofSigned 32 e)
  if -64 ≤ e ∧ e ≤ 64 then
    let s := (s.set Reg.SCN_FRAME_PERIOD.PERIOD (m.boundary - s.scan.frameStart)).setCasc { s.casc with goodMarks := s.casc.goodMarks + 1 }
    if 4 ≤ s.casc.goodMarks then s.setAlign 2 else s.setAlign 1
  else
    let slot := own - 4240
    let p := 4096 * m.tick + m.stretch + 4240
    let b := masterBoundary m.boundary p slot
    let s := (s.set Reg.SCN_FRAME_PERIOD.PERIOD (b - s.scan.frameStart)).setCasc { s.casc with
      goodMarks := 0, realign := some ((m.frame + (b - m.boundary) / p) % 2 ^ 32) }
    (s.bump Reg.CAS_REALIGN_COUNT.COUNT Reg.CAS_FLAGS.CNT_SAT).setAlign 1

/-- MARK_RX (R333 to R336): the record, and the one-way delay h of the hop in base cycles. -/
def execMarkRx (r : List Byte) (h : Nat) (s : State) : Host.Outcome State Fault Refusal :=
  if !s.follower then .next s
  else
    match readMark r with
    | none => .next s
    | some (m, delay) =>
      if delay < 200 then .next s
      else
        let m := { m with boundary := s.now + delay - h }
        let s := (s.setCasc { s.casc with last := some m, mark := some m, missed := 0 }).setAll
          [(Reg.CAS_STATUS.ADMIT, m.admitMap / 2), (Reg.CAS_STATUS.EPOCH, m.epoch)]
        let s := if s.scan.running then s.follow m else s
        .next (if s.sendsOn && s.admittedSelf then s.coSend (markBytes m (m.boundary - s.now)) else s)

/-- MARKER_MISSING (R336, R351): no valid marker by the expected boundary; the fourth in a row is a loss of the input. -/
def execMarkerMissing (s : State) : Host.Outcome State Fault Refusal :=
  if s.follower && s.scan.running && s.casc.mark.isNone && s.casc.last.isSome then
    let s := s.until s.nextBoundary
    let s := (s.setCasc { s.casc with missed := s.casc.missed + 1, goodMarks := 0 }).bump
      Reg.CAS_MARK_MISS_COUNT.COUNT Reg.CAS_FLAGS.CNT_SAT
    let s := s.setAlign 1
    .next (if s.casc.missed = 4 then s.inputLoss else s)
  else .next s

/-! ### TAKE and CLONE (R339, R342) -/

/-- The bytes of a TAKE record (Table 11-5). -/
def takeBytes (t : Take) : List Byte :=
  let b := le 4 t.frame ++ le 2 t.seq ++ [byte (b2n t.rep), byte t.input] ++ le 20 0
  b ++ le 4 (crc32cFold 0 b)

/-- The newest frame that the master may name at an instant: forwarded whole, held complete (R339). A frame forwarded less
than 0.01 ms before may or may not be named. -/
def State.nameable (s : State) : Option Nat :=
  match s.casc.forwarded with
  | none => none
  | some (seq, t) =>
    if s.link.ready.any (fun r => r.seq == seq) && s.casc.named != some seq && (decide (t + 1000 ≤ s.now) || Config.choice 339 t) then some seq
    else none

/-- TAKE_SEND (R339): at B - 95,000 base cycles. -/
def execTakeSend (s : State) : Host.Outcome State Fault Refusal :=
  if !s.follower && s.scan.running && s.forwards then
    let s := s.until (s.nextBoundary - 95000)
    let n := s.comingCount
    let t : Take := match s.nameable with
      | some seq => ⟨n, seq, false, s.get Reg.LNK_STATUS.INPUT⟩
      | none => ⟨n, 0, true, s.get Reg.LNK_STATUS.INPUT⟩
    .next ((s.setCasc { s.casc with take := some t, named := if t.rep then s.casc.named else some t.seq }).coSend (takeBytes t))
  else .next s

/-- TAKE_RX (R339): the record is kept for its boundary and forwarded. -/
def execTakeRx (r : List Byte) (s : State) : Host.Outcome State Fault Refusal :=
  if s.follower && decide (r.length = 32 ∧ crc32cFold 0 (r.take 28) = leAt r 28 4) then
    let t : Take := ⟨leAt r 0 4, leAt r 4 2, bit (leAt r 6 1) 0, leAt r 7 1⟩
    let s := s.setCasc { s.casc with take := some t }
    .next (if s.sendsOn && s.admittedSelf then s.coSend r else s)
  else .next s

/-- The header of a CLONE frame (Table 8-3, R331). -/
def cloneHeader (seq frame time : Nat) : List Byte :=
  let b := le 2 seq ++ [byte 0, byte 1] ++ le 8 time ++ [byte 1, byte 0] ++ le 2 0 ++ le 4 frame ++ le 8 0
  b ++ le 4 (crc32cFold 0 b)

/-- The composition for a boundary, by pixel. -/
def State.composition (s : State) (b : Nat) : NMap :=
  ((s.composedRows b).mapIdx (fun y l => l.mapIdx (fun x v => (2048 * y + x, v)))).flatten.filter (fun p => p.2 != 0)

/-- The clone modes: DEEPEN, and MULTIPLY with CLONE (R342). -/
def State.cloning (s : State) : Bool := s.get Reg.CAS_MODE.MODE == 1 || s.flag Reg.CAS_MODE.CLONE

/-! ### Packets (R345, R346) -/

/-- A packet passes framing under a fold word (R267). -/
def framed (tag : Nat) (p : List Byte) : Bool :=
  decide (10 ≤ p.length) && decide (leAt p 4 2 ≤ 1014) && p.length == 10 + leAt p 4 2
    && trailer tag (p.take (p.length - 2)) == leAt p (p.length - 2) 2

/-- CASCADE_CMD_RX (R345): a CMD block. The packet enters ring 4 when it is for this module; otherwise, or as well when it is
a broadcast, it is forwarded. A follower not admitted does neither (R329). -/
def execCascadeCmdRx (block : List Byte) (s : State) : Host.Outcome State Fault Refusal :=
  let p := block.take (10 + leAt block 4 2)
  if s.follower && s.admittedSelf && framed s.tag p then
    let t := leAt p 6 1
    let s := if t = s.position ∨ t = 0x0F then s.push 4 ⟨p, 0, s.now⟩ else s
    .next (if t ≠ s.position ∧ s.sendsOn then s.coSend (cmdBlock s.nextTag p) else s)
  else .next s

/-- A packet from downstream that fails its check or reassembly (R346). -/
def State.upError (s : State) : State :=
  (s.setCasc { s.casc with up := none }).bump Reg.CAS_UP_ERR_COUNT.COUNT Reg.CAS_FLAGS.CNT_SAT

/-- The route of a reply, removed when its last packet has come. -/
def State.takeRoute (s : State) (p : List Byte) : Option (Nat × State) :=
  let isRoute := fun (x : Nat × Nat × Nat × Nat) => x.1 == leAt p 6 1 && x.2.1 + 0x8000 == leAt p 0 2 && x.2.2.1 == leAt p 2 1
  match s.casc.routes.find? isRoute with
  | none => none
  | some x =>
    let more := bit (leAt p 3 1) 1 && !bit (leAt p 3 1) 2
    some (x.2.2.2, if more then s else s.setCasc { s.casc with routes := s.casc.routes.erase x })

/-- A whole upward packet: a follower sends it on; the master reseals and places it (R346). -/
def State.placeUp (s : State) (p : List Byte) : State :=
  match s.member (leAt p 6 1) with
  | none => s.upError
  | some m =>
    if !framed m.tag p then s.upError
    else
      let s := s.setCasc { s.casc with up := none }
      if s.follower then s.push 12 ⟨p, 0, s.now⟩
      else if 0xF000 ≤ leAt p 0 2 then s.eventOf (leAt p 6 1) (leAt p 0 2) ((p.drop 8).take (leAt p 4 2))
      else
        match s.takeRoute p with
        | none => s.upError
        | some (ring, s) => s.push (ring + 8) ⟨reseal s.tag p, 0, s.now⟩

/-- UP_PACKET_RX (R346, Table 11-2): one segment. -/
def execUpPacketRx (m : List Byte) (s : State) : Host.Outcome State Fault Refusal :=
  match readMessage m with
  | some (0x11, p) =>
    if !s.sendsOn ∨ p.length < 2 then .next s
    else
      let s := s.bcAck 0x11
      if s.follower && !s.admittedSelf then .next s
      else
      let head := leAt p 0 1
      let start := if bit head 7 then some (UpAssembly.mk (head % 64) []) else s.casc.up
      match start with
      | none => .next s.upError
      | some a =>
        if a.next ≠ head % 64 then .next s.upError
        else
          let b := a.bytes ++ p.drop 1
          if bit head 6 then .next (s.placeUp b)
          else .next (s.setCasc { s.casc with up := some ⟨(a.next + 1) % 64, b⟩ })
  | _ => .next s

/-! ### Commands (R352, R353) -/

def casStatusWord : List Field :=
  [Reg.CAS_STATUS.POSITION, Reg.CAS_STATUS.FOLLOWER, Reg.CAS_STATUS.ALIGN, Reg.CAS_STATUS.ADMIT, Reg.CAS_STATUS.EPOCH,
   Reg.CAS_STATUS.HOP_GEN, Reg.CAS_STATUS.UP_OK]

/-- CAS_FWD.QUEUE brought up to now. -/
def State.fwdFollow (s : State) : State :=
  (s.set Reg.CAS_FWD.QUEUE s.queuedRows).setCasc { s.casc with queueAt := s.now }

def runCascadeStatus (_ : Req) (s : State) : Answer :=
  let t := s.fwdFollow
  let own := memberBits 0 (leAt s.ownEntry 1 1)
  let serial := fun k => if s.admitted k && !s.follower then ((s.member k).map (·.serial)).getD 0 else 0
  answer s (le 4 (t.word casStatusWord) ++ le 2 (t.word [Reg.CAS_MODE.MODE, Reg.CAS_MODE.CLONE, Reg.CAS_MODE.SLICE_MAP])
    ++ le 4 (if s.follower then 0 else own + t.word [Reg.CAS_MEMBER.P 1, Reg.CAS_MEMBER.P 2, Reg.CAS_MEMBER.P 3])
    ++ le 4 (t.word [Reg.CAS_FWD.ROW_MIN, Reg.CAS_FWD.MAX_RATE, Reg.CAS_FWD.QUEUE]) ++ le 4 (t.get Reg.CAS_PHASE.ERR)
    ++ [1, 2, 3].flatMap (fun k => le 8 (serial k)))

def opCascadeStatus : Op := ⟨0x0C00, exactly 0, runCascadeStatus⟩
def execCascadeStatus (r : Req) (s : State) : Host.Outcome State Fault Refusal := .next (s.command opCascadeStatus r)

/-- The mode that CASCADE_MODE's parameters give. -/
def readMode (p : List Byte) : CascMode := ⟨leAt p 0 1, bit (leAt p 1 1) 0, leAt p 2 1, [leAt p 4 2, leAt p 6 2, leAt p 8 2, leAt p 10 2]⟩

def cascadeModeBad (p : List Byte) : Bool :=
  decide (2 < leAt p 0 1 ∨ 1 < leAt p 1 1 ∨ (bit (leAt p 1 1) 0 ∧ leAt p 0 1 ≠ 2) ∨ leAt p 3 1 ≠ 0 ∨ leAt p 12 4 ≠ 0)
    || (readMode p).shares.any (fun x => decide (4096 < x))

def runCascadeMode (r : Req) (s : State) : Answer :=
  let p := r.params
  let m := readMode p
  if s.power ≠ 2 then refuse s Status.badState
  else if (m.mode = 1 ∨ m.clone) ∧ !(s.targets 0x0F).isEmpty ∧ s.get Reg.CAS_STATUS.HOP_GEN < 2 then refuse s Status.badState
  else if r.target ≠ 0 ∨ s.follower ∨ cascadeModeBad p then refuse s Status.badParam
  else accept (s.setCasc { s.casc with modePending := some m })

def opCascadeMode : Op := ⟨0x0C01, exactly 16, runCascadeMode⟩
def execCascadeMode (r : Req) (s : State) : Host.Outcome State Fault Refusal := .next (s.command opCascadeMode r)

/-! ### What a boundary does (R332, R334, R339, R340, R342) -/

/-- CASCADE_MODE, or a marker's fields, land. -/
def State.landMode (s : State) (m : CascMode) : State :=
  let s := s.setAll [(Reg.CAS_MODE.MODE, m.mode), (Reg.CAS_MODE.CLONE, b2n m.clone), (Reg.CAS_MODE.SLICE_MAP, m.sliceMap),
    (Reg.CAS_SHARE01.SHARE_0, nth 0 m.shares 0), (Reg.CAS_SHARE01.SHARE_1, nth 0 m.shares 1),
    (Reg.CAS_SHARE23.SHARE_2, nth 0 m.shares 2), (Reg.CAS_SHARE23.SHARE_3, nth 0 m.shares 3)]
  if s.follower then s
  else
    let on := m.mode == 1 || m.clone
    ((if on then s.pd4On else s).set Reg.SCN_CTRL.CASC_TX_EN (b2n on)).advertise

/-- The share of the module's own position (R343): 4,096 outside DEEPEN and in a module without followers (R322). -/
def State.share (s : State) : Nat :=
  if s.get Reg.CAS_MODE.MODE ≠ 1 ∨ s.alone then 4096 else nth 4096 s.cascMode.shares s.position

/-- The frame that a boundary takes up into the frame in use. -/
def State.useFrame (s : State) (r : Ready) : State :=
  let older := s.link.ready.takeWhile (fun (x : Ready) => x.seq != r.seq)
  let s := s.bumpBy Reg.LNK_FRAME_DROP_COUNT.COUNT Reg.LNK_STATUS.CNT_SAT older.length
  (s.setBeam { s.beam with linkBuffer := some r.buffer }).setLink
    { s.link with
      ready := (s.link.ready.dropWhile (fun (x : Ready) => x.seq != r.seq)).drop 1, useCheck := some r.check, useBoxes := r.boxes }

/-- A module in the TAKE modes takes up the frame named for boundary `n`, or repeats (R339, R340). -/
def State.takeNamed (s : State) (n : Nat) : State :=
  match s.casc.take with
  | none => s
  | some t =>
    if t.frame ≠ n then s
    else
      let s := if s.follower ∧ t.input = 4 ∧ !s.casc.takeFallen ∧ s.get Reg.BEAM_STATUS.SOURCE = 1 then
          (s.setCasc { s.casc with takeFallen := true }).linkFallback else s
      if t.rep then s
      else
        let s := if s.casc.takeFallen ∧ t.input = 2 then (s.setCasc { s.casc with takeFallen := false }).resume else s
        match s.link.ready.find? (fun r => r.seq == t.seq) with
        | some r => s.useFrame r
        | none => s.bump Reg.CAS_TAKE_MISS_COUNT.COUNT Reg.CAS_FLAGS.CNT_SAT

/-- A follower in the clone modes shows the CLONE frame named for boundary `n` if it was complete 0.8 ms before (R342, R351). -/
def State.takeClone (s : State) (n b : Nat) : State :=
  match s.link.ready.find? (fun r => r.due == n && decide (r.at_ + 80000 ≤ b)) with
  | some r => (s.useFrame r).setCasc { (s.useFrame r).casc with cloneMissed := 0 }
  | none =>
    let s := (s.setCasc { s.casc with cloneMissed := s.casc.cloneMissed + 1 }).bump
      Reg.CAS_TAKE_MISS_COUNT.COUNT Reg.CAS_FLAGS.CNT_SAT
    if s.casc.cloneMissed = 4 then s.inputLoss else s

/-- The newest input frame due for boundary `n` is taken up, the older ones are dropped (R30, R31). -/
def State.takeNewest (s : State) (n : Nat) : State :=
  let due := s.link.ready.filter (fun r => (n + 2 ^ 32 - r.due) % 2 ^ 32 < 2 ^ 31)
  match due.getLast? with
  | none => s
  | some r =>
    let s := s.bumpBy Reg.LNK_FRAME_DROP_COUNT.COUNT Reg.LNK_STATUS.CNT_SAT (due.length - 1)
    (s.setBeam { s.beam with linkBuffer := some r.buffer }).setLink
      { s.link with
        ready := s.link.ready.filter (fun (x : Ready) => (n + 2 ^ 32 - x.due) % 2 ^ 32 ≥ 2 ^ 31), useCheck := some r.check
        useBoxes := r.boxes }

/-- The input frame of boundary `n` at `b`. -/
def State.takeUp (s : State) (n b : Nat) : State :=
  if !s.takesInput then s
  else if s.follower then (if s.cloning then s.takeClone n b else s.takeNamed n)
  else if s.forwards then s.takeNamed n
  else s.takeNewest n

/-- The cascade's part of boundary `n`: modes land, and compositions change. -/
def State.cascadeBoundary (s : State) (n : Nat) : State :=
  let s := match s.casc.modeLands with
    | some m => (s.setCasc { s.casc with modeLands := none }).landMode m
    | none => s
  let s := match s.casc.mark with
    | some m => if s.follower then s.landMode m.mode else s
    | none => s
  let s := match s.casc.cloneNext with
    | some (f, img) => if f = n then s.setCasc { s.casc with cloneShown := img, cloneNext := none, boxShown := s.casc.boxNext } else s
    | none => s
  s.setCasc { s.casc with mark := none, realign := none }

/-- The frame that the module takes up for boundary `n`: the one named, the CLONE frame due, or the newest due (R30, R339,
R342). -/
def State.comingFrame (s : State) (n : Nat) : Option Ready :=
  if s.follower ∧ s.cloning then s.link.ready.find? (fun r => r.due == n && decide (r.at_ + 80000 ≤ s.nextBoundary))
  else if s.follower ∨ s.forwards then
    match s.casc.take with
    | some t => if t.frame = n ∧ !t.rep then s.link.ready.find? (fun r => r.seq == t.seq) else none
    | none => none
  else (s.link.ready.filter (fun r => (n + 2 ^ 32 - r.due) % 2 ^ 32 < 2 ^ 31)).getLast?

/-- A row packet of a CLONE frame (Table 8-4): the guarded boxes 0 to 127 lie in bytes 4 to 11 of the first 128 rows (R373), pixels are
LUMA16 (R331). Answers the packet and its CHECK. -/
def clonePacket (seq r box : Nat) (pixels : List Nat) : List Byte × Nat :=
  let b := le 2 r ++ le 2 seq ++ le 8 box ++ le 4 0 ++ pixels.flatMap (le 2)
  let check := crc32cFold (seq % 65536 * 65536 + r) b
  (b ++ le 4 check ++ le 12 0, check)

/-- The trailer of a CLONE frame (Table 8-5). -/
def cloneTrailer (seq : Nat) (checks : List Nat) : List Byte :=
  let b := le 2 seq ++ le 2 512 ++ le 4 (frameCheck seq checks.reverse) ++ le 20 0
  b ++ le 4 (crc32cFold 0 b)

/-- A CLONE frame as it leaves the cascade transmit port (R66, R331, R342): header, the 512 rows of the composition, trailer. -/
def cloneFrame (seq frame time : Nat) (boxes : List Nat) (img : NMap) : List Byte :=
  let rows := (List.range 512).map (fun r =>
    let m := keysIn img (2048 * r) 2048
    clonePacket seq r (if r < 128 then nth 0 boxes r else 0) ((List.range 2048).map (fun x => Assoc.get 0 m (2048 * r + x))))
  cloneHeader seq frame time ++ rows.flatMap (·.1) ++ cloneTrailer seq (rows.map (·.2))

/-- New content of meeting place 1, an input frame or another power state is in force from the coming boundary. -/
def State.contentLands (s : State) : Bool :=
  (match s.beam.waiting with
    | some p => !s.scanHeld && landsFirst p.2 s.nextBoundary
    | none => false)
  || (s.comingFrame s.comingCount).isSome || s.comingPower != s.power

/-- The master of the clone modes shows the compositions it sent (R342). -/
def State.showsClone (s : State) : Bool := s.cloning && !s.follower && !s.alone && s.flag Reg.SCN_CTRL.CASC_TX_EN

/-- The machine as it will stand at the coming boundary, so far as the light shown from there is concerned: the content that
lands there, the input frame taken up, the cascade mode and the power state (R22, R23, R30, R332, R436). -/
def State.preview (s : State) : State :=
  let b := s.nextBoundary
  let n := s.comingCount
  let p := ((s.landFirst b).takeUp n b).cascadeBoundary n
  let p := p.setCasc { p.casc with mark := s.casc.mark, realign := s.casc.realign }
  if s.comingPower = s.power then p else p.setPower s.comingPower

/-- CLONE_FRAME_SEND (R66, R342): the composition for the coming boundary is sent, to be shown from the one after. -/
def execCloneFrameSend (s : State) : Host.Outcome State Fault Refusal :=
  if s.scan.running && s.showsClone then
    let frame := (s.comingCount + 1) % 2 ^ 32
    let img := s.preview.composition s.nextBoundary
    let boxes := s.ownBoxes s.nextBoundary
    let s := s.setCasc { s.casc with cloneNext := some (frame, img), boxNext := boxes, cloneNew := s.contentLands }
    let s := s.coSend (cloneFrame (s.get Reg.CAS_FWD_COUNT.COUNT) frame s.time boxes img)
    .next (s.bump Reg.CAS_FWD_COUNT.COUNT Reg.CAS_FLAGS.CNT_SAT)
  else .next s

end Sys2Proof.Machine
end

