-- ==== Sys2Proof/Machine/Bus.lean ====
section
/-! DEFINITION. The host buses: SPI, CAN FD, 10BASE-T1S, DALI-2 and the FK6160 legacy frames (10_host_buses). -/

namespace Sys2Proof.Machine

def State.setBus (s : State) (b : Buses) : State := { s with bus := b }
def State.setDali (s : State) (d : Dali) : State := s.setBus { s.bus with dali := d }

/-- The bus controllers run: PD2 is powered, and READY has been reached or the resident loader serves (R295). -/
def State.busOn (s : State) : Bool :=
  bit (s.get Reg.PWR_DOMAIN.ON) 2 && !s.follower && (s.phase == .service || s.phase == .loaderHold)

/-! ### Framing (R266, R267) -/

/-- A packet's length is sound. -/
def lengthOk (p : List Byte) : Bool := decide (10 ≤ p.length ∧ leAt p 4 2 ≤ 1014) && p.length == 10 + leAt p 4 2

/-- A packet passes framing on a host bus: under the node tag, or SYS_IDENTIFY under fold word 0. -/
def State.frames (s : State) (p : List Byte) : Bool := framed s.tag p || (leAt p 0 2 == 0x0100 && framed 0 p)

/-! ### Register writes that wait for their reply (R321) -/

/-- The part the node takes in PLCA: none with EN 0; ID 0 sends the beacons (R309). -/
def State.plcaFollow (s : State) : State :=
  let s := if s.flag Reg.HST_T1S_PLCA.EN then s else s.setAll [(Reg.HST_T1S_STATUS.PLCA_OK, 0), (Reg.HST_T1S_STATUS.MODE, 1)]
  s.set Reg.HST_T1S_STATUS.COORD
    (b2n (s.busOn && s.flag Reg.HST_CTRL.T1S_EN && s.flag Reg.HST_T1S_PLCA.EN && s.get Reg.HST_T1S_PLCA.NODE_ID == 0))

/-- The fields of an HST_ register word set; the variant's absent bus ignores writes (Table 10-10). -/
def State.setHstWord (s : State) (addr word : Nat) : State :=
  let fs := (regTable.filter (fun (f : RegFamily) => f.base == addr)).flatMap (·.fields)
  let absent := if s.id.variant = .aw then Reg.HST_CTRL.DALI_EN else Reg.HST_CTRL.CAN_EN
  (fs.foldl (fun (s : State) (f : Field) => if f.acc == .rw && f.key != absent.key then s.set f (bits word f.lo f.width) else s) s).plcaFollow

/-- An assembly in progress on CAN FD is abandoned and counted (R304, R321). -/
def State.canAbandon (s : State) : State :=
  match s.bus.canRx with
  | none => s
  | some _ => (s.setBus { s.bus with canRx := none }).bump Reg.HST_CAN_SEG_ERR_COUNT.COUNT Reg.HST_FLAGS.CNT_SAT

/-- A reply with a SEQ has left on the bus of a ring: the writes that waited for it take effect. -/
def State.replyLeft (s : State) (ring seq : Nat) : State :=
  let mine := s.bus.deferred.filter (fun (d : Nat × Nat × Nat × Nat) => d.1 == ring && d.2.1 == seq)
  if mine.isEmpty then s
  else
    let s := s.setBus { s.bus with deferred := s.bus.deferred.filter (fun (d : Nat × Nat × Nat × Nat) => !(d.1 == ring && d.2.1 == seq)) }
    let s := mine.foldl (fun s d => s.setHstWord d.2.2.1 d.2.2.2) s
    if ring = 1 then s.canAbandon else s

/-- The head of a reply ring has left on its bus. -/
def State.leave (s : State) (ring : Nat) : State :=
  match s.ring (ring + 8) with
  | [] => s
  | p :: _ => (s.pop (ring + 8)).replyLeft ring (if leAt p.bytes 0 2 = 0x8111 then leAt p.bytes 2 1 else 256)

/-! ### SPI (R296 to R301) -/

/-- The status byte of Table 10-3. -/
def State.spiStatus (s : State) : Byte :=
  byte (b2n (s.ringRoom 0) + 2 * b2n (!(s.ring 8).isEmpty) + 4 * b2n (!s.flt.uncleared.isEmpty) + 8 * b2n s.lockedOut
    + 16 * b2n (s.phase == .loaderHold))

/-- Native SPI is served. -/
def State.spiOn (s : State) : Bool := s.busOn && s.flag Reg.HST_CTRL.SPI_EN && !s.id.legacy

/-- The reply to an SPI packet that fails framing (R267, R298): OPCODE and SEQ copied from the bytes received. -/
def State.spiBad (s : State) (p : List Byte) : State :=
  let s := s.bump Reg.HST_SPI_FRAME_ERR_COUNT.COUNT Reg.HST_FLAGS.CNT_SAT
  let st := if lengthOk p then Status.badCheck else Status.badLength
  (s.push 8 ⟨sealed s.tag ((leAt p 0 2 + 0x8000) % 65536) (leAt p 2 1) 0 s.position (le 2 st), 0, s.now⟩).countErr (s.ringRoom 8) st

/-- SPI_WRITE_TRANSACTION: every byte, the address byte first, and how long SPI_CS_N stayed low. -/
def execSpiWriteTransaction (bytes : List Byte) (low : Nat) (s : State) : Host.Outcome State Fault Refusal :=
  let status := s.spiStatus
  if !s.spiOn ∨ bytes.length = 0 ∨ leAt bytes 0 1 ≠ 2 * s.get Reg.HST_SPI_CFG.ADDR then .next (s.wait low)
  else
    let s := (s.setBus { s.bus with spiOut := [status] }).wait low
    let p := bytes.drop 1
    if p.isEmpty then .next s
    else if band 300 s.now (ms 50) (ms 60 + 1) low then .next (s.bump Reg.HST_SPI_TIMEOUT_COUNT.COUNT Reg.HST_FLAGS.CNT_SAT)
    else if !s.frames p then .next (s.spiBad p)
    else if !s.ringRoom 0 then .next (s.bump Reg.HST_SPI_OVERRUN_COUNT.COUNT Reg.HST_FLAGS.CNT_SAT)
    else .next (s.push 0 ⟨p, 0, s.now⟩)

/-- SPI_READ_TRANSACTION: the address byte, and the bytes clocked after it. -/
def execSpiReadTransaction (address clocked : Nat) (s : State) : Host.Outcome State Fault Refusal :=
  if !s.spiOn ∨ address ≠ 2 * s.get Reg.HST_SPI_CFG.ADDR + 1 then .next s
  else
    let p := ((s.ring 8).head?.map (fun (x : Packet) => x.bytes)).getD []
    let out := s.spiStatus :: ((le 2 p.length ++ p ++ le clocked 0).take clocked)
    let s := s.setBus { s.bus with spiOut := out }
    if p.isEmpty then .next s
    else if clocked < 2 + p.length then .next (s.bump Reg.HST_SPI_SHORT_READ_COUNT.COUNT Reg.HST_FLAGS.CNT_SAT)
    else .next (s.leave 0)

/-! ### CAN FD (R302 to R305) -/

def State.canOn (s : State) : Bool := s.busOn && s.flag Reg.HST_CTRL.CAN_EN

/-- A whole CAN packet. -/
def State.canPacket (s : State) (p : List Byte) : State :=
  let sat := Reg.HST_FLAGS.CNT_SAT
  let s := (s.setBus { s.bus with canRx := none }).bump Reg.HST_CAN_RX_COUNT.COUNT sat
  if !s.frames p then s.bump Reg.HST_CAN_FRAME_ERR_COUNT.COUNT sat
  else if !s.ringRoom 1 then s.bump Reg.HST_CAN_OVERRUN_COUNT.COUNT sat
  else s.push 1 ⟨p, 0, s.now⟩

/-- A segment counted as an assembly abandoned (R304). -/
def State.canSegError (s : State) : State :=
  (s.setBus { s.bus with canRx := none }).bump Reg.HST_CAN_SEG_ERR_COUNT.COUNT Reg.HST_FLAGS.CNT_SAT

/-- A segment that belongs to the assembly `a` (R303, R304). -/
def State.canSegment (s : State) (a : CanAssembly) (last : Bool) (data : List Byte) : State :=
  let b := a.bytes ++ data
  let n := 10 + leAt b 4 2
  if last then (if n ≤ b.length then s.canPacket (b.take n) else s.canSegError)
  else if n ≤ b.length then s.canSegError
  else s.setBus { s.bus with canRx := some ⟨b, a.next + 1, s.now⟩ }

/-- The assembly has waited too long for its next segment: never within 50 ms of the last one, always from 55 ms on (R304). -/
def State.canLate (s : State) : Bool := s.bus.canRx.any (fun a => band 304 a.lastAt (ms 50) (ms 55) (s.now - a.lastAt))

/-- CAN_FRAME_RX: identifier, its format, FD format, data length code, and the data bytes. -/
def execCanFrameRx (ident : Nat) (ide fd : Bool) (dlc : Nat) (data : List Byte) (s : State) : Host.Outcome State Fault Refusal :=
  if !s.canOn ∨ ident ≠ s.get Reg.HST_CAN_ID_RX.ID ∨ ide ≠ s.flag Reg.HST_CAN_CFG.IDE ∨ s.get Reg.HST_CAN_STATUS.STATE = 2 then .next s
  else if !fd ∨ dlc ≠ 15 ∨ data.length ≠ 64 then .next (s.bump Reg.HST_CAN_FMT_ERR_COUNT.COUNT Reg.HST_FLAGS.CNT_SAT)
  else
    let head := leAt data 0 1
    let s := if s.canLate then s.canSegError else s
    let s := if bit head 7 ∧ s.bus.canRx.isSome then s.canSegError else s
    match s.bus.canRx with
    | none => if bit head 7 ∧ head % 64 = 0 then .next (s.canSegment ⟨[], 0, s.now⟩ (bit head 6) (data.drop 1)) else .next s.canSegError
    | some a => if head % 64 = a.next then .next (s.canSegment a (bit head 6) (data.drop 1)) else .next s.canSegError

/-- CAN_ASSEMBLY_TIMEOUT (R304): between 50 ms and 55 ms after the last segment. -/
def execCanAssemblyTimeout (s : State) : Host.Outcome State Fault Refusal :=
  match s.bus.canRx with
  | none => .next s
  | some a => .next (s.until (a.lastAt + ms 50 + 1 + s.free % ms 5)).drawn.canSegError

/-- Segment `i` of a packet: header, 63 bytes, padding 0xCC (R303). -/
def canSegmentBytes (p : List Byte) (i : Nat) : List Byte :=
  let last := decide (p.length ≤ 63 * (i + 1))
  let head := (if i = 0 then 128 else 0) + (if last then 64 else 0) + i % 64
  byte head :: ((p.drop (63 * i)).take 63 ++ List.replicate (63 - min 63 (p.length - 63 * i)) (byte 0xCC))

/-- CAN_SEGMENT_SENT (R305): the packet leaves ring 9 with its last segment. -/
def execCanSegmentSent (s : State) : Host.Outcome State Fault Refusal :=
  match s.ring 9 with
  | [] => .next s
  | p :: _ =>
    if !s.canOn ∨ s.get Reg.HST_CAN_STATUS.STATE = 2 then .next s
    else
      let i := s.bus.canSent
      let last := decide (p.bytes.length ≤ 63 * (i + 1))
      let s := s.setBus { s.bus with canOut := canSegmentBytes p.bytes i, canSent := if last then 0 else i + 1 }
      .next (if last then s.leave 1 else s)

/-- CAN_BUSOFF (R305): the interrupted packet will be sent again whole. -/
def execCanBusoff (s : State) : Host.Outcome State Fault Refusal :=
  if !s.canOn ∨ s.get Reg.HST_CAN_STATUS.STATE = 2 then .next s
  else
    let s := s.setAll [(Reg.HST_CAN_STATUS.STATE, 2), (Reg.HST_CAN_STATUS.TEC, 255)]
    let s := (s.setBus { s.bus with canSent := 0 }).bump Reg.HST_CAN_BUSOFF_COUNT.COUNT Reg.HST_FLAGS.CNT_SAT
    .next (s.fault Src.hstCanBusoff 255 0 7)

/-- CAN_BUSOFF_RECOVERY (R305): error-active again, the error counters at 0. -/
def execCanBusoffRecovery (s : State) : Host.Outcome State Fault Refusal :=
  if s.get Reg.HST_CAN_STATUS.STATE = 2 then
    .next (s.setAll [(Reg.HST_CAN_STATUS.STATE, 0), (Reg.HST_CAN_STATUS.TEC, 0), (Reg.HST_CAN_STATUS.REC, 0)])
  else .next s

/-! ### 10BASE-T1S (R306 to R310) -/

def State.t1sOn (s : State) : Bool := s.busOn && s.flag Reg.HST_CTRL.T1S_EN

/-- T1S_FRAME_RX: addresses, EtherType, VLAN tag, FCS, payload, and the symbol errors and false carriers before it. -/
def execT1sFrameRx (dst src etherType : Nat) (tagged fcsGood : Bool) (payload : List Byte) (noise : Nat) (s : State) : Host.Outcome State Fault Refusal :=
  let sat := Reg.HST_FLAGS.CNT_SAT
  if !s.t1sOn then .next s
  else
    let s := s.bumpBy Reg.HST_T1S_NOISE_COUNT.COUNT sat noise
    if dst ≠ s.id.mac then .next s
    else if !fcsGood then .next (s.bump Reg.HST_T1S_FCS_ERR_COUNT.COUNT sat)
    else if etherType ≠ 0x88B5 ∨ tagged then .next (s.bump Reg.HST_T1S_OTHER_COUNT.COUNT sat)
    else
      let p := payload.take (10 + leAt payload 4 2)
      if !s.frames p then .next (s.bump Reg.HST_T1S_FOREIGN_COUNT.COUNT sat)
      else if !s.ringRoom 2 then .next (s.bump Reg.HST_T1S_OVERRUN_COUNT.COUNT sat)
      else
        let s := (s.push 2 ⟨p, src, s.now⟩).bump Reg.HST_T1S_RX_COUNT.COUNT sat
        .next (s.setProto { s.proto with t1sSource := some src })

/-- A payload padded to the Ethernet minimum of 46 bytes (R308). -/
def t1sPadded (p : List Byte) : List Byte := p ++ List.replicate (46 - p.length) 0

/-- T1S_FRAME_SENT (R308): the head of ring 10 leaves, after some collisions; an event waits until a packet was accepted. -/
def execT1sFrameSent (collisions : Nat) (s : State) : Host.Outcome State Fault Refusal :=
  match s.ring 10 with
  | [] => .next s
  | p :: _ =>
    let event := decide (0xF000 ≤ leAt p.bytes 0 2)
    if !s.t1sOn ∨ (event ∧ s.proto.t1sSource.isNone) then .next s
    else
      let s := s.bumpBy Reg.HST_T1S_COLL_COUNT.COUNT Reg.HST_FLAGS.CNT_SAT collisions
      let dst := if event then s.proto.t1sSource.getD 0 else p.source
      .next ((s.setBus { s.bus with t1sOut := (dst, t1sPadded p.bytes) }).leave 2)

/-- PLCA_STATUS_LOSS (R309). -/
def execPlcaStatusLoss (s : State) : Host.Outcome State Fault Refusal :=
  if s.t1sOn && s.flag Reg.HST_T1S_PLCA.EN && s.get Reg.HST_T1S_STATUS.MODE == 0 then
    .next ((s.setAll [(Reg.HST_T1S_STATUS.PLCA_OK, 0), (Reg.HST_T1S_STATUS.MODE, 1)]).bump
      Reg.HST_T1S_PLCA_LOSS_COUNT.COUNT Reg.HST_FLAGS.CNT_SAT)
  else .next s

/-- PLCA_BEACON_RESUME (R309). -/
def execPlcaBeaconResume (s : State) : Host.Outcome State Fault Refusal :=
  if s.t1sOn && s.flag Reg.HST_T1S_PLCA.EN then
    .next (s.setAll [(Reg.HST_T1S_STATUS.PLCA_OK, 1), (Reg.HST_T1S_STATUS.MODE, 0),
      (Reg.HST_T1S_STATUS.COORD, b2n (s.get Reg.HST_T1S_PLCA.NODE_ID == 0))])
  else .next s

/-! ### DALI-2 (R311 to R316). What IEC 62386 defines is taken from that standard (notes/assumptions/20.md). -/

def State.daliOn (s : State) : Bool := s.id.variant == .iw && s.flag Reg.HST_CTRL.DALI_EN && !s.follower

/-- The control gear serves the bus: the CP's image runs its logic, which the resident loader does not (R284, R311). -/
def State.daliServes (s : State) : Bool := s.daliOn && s.busOn && s.phase == .service

/-- LEVEL of L7 for an arc power (R312): round(65,535 × X / 100). -/
def daliLevel (linear : Bool) (n : Nat) : Nat :=
  if n = 0 then 0
  else if linear then (2 * 65535 * n + 254) / 508
  else bisect (fun v => decide (v = 0 ∨ ((2 * v - 1) * 1000) ^ 253 ≤ 131070 ^ 253 * 10 ^ (3 * (n - 1)))) 16 0

/-- Fade times of IEC 62386-102 in ms, by FADE TIME. -/
def daliFadeMs (n : Nat) : Nat :=
  [0, 707, 1000, 1414, 2000, 2828, 4000, 5657, 8000, 11314, 16000, 22627, 32000, 45255, 64000, 90510].getD n 0

/-- EXTENDED FADE TIME in ms, from its byte. -/
def daliExtMs (v : Nat) : Nat := (v % 16 + 1) * [0, 100, 1000, 10000, 60000].getD (v / 16) 0

/-- The fade time in force in ms: FADE TIME, else the extended fade time, else the fast fade time. -/
def Dali.fade (d : Dali) : Nat :=
  if d.fadeTime ≠ 0 then daliFadeMs d.fadeTime else if daliExtMs d.extFade ≠ 0 then daliExtMs d.extFade else 25 * d.fastFade

/-- The fade time of a direct arc power: 200 ms in a DAPC sequence, whose commands are 200 ms apart at most. -/
def Dali.arcFade (d : Dali) (now : Nat) : Nat :=
  match d.dapcAt with
  | some t => if now ≤ t + 20000000 then 200 else d.fade
  | none => d.fade

/-- The arc power at an instant; a fade to 0 goes to MIN and is off at its end. -/
def Dali.level (d : Dali) (now : Nat) : Nat :=
  let done := (now - d.fadeAt) / 100000
  let goal := if d.target = 0 then d.minLevel else d.target
  if d.fadeMs ≤ done then d.target
  else if d.origin ≤ goal then d.origin + (goal - d.origin) * done / d.fadeMs
  else d.origin - (d.origin - goal) * done / d.fadeMs

/-- The level a fade starts from: the level shown, MIN when it is off (R314). -/
def Dali.fadeFrom (d : Dali) (now target : Nat) : Nat :=
  if d.level now = 0 ∧ target ≠ 0 then d.minLevel else d.level now

/-- A fade to a level. -/
def State.daliFade (s : State) (target fadeMs : Nat) : State :=
  let d := s.bus.dali
  s.setDali { d with
    origin := d.fadeFrom s.now target, target := target, fadeAt := s.now, fadeMs := fadeMs, powerCycle := false
    lastActive := if target = 0 then d.lastActive else target }

/-- A commanded level held within MIN and MAX; 0 stays 0. -/
def Dali.limit (d : Dali) (n : Nat) : Nat := if n = 0 then 0 else min d.maxLevel (max d.minLevel n)

/-- Direct arc power: 255 stops a running fade; a level held back by MIN or MAX is a limit error. -/
def State.daliArc (s : State) (n fadeMs : Nat) : State :=
  if n = 255 then s.daliFade (s.bus.dali.level s.now) 0
  else
    let s' := s.daliFade (s.bus.dali.limit n) fadeMs
    s'.setDali { s'.bus.dali with limitError := s.bus.dali.limit n != n }

/-- A DALI frame for this gear is counted; the bus is back, so a system failure has ended. -/
def State.daliHeard (s : State) : State :=
  (s.set Reg.HST_DALI_STATUS.SYS_FAIL 0).bump Reg.HST_DALI_RX_COUNT.COUNT Reg.HST_FLAGS.CNT_SAT

/-- BEAM_SELECT_PATTERN placed in ring 6 by the MP (R313, R314). -/
def State.daliSelect (s : State) (pat fadeMs : Nat) : State :=
  s.push 6 ⟨sealed s.tag 0x0200 0 0 0 (le 2 pat ++ [byte 0, byte 0] ++ le 2 (min 10000 fadeMs) ++ le 2 0), 0, s.now⟩

/-- GO TO SCENE (R313). -/
def State.daliScene (s : State) (n : Nat) : State :=
  let d := s.bus.dali
  let level := d.scenes.getD n 255
  let s := if level = 255 then s else s.daliArc level d.fade
  let s := s.set Reg.HST_DALI_STATUS.SCENE n
  let pat := d.patterns.getD n 255
  if pat ≠ 255 ∧ (Assoc.get none s.lib.patterns pat).isSome then s.daliSelect pat d.fade else s

/-- A byte that the maker fixes and the spec does not give: GTIN, versions, features (notes/assumptions/20.md). -/
def daliFixed (n : Nat) : Nat := Config.unlaid (0xDA110000 + n) 0 % 256

/-- One byte of a memory bank (Table 10-5); banks 0 and 1 are the standard's. -/
def State.daliMemory (s : State) (bank loc : Nat) : Option Nat :=
  let d := s.bus.dali
  if bank = 0 then
    if loc = 0 then some 0x1A else if loc = 2 then some 3
    else if 0x0B ≤ loc ∧ loc ≤ 0x12 then some (s.id.serial / 256 ^ (0x12 - loc) % 256)
    else if loc = 0x15 ∨ loc = 0x16 then some 8 else if loc = 0x17 then some 255 else if loc = 0x18 then some 0
    else if loc = 0x19 then some 1 else if loc = 0x1A then some 0
    else if 3 ≤ loc ∧ loc ≤ 0x14 then some (daliFixed loc) else none
  else if bank = 1 then
    if loc = 0 then some 0x10 else if loc = 1 then some (daliFixed 256) else if loc = 2 then some (if d.unlocked1 then 0x55 else 0xFF)
    else if loc ≤ 0x10 then some (d.bank1.getD (loc - 3) 255) else none
  else if bank = 2 then
    if loc = 0 then some 0x14 else if loc = 1 then some 0 else if loc = 2 then some (if d.unlocked2 then 0x55 else 0xFF)
    else if loc ≤ 0x12 then some (d.patterns.getD (loc - 3) 255)
    else if loc = 0x13 then some (s.get Reg.HST_DALI_STATUS.CURVE)
    else if loc = 0x14 then some d.powerPattern else none
  else if bank = 3 then
    if loc = 0 then some 0x13 else if loc = 1 then some 0 else if loc = 2 then some (if d.unlocked3 then 0x55 else 0xFF)
    else if loc ≤ 0x12 then some (bits (s.get (Reg.SNS_ZONE_LEVEL.CODE ((loc - 3) / 2))) (8 * ((loc - 3) % 2)) 8)
    else if loc = 0x13 then some ((List.range 8).foldl (fun m z => m + s.get (Reg.SNS_ZONE_LEVEL.PRESENT z) * 2 ^ z) 0) else none
  else none

/-- What WRITE MEMORY LOCATION writes: DTR1 names the bank, DTR0 the location; none where it is not writable. -/
def State.daliWritten (s : State) (v : Nat) : Option State :=
  let d := s.bus.dali
  let loc := d.dtr0
  if d.dtr1 = 1 then
    if loc = 2 then some (s.setDali { d with unlocked1 := v == 0x55 })
    else if d.unlocked1 ∧ 3 ≤ loc ∧ loc ≤ 0x10 then some (s.setDali { d with bank1 := setNth d.bank1 (loc - 3) v }) else none
  else if d.dtr1 = 2 then
    if loc = 2 then some (s.setDali { d with unlocked2 := v == 0x55 })
    else if !d.unlocked2 then none
    else if 3 ≤ loc ∧ loc ≤ 0x12 then some (s.setDali { d with patterns := setNth d.patterns (loc - 3) v })
    else if loc = 0x13 then some (s.set Reg.HST_DALI_STATUS.CURVE (v % 2))
    else if loc = 0x14 then some (s.setDali { d with powerPattern := v }) else none
  else if d.dtr1 = 3 ∧ loc = 2 then some (s.setDali { d with unlocked3 := v == 0x55 })
  else none

/-- WRITE MEMORY LOCATION, answered with the value written, or without a reply. -/
def State.daliWrite (s : State) (v : Nat) (reply : Bool) : State :=
  let d := s.bus.dali
  if !d.writeEnable then s
  else
    match s.daliWritten v with
    | none => s.setDali { d with backward := none }
    | some s' => s'.setDali { s'.bus.dali with dtr0 := min 255 (d.dtr0 + 1), backward := if reply then some v else none }

/-- Dimming steps in 200 ms, by FADE RATE. -/
def daliSteps (n : Nat) : Nat := [72, 72, 51, 36, 25, 18, 13, 9, 6, 4, 3, 2, 2, 1, 1, 1].getD n 9

/-- Commands to the gear that act at once (IEC 62386-102). -/
def State.daliAction (s : State) (c : Nat) : State :=
  let d := s.bus.dali
  let now := d.level s.now
  if 16 ≤ c ∧ c < 32 then s.daliScene (c - 16)
  else match c with
  | 0 => s.daliFade 0 0
  | 1 => if now = 0 then s else s.daliFade (d.limit (now + daliSteps d.fadeRate)) 200
  | 2 => if now = 0 then s else s.daliFade (d.limit (max 1 (now - daliSteps d.fadeRate))) 200
  | 3 => s.daliFade (if now = 0 then 0 else d.limit (now + 1)) 0
  | 4 => s.daliFade (if now = 0 then 0 else d.limit (max 1 (now - 1))) 0
  | 5 => s.daliFade d.maxLevel 0
  | 6 => s.daliFade d.minLevel 0
  | 7 => s.daliFade (if now ≤ d.minLevel then 0 else now - 1) 0
  | 8 => s.daliFade (if now = 0 then d.minLevel else d.limit (now + 1)) 0
  | 9 => s.setDali { d with dapcAt := some s.now }
  | 10 => s.daliFade (d.limit d.lastActive) d.fade
  | _ => s

/-- The level brought within MIN and MAX after one of them changed. -/
def State.daliWithin (s : State) : State :=
  let now := s.bus.dali.level s.now
  if now ≠ 0 ∧ s.bus.dali.limit now ≠ now then s.daliFade (s.bus.dali.limit now) 0 else s

/-- Configuration commands, executed when received twice within 100 ms (IEC 62386-102). -/
def State.daliConfigure (s : State) (c : Nat) : State :=
  let d := s.bus.dali
  let v := d.dtr0
  if 64 ≤ c ∧ c < 80 then s.setDali { d with scenes := setNth d.scenes (c - 64) v }
  else if 80 ≤ c ∧ c < 96 then s.setDali { d with scenes := setNth d.scenes (c - 80) 255 }
  else if 96 ≤ c ∧ c < 112 then s.setDali { d with groups := d.groups ||| 2 ^ (c - 96) }
  else if 112 ≤ c ∧ c < 128 then s.setDali { d with groups := d.groups - bits d.groups (c - 112) 1 * 2 ^ (c - 112) }
  else match c with
  | 32 =>
    let s := s.daliFade 254 0
    s.setDali { s.bus.dali with
      minLevel := 1, maxLevel := 254, powerOn := 254, sysFail := 254, fadeTime := 0, fadeRate := 7, extFade := 0, fastFade := 0
      scenes := List.replicate 16 255, groups := 0, random := 0xFFFFFF, search := 0xFFFFFF, limitError := false }
  | 33 => s.setDali { d with dtr0 := d.level s.now }
  | 36 =>
    if d.dtr0 = 1 ∧ d.unlocked1 then s.setDali { d with bank1 := List.replicate 14 255, unlocked1 := false }
    else if d.dtr0 = 2 ∧ d.unlocked2 then
      (s.setDali { d with patterns := List.replicate 16 255, powerPattern := 255, unlocked2 := false }).set Reg.HST_DALI_STATUS.CURVE 0
    else s
  | 42 => (s.setDali { d with maxLevel := max d.minLevel (min 254 v) }).daliWithin
  | 43 => (s.setDali { d with minLevel := max 1 (min d.maxLevel v) }).daliWithin
  | 44 => s.setDali { d with sysFail := v }
  | 45 => s.setDali { d with powerOn := v }
  | 46 => s.setDali { d with fadeTime := min 15 v }
  | 47 => s.setDali { d with fadeRate := max 1 (min 15 v) }
  | 48 => s.setDali { d with extFade := if v < 0x50 then v else 0 }
  | 128 => if v = 255 ∨ (v < 128 ∧ v % 2 = 1) then s.set Reg.HST_DALI_STATUS.SHORT_ADDR (if v = 255 then 127 else v / 2) else s
  | 129 => s.setDali { d with writeEnable := true }
  | _ => s

/-- The least fast fade time that the gear has (1 to 27). -/
def daliMinFast : Nat := 1 + daliFixed 512 % 27

/-- A configuration command of device type 6 (IEC 62386-207): the dimming curve and the fast fade time. -/
def State.daliType6 (s : State) (c : Nat) : State :=
  let v := s.bus.dali.dtr0
  match c with
  | 227 => if v < 2 then s.set Reg.HST_DALI_STATUS.CURVE v else s
  | 228 => s.setDali { s.bus.dali with fastFade := if v = 0 then 0 else min 27 (max daliMinFast v) }
  | _ => s

/-- The answer to a query of device type 6; the failure bits read 0 (Table 10-4). -/
def State.daliAnswer6 (s : State) (c : Nat) : Option Nat :=
  match c with
  | 237 => some (daliFixed 237)
  | 238 => some (s.get Reg.HST_DALI_STATUS.CURVE)
  | 239 => some (daliFixed 239)
  | 240 => some (daliFixed 240)
  | 241 => some 0
  | 252 => some (daliFixed 252 % 16 + 16 * s.get Reg.HST_DALI_STATUS.CURVE)
  | 253 => some s.bus.dali.fastFade
  | 254 => some daliMinFast
  | 255 => some (daliFixed 255)
  | _ => none

/-- Every variable of the standard stands at its reset value. -/
def Dali.resetState (d : Dali) : Bool :=
  d.minLevel == 1 && d.maxLevel == 254 && d.powerOn == 254 && d.sysFail == 254 && d.fadeTime == 0 && d.fadeRate == 7 && d.extFade == 0
    && d.fastFade == 0 && d.scenes == List.replicate 16 255 && d.groups == 0 && d.random == 0xFFFFFF && d.search == 0xFFFFFF

/-- The answer to a query, if one is sent (IEC 62386-102). -/
def State.daliAnswer (s : State) (c : Nat) : Option Nat :=
  let d := s.bus.dali
  let now := d.level s.now
  let yes := fun (b : Bool) => if b then some 255 else none
  let noAddress := s.get Reg.HST_DALI_STATUS.SHORT_ADDR == 127
  if 176 ≤ c ∧ c < 192 then some (d.scenes.getD (c - 176) 255)
  else match c with
  | 144 => some (4 * b2n (now != 0) + 8 * b2n d.limitError + 16 * b2n (d.target != now) + 32 * b2n d.resetState + 64 * b2n noAddress
      + 128 * b2n d.powerCycle)
  | 145 => some 255
  | 147 => yes (now != 0)
  | 148 => yes d.limitError
  | 149 => yes d.resetState
  | 150 => yes noAddress
  | 151 => some 8
  | 152 => some d.dtr0
  | 153 => some 6
  | 154 => some 1
  | 155 => yes d.powerCycle
  | 156 => some d.dtr1
  | 157 => some d.dtr2
  | 158 => some 0
  | 159 => some 6
  | 160 => some now
  | 161 => some d.maxLevel
  | 162 => some d.minLevel
  | 163 => some d.powerOn
  | 164 => some d.sysFail
  | 165 => some (d.fadeTime * 16 + d.fadeRate)
  | 168 => some d.extFade
  | 192 => some (d.groups % 256)
  | 193 => some (d.groups / 256 % 256)
  | 194 => some (d.random / 65536 % 256)
  | 195 => some (d.random / 256 % 256)
  | 196 => some (d.random % 256)
  | 197 => s.daliMemory d.dtr1 d.dtr0
  | _ => none

/-- A query answered with a backward frame; READ MEMORY LOCATION moves DTR0 on. -/
def State.daliQuery (s : State) (c : Nat) : State :=
  let d := s.bus.dali
  let next := if c = 197 ∧ (s.daliAnswer c).isSome then min 255 (d.dtr0 + 1) else d.dtr0
  s.setDali { d with backward := s.daliAnswer c, dtr0 := next }

/-- A command that must come twice within 100 ms: true at its second time. -/
def State.daliTwice (s : State) (addr c : Nat) : Bool × State :=
  match s.bus.dali.once with
  | some (a, c', t) =>
    if a = addr ∧ c' = c ∧ s.now ≤ t + ms 100 then (true, s.setDali { s.bus.dali with once := none })
    else (false, s.setDali { s.bus.dali with once := some (addr, c, s.now) })
  | none => (false, s.setDali { s.bus.dali with once := some (addr, c, s.now) })

/-- A command (not direct arc power) for this gear. Any but the queries of the DTRs ends the enabling of memory writes. -/
def State.daliCommand (s : State) (addr c : Nat) : State :=
  let d := s.bus.dali
  let s := s.setDali { d with
    deviceType := none, backward := none
    writeEnable := d.writeEnable && (c == 129 || c == 152 || c == 156 || c == 157) }
  if 224 ≤ c then
    if d.deviceType ≠ some 6 then s
    else if c < 237 then
      let x := s.daliTwice addr c
      if x.1 then x.2.daliType6 c else x.2
    else s.setDali { s.bus.dali with backward := s.daliAnswer6 c }
  else if 144 ≤ c then s.daliQuery c
  else if 32 ≤ c then
    let x := s.daliTwice addr c
    if x.1 then x.2.daliConfigure c else x.2
  else s.daliAction c

/-- initialisationState at an instant: it ends 15 min after INITIALISE. -/
def Dali.initNow (d : Dali) (now : Nat) : Nat := if now ≤ d.initAt + ms 900000 then d.initState else 0

/-- A special command: address byte and data byte (IEC 62386-102). -/
def State.daliSpecial (s : State) (a v : Nat) : State :=
  let d := s.bus.dali
  let s := s.setDali { d with
    backward := none, deviceType := none
    writeEnable := d.writeEnable && (a == 0xA3 || a == 0xC3 || a == 0xC5 || a == 0xC7 || a == 0xC9) }
  let d := s.bus.dali
  let here := s.get Reg.HST_DALI_STATUS.SHORT_ADDR
  let i := d.initNow s.now
  let found := i ≠ 0 ∧ d.random = d.search
  let seek := fun (n : Nat) => if i = 0 then s else s.setDali { d with search := n }
  match a with
  | 0xA1 => s.setDali { d with initState := 0 }
  | 0xA3 => s.setDali { d with dtr0 := v }
  | 0xA5 =>
    let x := s.daliTwice a v
    if x.1 ∧ (v = 0 ∨ (v = 255 ∧ here = 127) ∨ (v % 2 = 1 ∧ v / 2 = here)) then x.2.setDali { x.2.bus.dali with initState := 1, initAt := s.now }
    else x.2
  | 0xA7 =>
    let x := s.daliTwice a v
    if x.1 ∧ i ≠ 0 then (x.2.setDali { x.2.bus.dali with random := s.free % 0xFFFFFF }).drawn else x.2
  | 0xA9 => s.setDali { d with backward := if i = 1 ∧ d.random ≤ d.search then some 255 else none }
  | 0xAB => if i = 1 ∧ d.random = d.search then s.setDali { d with initState := 2 } else s
  | 0xB1 => seek (d.search % 65536 + v * 65536)
  | 0xB3 => seek (d.search / 65536 * 65536 + v * 256 + d.search % 256)
  | 0xB5 => seek (d.search / 256 * 256 + v)
  | 0xB7 => if found ∧ (v = 255 ∨ (v < 128 ∧ v % 2 = 1)) then s.set Reg.HST_DALI_STATUS.SHORT_ADDR (if v = 255 then 127 else v / 2) else s
  | 0xB9 => s.setDali { d with backward := if i ≠ 0 ∧ v % 2 = 1 ∧ v / 2 = here then some 255 else none }
  | 0xBB => s.setDali { d with backward := if found then some (if here = 127 then 255 else 2 * here + 1) else none }
  | 0xC1 => s.setDali { d with deviceType := some v }
  | 0xC3 => s.setDali { d with dtr1 := v }
  | 0xC5 => s.setDali { d with dtr2 := v }
  | 0xC7 => s.daliWrite v true
  | 0xC9 => s.daliWrite v false
  | _ => s

/-- The frame's address byte names this gear: its short address, one of its groups, or all. -/
def State.daliMine (s : State) (a : Nat) : Bool :=
  let x := a / 2
  if a < 128 then x == s.get Reg.HST_DALI_STATUS.SHORT_ADDR
  else if a < 160 then bit s.bus.dali.groups (x % 16)
  else if a < 252 then false
  else if a < 254 then s.get Reg.HST_DALI_STATUS.SHORT_ADDR == 127
  else true

/-- Direct arc power; a DAPC sequence that runs goes on. -/
def State.daliDapc (s : State) (n : Nat) : State :=
  let d := s.bus.dali
  let s' := s.daliArc n (d.arcFade s.now)
  s'.setDali { s'.bus.dali with
    dapcAt := match d.dapcAt with | some t => if s.now ≤ t + 20000000 then some s.now else none | none => none }

/-- A 16-bit forward frame executed (R311). -/
def State.daliForward (s : State) (addr data : Nat) : State :=
  if !s.daliServes then s
  else if 160 ≤ addr ∧ addr < 252 then (s.daliHeard).daliSpecial addr data
  else if !s.daliMine addr then s
  else if addr % 2 = 0 then (s.daliHeard).daliDapc data
  else (s.daliHeard).daliCommand addr data

/-- DALI_FORWARD_FRAME (R311): the two bytes of a 16-bit forward frame. -/
def execDaliForwardFrame (addr data : Nat) (s : State) : Host.Outcome State Fault Refusal := .next (s.daliForward addr data)

/-- DALI_GO_TO_SCENE (R313). -/
def execDaliGoToScene (scene : Nat) (s : State) : Host.Outcome State Fault Refusal :=
  if s.daliServes && decide (scene < 16) then .next (s.daliHeard.daliScene scene) else .next s

/-- DALI_ARC_POWER (R314). -/
def execDaliArcPower (level : Nat) (s : State) : Host.Outcome State Fault Refusal :=
  if s.daliServes && decide (level < 256) then .next (s.daliHeard.daliDapc level) else .next s

/-- DALI_QUERY (R311): opcode 144 to 197. -/
def execDaliQuery (query : Nat) (s : State) : Host.Outcome State Fault Refusal :=
  if s.daliServes then .next (s.daliHeard.daliQuery query) else .next s

/-- DALI_SYSTEM_FAILURE (R315): the bus held low for a time; 500 ms is none, 550 ms is one. -/
def execDaliSystemFailure (low : Nat) (s : State) : Host.Outcome State Fault Refusal :=
  let s := s.wait low
  if s.daliServes ∧ band 315 s.now (ms 500) (ms 550 + 1) low then
    let s := s.set Reg.HST_DALI_STATUS.SYS_FAIL 1
    if s.bus.dali.sysFail = 255 then .next s else .next (s.daliFade (s.bus.dali.limit s.bus.dali.sysFail) 0)
  else .next s

/-- L7 as the control gear configures it at start (R312). -/
def daliLayer (level : Nat) : Layer :=
  ⟨2, 3, 1, 7, 0, 2047, 0, 511, 512, 0, 0, 2048, 512, level, true, false⟩

/-- Both copies of L7 filled with 0xFF, L7 configured, the power-on level and pattern applied (R312, R315). -/
def State.daliStart (s : State) : State :=
  if !s.daliOn then s
  else
    let s := s.setDali { s.bus.dali with
      powerCycle := true, limitError := false, initState := 0, search := 0xFFFFFF, dtr0 := 0, dtr1 := 0, dtr2 := 0, writeEnable := false
      deviceType := none, once := none, backward := none, dapcAt := none, unlocked1 := false, unlocked2 := false, unlocked3 := false }
    let d := s.bus.dali
    let l := daliLayer 0
    let s := { s with sram := Memory.fill 0 s.sram (l.copyAt 0) (2 * l.copySize) (byte 0xFF) }
    let s := s.setWork { s.beam.work with layers := setNth s.beam.work.layers 7 l }
    let s := s.daliFade (d.limit (if d.powerOn = 255 then d.lastActive else d.powerOn)) 0
    let s := s.setDali { s.bus.dali with powerCycle := true }
    if d.powerPattern = 255 then s else s.daliSelect d.powerPattern 0

/-- The level of L7 follows the gear at each boundary, by a commit (R314). -/
def State.daliBoundary (s : State) : State :=
  if !s.daliOn ∨ !s.cpUp then s
  else
    let n := s.bus.dali.level s.now
    let v := daliLevel (s.flag Reg.HST_DALI_STATUS.CURVE) n
    let s := s.set Reg.HST_DALI_STATUS.ACTUAL n
    let l := s.beam.work.layer 7
    if l.level = v then s else (s.setWork { s.beam.work with layers := setNth s.beam.work.layers 7 { l with level := v } }).commitWork

/-! ### FK6160 legacy frames (R318 to R320) -/

def State.legacyOn (s : State) : Bool := s.busOn && s.flag Reg.HST_CTRL.SPI_EN && s.id.legacy

/-- Sixteen-bit words, big-endian. -/
def be16 (n : Nat) : List Byte := [byte (n / 256), byte n]

/-- The result of a legacy frame: STATUS, words, CRC-8 (R319). -/
def legacyResult (status : Nat) (words : List Nat) : List Byte :=
  let b := byte status :: words.flatMap be16
  b ++ [byte (crc8 b)]

/-- A legacy transaction shifts out the result of the frame before and leaves its own. -/
def State.legacyDone (s : State) (result : List Byte) : State :=
  s.setBus { s.bus with spiOut := s.bus.legacyResult, legacyResult := result }

/-- A legacy frame discarded (R318): STATUS 1 CRC, 2 unknown or length, 3 range. -/
def State.legacyBad (s : State) (status : Nat) : State :=
  (s.legacyDone (legacyResult status [])).bump Reg.HST_LEGACY_ERR_COUNT.COUNT Reg.HST_FLAGS.CNT_SAT

/-- A legacy frame (R318): CMD, ADDR, COUNT and DATA words, and its CRC-8. -/
def legacyFrame (cmd addr count : Nat) (data : List Nat) : List Byte :=
  let b := byte cmd :: (be16 addr ++ be16 count ++ data.flatMap be16)
  b ++ [byte (crc8 b)]

/-- A legacy frame that the MP acts on: WRITE_REG, which can ask for shutdown. -/
def legacyForMp (f : List Byte) : Bool := leAt f 0 1 == 3

/-- A legacy frame is answered busy while ring 5 is full (R319). Otherwise it enters that ring, from which the CP takes it: at once, unless
it does not run or earlier frames wait. -/
def State.legacyRun (s : State) (words : List Nat) (frame : List Byte) (act : State → State) : State :=
  if !s.legacyOn then s
  else if !s.ringRoom 5 then s.legacyDone (legacyResult 4 [])
  else
    let s := s.legacyDone (legacyResult 0 words)
    if s.cpUp && (s.mpUp || !legacyForMp frame) && (s.ring 5).isEmpty then act s else s.push 5 ⟨frame, 0, s.now⟩

/-- WRITE_SEG as the CP executes it (R211, R320): levels converted and written into the back copy of L1, unless its flip is pending. -/
def State.legacySegments (s : State) (first : Nat) (levels : List Nat) : State :=
  let vs := levels.mapIdx (fun i l => (first + i, l * 64 + l / 16))
  let put := fun (m : NMap) (p : Nat × Nat) => Assoc.insert m p.1 p.2
  let s := s.setBus { s.bus with legacyLevels := vs.foldl put s.bus.legacyLevels }
  if s.flag (Reg.CMP_LAYER_STATUS.FLIP_PENDING 1) then s
  else
    let a := (s.beam.work.layer 1).copyAt (1 - s.get (Reg.CMP_LAYER_STATUS.FRONT_COPY 1))
    let store := fun (m : Memory) (p : Nat × Nat) => Memory.writeN 0 m (a + 2 * p.1) (le 2 p.2)
    { s with sram := vs.foldl store s.sram }

/-- UPDATE as the CP executes it (R211): the update is committed with a flip of L1, or waits while that flip is pending. -/
def State.legacyUpdate (s : State) : State :=
  let u := s.bus.legacyLevels
  let s := s.setBus { s.bus with legacyLevels := [] }
  if s.flag (Reg.CMP_LAYER_STATUS.FLIP_PENDING 1) then
    let s := if s.lib.legacyWaiting.isSome then s.bump Reg.CMP_LEGACY_DROP_COUNT.COUNT Reg.CMP_STATUS.CNT_SAT else s
    s.setLib { s.lib with legacyWaiting := some u }
  else s.legacyCommit u

/-- LEGACY_WRITE_SEG (R318, R320). -/
def execLegacyWriteSeg (first : Nat) (levels : List Nat) (s : State) : Host.Outcome State Fault Refusal :=
  if s.legacyOn ∧ (levels.length = 0 ∨ 512 < levels.length ∨ 16384 < first + levels.length ∨ levels.any (fun l => decide (1023 < l))) then
    .next (s.legacyBad 3)
  else
    .next (s.legacyRun [] (legacyFrame 1 first levels.length levels) (fun s => s.legacySegments first levels))

/-- LEGACY_UPDATE (R211). -/
def execLegacyUpdate (s : State) : Host.Outcome State Fault Refusal := .next (s.legacyRun [] (legacyFrame 2 0 0 []) State.legacyUpdate)

/-- A legacy register as read (Table 10-7). -/
def State.legacyReg (s : State) (r : Nat) : Nat :=
  match r with
  | 0 => 0x8210
  | 1 => b2n s.conducts + 2 * b2n (!s.flt.uncleared.isEmpty) + 4 * b2n s.lockedOut + 8 * s.get Reg.STR_STATUS.LIMP_ENGAGED
      + 16 * b2n (s.flag (Reg.CMP_LAYER_STATUS.FLIP_PENDING 1) || s.lib.legacyWaiting.isSome)
  | 2 => if s.flag Reg.FLT_STATUS.FIRST_VALID then s.get Reg.FLT_FIRST_ID.SOURCE else 0
  | 3 => s.get Reg.TMP_HOT.THETA
  | _ => 0

/-- LEGACY_READ_REG (R320). -/
def execLegacyReadReg (first count : Nat) (s : State) : Host.Outcome State Fault Refusal :=
  if s.legacyOn ∧ (count = 0 ∨ 16 < count) then .next (s.legacyBad 3)
  else .next (s.legacyRun ((List.range count).map (fun i => s.legacyReg (first + i))) (legacyFrame 4 first count []) (fun s => s))

/-- LEGACY_STATUS (R319): collects the result of the frame before. Its own result carries the STATUS register's word. -/
def execLegacyStatus (s : State) : Host.Outcome State Fault Refusal := .next (s.legacyRun [s.legacyReg 1] (legacyFrame 5 0 0 []) (fun s => s))

/-- LEGACY_FRAME_INVALID (R318): 1 bad CRC, 2 unknown CMD or wrong length, 3 out of range. -/
def execLegacyFrameInvalid (status : Nat) (s : State) : Host.Outcome State Fault Refusal :=
  if s.legacyOn then .next (s.legacyBad (if 1 ≤ status ∧ status ≤ 3 then status else 2)) else .next s

/-- L1 of legacy mode at start (R211). -/
def State.legacyStart (s : State) : State :=
  if !s.id.legacy then s
  else
    let l : Layer := ⟨3, 0, 0, 1, 0, 2047, 0, 511, 0, 0, 0, 0, 0, 0, true, false⟩
    let blocks := defaultBlocks
    let sram := Memory.writeN 0 (Memory.writeN 0 s.sram (l.copyAt 0 + 32768) blocks) (l.copyAt 1 + 32768) blocks
    ({ s with sram := sram }).setWork { s.beam.work with layers := setNth s.beam.work.layers 1 l }

end Sys2Proof.Machine
end

