-- ==== Sys2Proof/Machine/Calib.lean ====
section
/-! DEFINITION. Emitter calibration, ageing and repair (04_emitter_calibration_and_repair): the calibration store, gains,
defect states, efficacy tables, calibration commits and their commands. -/

namespace Sys2Proof.Machine

def State.setCal (s : State) (c : Calib) : State := { s with cal := c }
def State.setDiag (s : State) (d : Diag) : State := { s with diag := d }
def State.setSns (s : State) (x : Sensing) : State := { s with sns := x }
def State.setTmp (s : State) (x : Thermal) : State := { s with tmp := x }

/-! ### Geometry (R6, Table 0-3, R104) -/

/-- The tile of a pixel, and its position in the tile's blocks. -/
def tileOf (i : Nat) : Nat := i / 2048 / 64 * 32 + i % 2048 / 64
def posOf (i : Nat) : Nat := 64 * (i / 2048 % 64) + i % 2048 % 64

/-- The pixel at position `q` of a tile. -/
def pixelOf (t q : Nat) : Nat := (t / 32 * 64 + q / 64) * 2048 + (t % 32 * 64 + q % 64)

/-- The pixels of a tile in order of position. -/
def tilePixels (t : Nat) : List Nat := (List.range 4096).map (pixelOf t)

/-- The tile of a string, and the string of a pixel. -/
def stringTile (n : Nat) : Nat := n / 256 / 64 * 32 + n % 256 / 8
def stringOf (i : Nat) : Nat := i / 8

/-- The pixels around a pixel. -/
def around (i : Nat) : List Nat :=
  let x := i % 2048
  let y := i / 2048
  let xs := [x - 1, x, x + 1].filter (fun c => decide (c < 2048))
  let ys := [y - 1, y, y + 1].filter (fun r => decide (r < 512))
  ((ys.flatMap (fun r => xs.map (fun c => r * 2048 + c))).filter (fun j => j != i)).eraseDups

/-! ### NVM: cells hold the exclusive-or of the byte and what its address reads as when nothing has written it -/

/-- What an NVM address reads as when nothing has written it: the default bin tables of Table 4-3, zero in the per-tile
blocks of the calibration store, 0xFF elsewhere (notes/assumptions/2.md). -/
def nvmBlank (a : Nat) : Nat :=
  if 0x20601000 ≤ a ∧ a < 0x20605000 then nth 0 [0x80, 0x80, 0x80, 0x50] (a % 4)
  else if 0x20608000 ≤ a ∧ a < 0x207C8000 then 0 else 0xFF

/-- A byte of the NVM. -/
def State.nvmByte (s : State) (a : Nat) : Nat := (Memory.read 0 s.nvm a).toNat ^^^ nvmBlank a

/-- Bytes written to the NVM. -/
def State.nvmStore (s : State) (a : Nat) (bs : List Nat) : State :=
  { s with nvm := Memory.store 0 s.nvm a (bs.mapIdx (fun i b => byte (b % 256 ^^^ nvmBlank (a + i)))) }

/-! ### Emitters (R103, R107, R108, R113) -/

/-- Bin code of an emitter (R104). -/
def State.binCode (s : State) (i : Nat) (spare : Bool) : Nat :=
  let b := s.nvmByte (0x206C8000 + 4096 * tileOf i + posOf i)
  if spare then b / 16 else b % 16

/-- Byte `k` of the bin table entry of an emitter (Table 4-1). -/
def State.binByte (s : State) (i : Nat) (spare : Bool) (k : Nat) : Nat :=
  s.nvmByte (0x20601000 + 64 * tileOf i + 4 * s.binCode i spare + k)

/-- Ageing code of a site in the calibration store. -/
def State.ageCode (s : State) (i : Nat) : Nat :=
  let b := s.nvmByte (0x20648000 + 2048 * tileOf i + posOf i / 2)
  if posOf i % 2 = 0 then b % 16 else b / 16

/-- Ageing code of a site in force: 0 once diagnosis has moved it to its spare (R118), the new code of a landed commit whose blocks are
still being written, else the store's. -/
def State.siteAge (s : State) (i : Nat) : Nat :=
  if s.cal.moved.contains i then 0
  else ((s.cal.writing.bind (fun c => c.ages.find i))).getD (s.ageCode i)

/-- round(40,960 / f') - 256 before clamping, f' = f × (1 - 0.015 × a) (R108); 256 where there is no flux. -/
def gainRaw (f a : Nat) : Int :=
  let d := f * (1000 - 15 * a)
  if d = 0 then 256 else (((2 * 40960000 + d) / (2 * d) : Nat) : Int) - 256

/-- The gain code of R108. -/
def gainCode (f a : Nat) : Nat := (min (max (gainRaw f a) 0) 255).toNat

/-- The raise of R119: min(255, round((g + 256) × 1.12) - 256), and whether it was clipped. -/
def conceal (g : Nat) : Nat × Bool :=
  let v := ((g + 256) * 112 * 2 + 100) / 200 - 256
  (min 255 v, decide (255 < v))

/-- Diagnosis has found the emitter open, shorted or bridged, or its shunt stuck (R113). -/
def State.foundBad (s : State) (i : Nat) (spare : Bool) : Bool :=
  s.cal.events.any (fun e => e.site == i && e.kind != 0 && (e.kind == 3 || e.reason == 4 || e.spare == spare))

/-- An emitter is unusable at ageing code `a` (R113). -/
def State.unusable (s : State) (i : Nat) (spare : Bool) (a : Nat) : Bool :=
  s.binCode i spare == 15 || s.foundBad i spare || decide (s.binByte i spare 1 * (1000 - 15 * a) < 64000)

/-- An emitter is degraded (R113). -/
def State.degraded (s : State) (i : Nat) (spare : Bool) (a : Nat) : Bool :=
  !s.unusable i spare a && [0, 1, 2].any (fun k => decide (255 < gainRaw (s.binByte i spare k) a))

/-- An emitter's chromaticity bin is in CAL_WINDOW. -/
def State.inWindow (s : State) (i : Nat) (spare : Bool) : Bool := bit (s.get Reg.CAL_WINDOW.MASK) (s.binByte i spare 3 % 16)

/-! ### Tables in SRAM (R111) -/

/-- The front copy of a tile. -/
def State.front (s : State) (t : Nat) : Nat := b2n (bit (s.get (Reg.CAL_TILE_COPY.MAP (t / 32))) (t % 32))

def gainBase (copy set : Nat) : Nat := (if copy = 0 then 0x00900000 else 0x016C0000) + set * 0x00100000
def defectBase (copy : Nat) : Nat := if copy = 0 then 0x01600000 else 0x019C0000

/-- What a byte of SRAM reads as when nothing has written it: unity gain (code 64, Table 4-3) in the gain sets, 0 elsewhere. The
cells hold the exclusive-or of the byte and it (notes/assumptions/66.md). -/
def sramBlank (a : Nat) : Nat := if (0x00900000 ≤ a ∧ a < 0x00C00000) ∨ (0x016C0000 ≤ a ∧ a < 0x019C0000) then 64 else 0

/-- A byte of SRAM, and a run of them. -/
def State.sramByte (s : State) (a : Nat) : Byte := Memory.read 0 s.sram a ^^^ byte (sramBlank a)
def State.sramRun (s : State) (a n : Nat) : List Byte := (Memory.readN 0 s.sram a n).mapIdx (fun i b => b ^^^ byte (sramBlank (a + i)))

/-- Gain codes as the cells of a gain set hold them. -/
def gainCells (g : List Nat) : List Byte := g.map (fun x => byte (x ^^^ 64))

/-- Gain code of a pixel. -/
def State.gain (s : State) (copy set i : Nat) : Nat := (s.sramByte (gainBase copy set + i)).toNat

/-- Defect state of a site in a copy (Table 4-4). -/
def State.defect (s : State) (copy i : Nat) : Nat := bits (Memory.read 0 s.sram (defectBase copy + i / 4)).toNat (2 * (i % 4)) 2

/-- Defect state of a site in its front copy. -/
def State.siteState (s : State) (i : Nat) : Nat := s.defect (s.front (tileOf i)) i

/-- A byte with the two bits of a site replaced. -/
def withState (b i st : Nat) : Nat := b - bits b (2 * (i % 4)) 2 * 2 ^ (2 * (i % 4)) + st * 2 ^ (2 * (i % 4))

/-- A site's state written in a copy. -/
def State.setDefect (s : State) (copy i st : Nat) : State :=
  let a := defectBase copy + i / 4
  { s with sram := Memory.write 0 s.sram a (byte (withState (Memory.read 0 s.sram a).toNat i st)) }

/-- A string is in the map-out mask (R146). -/
def State.mapped (s : State) (n : Nat) : Bool := bit (Memory.read 0 s.sram (0x01C30000 + n / 8)).toNat (n % 8)

/-- A string's bit of the mask; DIAG_STROUT_COUNT follows. -/
def State.setMapped (s : State) (n : Nat) (on : Bool) : State :=
  if s.mapped n = on then s
  else
    let a := 0x01C30000 + n / 8
    let b := (Memory.read 0 s.sram a).toNat
    let s := { s with sram := Memory.write 0 s.sram a (byte (b ^^^ 2 ^ (n % 8))) }
    let c := s.get Reg.DIAG_STROUT_COUNT.COUNT
    s.set Reg.DIAG_STROUT_COUNT.COUNT (if on then c + 1 else c - 1)

/-- The limp plane lights the string of a site, through the slot too (R96, R98). -/
def State.limpLit (s : State) (n : Nat) : Bool :=
  s.flag Reg.STR_STATUS.LIMP_ENGAGED && Block.limpBin s.ksBlock (n % 256) (n / 256 / 8)

/-- SEL and BYP latches of a site follow its state (Table 4-4, R73); while its string conducts through the slot they wait (R74, R98). -/
def State.latchSite (s : State) (i st : Nat) : State :=
  if s.limpLit (stringOf i) then s.setScan { s.scan with late := (i :: s.scan.late).eraseDups }
  else
    s.setScan { s.scan with
      sel := Assoc.set 0 s.scan.sel i (b2n (st == 2)), byp := Assoc.set 0 s.scan.byp i (b2n (st == 3)), late := s.scan.late.erase i }

/-- Latches that had to wait follow their sites in the first slot in which their string does not conduct (R74). -/
def State.latchLate (s : State) : State := s.scan.late.foldl (fun s i => s.latchSite i (s.siteState i)) s

/-- The sites that are not in PRIMARY, by front copies: those of the listed cells of the defect state areas. -/
def State.offSites (s : State) : List Nat :=
  let cells := fun (c : Nat) => (s.sram.filter (fun p => decide (defectBase c ≤ p.1 ∧ p.1 < defectBase c + 262144))).flatMap
    (fun p => ((List.range 4).map (fun k => 4 * (p.1 - defectBase c) + k)).filter (fun i => s.front (tileOf i) == c && s.defect c i != 0))
  cells 0 ++ cells 1

/-- Sites in SPARE (2) or DARK (3), by front copies. -/
def State.countState (s : State) (st : Nat) : Nat := (s.offSites.filter (fun i => s.siteState i == st)).length


/-! ### Calibration apply (R109, R110, R343) -/

/-- The calibrated target of R110 from the gain codes of the two sets, at a tile temperature. -/
def applyGain (theta : Int) (g : Nat → Nat) (y : Nat) : Nat :=
  let lo := if theta ≤ 450 then 0 else 1
  let tlo : Int := if theta ≤ 450 then -200 else 450
  let thi : Int := if theta ≤ 450 then 450 else 1100
  let th := min (max theta (-200)) 1100
  let w : Int := ((th - tlo) * 256) / (thi - tlo)
  let gi : Int := (g lo : Int) * 256 + ((g (lo + 1) : Int) - (g lo : Int)) * w
  min ((y * (gi.toNat + 65536) + 40960) / 81920) 65535

/-- The latched temperature of a tile (R109). -/
def State.theta (s : State) (t : Nat) : Int := toSigned 16 (Assoc.get 0 s.cal.latched t)

/-- The pending calibration commit is in force for the coming boundary (R24). -/
def State.calLands (s : State) : Option CalCommit :=
  match s.cal.pending with
  | none => none
  | some c => if !s.scanHeld && landsSecond c.at_ s.nextBoundary then some c else none

/-- The copy of a tile from which the frame for the coming boundary is loaded. -/
def State.copyFor (s : State) (t : Nat) : Nat :=
  match s.calLands with
  | some c => if c.tiles.contains t then 1 - s.front t else s.front t
  | none => s.front t

/-- Calibrated targets of a row for the coming boundary (R110, R343), from the row's composed output; zero stays zero. -/
def State.rowTargets (s : State) (y : Nat) (vs : List Nat) : List Nat :=
  let m := s.sram.filter (fun p => [0, 1].any (fun c => decide (gainBase c 0 ≤ p.1 ∧ (p.1 - gainBase c 0) / 2048 % 512 = y)))
  let share := s.share
  (List.range 32).flatMap (fun k =>
    let i := 2048 * y + 64 * k
    let t := tileOf i
    let theta := s.theta t
    let copy := s.copyFor t
    let v := { s with sram := m }
    ((vs.drop (64 * k)).take 64).mapIdx (fun x y =>
      if y = 0 then 0 else (applyGain theta (fun n => v.gain copy n (i + x)) y * share + 2048) / 4096))

/-! ### Class efficacy tables (R83, R84, R124) -/

/-- round(A × 2^(k / d)) for A = num / den and a negative or positive exponent k / d: the greatest v with
(2v - 1) × den ≤ 2 × num × 2^(k / d). -/
def roundPow (num den d : Nat) (k : Int) (digits : Nat) : Nat :=
  let up := k.toNat
  let down := (-k).toNat
  bisect (fun v => v == 0 || decide (((2 * v - 1) * den) ^ d * 2 ^ down ≤ (2 * num) ^ d * 2 ^ up)) digits 0

/-- The thermal factor H at a temperature, in units of 1/32,768/256 (R124, interpolated as in R110). -/
def Calib.factor (c : Calib) (theta : Int) : Nat :=
  let lo := if theta ≤ 450 then c.heat.1 else c.heat.2.1
  let hi := if theta ≤ 450 then c.heat.2.1 else c.heat.2.2
  let tlo : Int := if theta ≤ 450 then -200 else 450
  let thi : Int := if theta ≤ 450 then 450 else 1100
  let w : Int := ((min (max theta (-200)) 1100 - tlo) * 256) / (thi - tlo)
  ((lo : Int) * 256 + ((hi : Int) - (lo : Int)) * w).toNat

/-- Wt[c] of R124. -/
def Calib.efficacy (c : Calib) (theta : Int) (k : Nat) : Nat :=
  roundPow (256 * c.yref * nth 32768 c.droop k * c.factor theta) (32768 * 32768 * 256) 8 ((k : Int) - 63) 32

/-- The table of a tile, entries 1 to 63. -/
def Calib.table (c : Calib) (theta : Int) : List Nat := (List.range 63).map (fun k => c.efficacy theta (k + 1))

/-- R84: a table is refused. -/
def tableBad (w : List Nat) : Bool := decide (w.headD 0 < 256) || (w.zip w.tail).any (fun p => decide (p.2 ≤ p.1))

/-- Wt[c] of a string's tile for the coming boundary (R81). -/
def State.eff (s : State) (t c : Nat) : Nat :=
  match s.calLands with
  | some p => if p.effTheta.any (fun x => x.1 == t) then Assoc.get 0 p.eff (64 * t + c) else Assoc.get 0 s.scan.effFront (64 * t + c)
  | none => Assoc.get 0 s.scan.effFront (64 * t + c)

/-! ### Ageing (R117, R118) -/

/-- K[c] of R67: 0, and round(65,535 × 2^((c - 63) / 8)). -/
def kOf (c : Nat) : Nat := if c = 0 then 0 else roundPow 65535 1 8 ((c : Int) - 63) 16

/-- The factor 2^((θ - 85 °C) / 12 °C) applied to a number, rounded down (R117). -/
def weighted (n : Nat) (theta : Int) : Nat :=
  let k : Int := theta - 850
  bisect (fun v => decide (v ^ 120 * 2 ^ (-k).toNat ≤ n ^ 120 * 2 ^ k.toNat)) 64 0

/-- Equivalent hours of a tile in 10^-12 h from its accumulator, with the light-frame period (R117). -/
def etGain (acc period : Nat) (theta : Int) : Nat :=
  weighted (acc * period * 10 ^ 12 / (4096 * 4095 * 65535 * 360000000000)) theta

/-- The tile ageing code round(Lt / 1.5 %) with Lt = 2.0 % × Et / 1,000 h (R117). -/
def tileAge (et : Nat) : Nat := (2 * et + 750 * 10 ^ 12) / (2 * 750 * 10 ^ 12)

/-- Median of a list of integers; of an even number the upper of the two in the middle (DESIGN CHOICE, notes/assumptions/72.md). -/
def median (l : List Int) : Int :=
  let m := l.mergeSort (fun a b => decide (a ≤ b))
  m.getD (m.length / 2) 0

/-- Forward-voltage shift of a site against its VF bin, of a reading of the emitter in use within 24 h of on-time (R118). -/
def State.vfShift (s : State) (i : Nat) : Option Int :=
  match s.cal.vf.find i with
  | none => none
  | some r =>
    if r.at_ + 86400000 < s.onMs ∨ r.spare ≠ (s.siteState i == 2) then none
    else some (Config.vfCorrected (1500 + 10 * r.vf) r.cls (toSigned 16 r.theta) - (2600 + 20 * (s.binByte i r.spare 3 / 16 : Nat)))

/-- The new ageing code of a site in use (R118). -/
def State.newAge (s : State) (i : Nat) : Nat :=
  let t := tileOf i
  let mid := median ((tilePixels t).filterMap (fun j => if s.siteState j = 3 then none else s.vfShift j))
  let dv : Int := match s.vfShift i with
    | none => 0
    | some v => v - mid
  let pct : Rat := ((Assoc.get 0 s.cal.et t : Nat) : Rat) / (500 * 10 ^ 12) + (dv : Rat) * 4 / 100
  let a := (pct * 2 / 3 + 1 / 2).floor
  min 15 (max (s.siteAge i) a.toNat)

/-! ### Decisions of a run (R114, R115) -/

/-- R114: the choice of MANUFACTURE. The flux it derates is that of new emitters, ageing code 0 (DESIGN CHOICE, notes/assumptions/72.md). -/
def State.factoryState (s : State) (i : Nat) : Nat :=
  let p := !s.unusable i false 0
  let q := !s.unusable i true 0
  let off := fun e => let f := s.binByte i e 1; if f ≤ 128 then 128 - f else f - 128
  let prim := if q then 0 else 1
  let pw := p && s.inWindow i false
  let qw := q && s.inWindow i true
  if pw && qw then (if off true < off false then 2 else prim)
  else if pw then prim
  else if qw then 2
  else if p then prim
  else if q then 2
  else 3

/-- The ageing code of a site's emitter in use as a run of a mode sets it (R118). -/
def State.runAge (s : State) (mode i : Nat) : Nat :=
  if bit mode 0 ∧ s.siteState i ≠ 3 ∧ !s.cal.moved.contains i then s.newAge i else s.siteAge i

/-- State and ageing code of a site after a run: what diagnosis changed since the run began stands (R125); with FACTORY the choice of R114;
else the directions of R115, in MANUFACTURE too (DESIGN CHOICE, notes/assumptions/72.md). -/
def State.runSite (s : State) (r : CalRun) (i : Nat) : Nat × Nat :=
  let st := s.siteState i
  let mode := r.mode
  let a := s.runAge mode i
  if r.found.contains i then (st, a)
  else if bit mode 3 then
    let n := s.factoryState i
    (n, if n = 2 ∧ st ≠ 2 then 0 else a)
  else
    match st with
    | 0 =>
      if s.unusable i false a then (if s.unusable i true 0 then (3, a) else (2, 0))
      else if s.unusable i true 0 then (1, a)
      else if bit mode 1 && s.degraded i false a && s.inWindow i true && !s.degraded i true 0 then (2, 0)
      else (0, a)
    | 1 => (if s.unusable i false a then 3 else 1, a)
    | 2 => (if s.unusable i true a then 3 else 2, a)
    | _ => (3, a)

/-- The reason that the defect event list gives for an emitter left by a run, at its ageing code (Table 4-8): wafer reject, what diagnosis
found, flux low, degraded, or choice. -/
def State.leftFor (s : State) (i : Nat) (spare : Bool) (a : Nat) : Nat :=
  if s.binCode i spare = 15 then 1
  else
    match s.cal.events.find? (fun e => e.site == i && e.kind != 0 && (e.kind == 3 || e.reason == 4 || e.spare == spare)) with
    | some e => e.reason
    | none => if s.unusable i spare a then 7 else if s.degraded i spare a then 6 else 0

/-- The entry that a run's change of a site makes in the defect event list: of the emitter it leaves, or of the spare that became unusable
(R131; DESIGN CHOICE, notes/assumptions/72.md). It stands for no finding: its kind is 0. -/
def State.runEvent (s : State) (mode i st' : Nat) : DefectEvent :=
  let spare := st' == 1 || (st' == 3 && s.siteState i == 2)
  ⟨i, 0, spare, if st' = 0 then 0 else s.leftFor i spare (if spare == (s.siteState i == 2) then s.runAge mode i else 0)⟩

/-- An event in the defect event list, which holds 16,384 (R131). LIST_FULL sets at the first event not recorded (DESIGN CHOICE,
notes/assumptions/72.md). -/
def State.record (s : State) (e : DefectEvent) : State :=
  if s.cal.events.length < 16384 then s.setCal { s.cal with events := e :: s.cal.events } else s.set Reg.CAL_STATUS.LIST_FULL 1

/-! ### Calibration commits (R123) -/

/-- The state of a site after a commit. -/
def State.stateIn (s : State) (states : Assoc Nat) (i : Nat) : Nat := (states.find i).getD (s.siteState i)

/-- The gain codes of a site at the three temperatures, with the concealment raise, and the codes it clipped (R108, R119). -/
def State.siteGains (s : State) (states ages : Assoc Nat) (i : Nat) : List Nat × Nat :=
  let st := s.stateIn states i
  let c := s.front (tileOf i)
  if st = 3 then ([s.gain c 0 i, s.gain c 1 i, s.gain c 2 i], 0)
  else
    let a := (ages.find i).getD (s.siteAge i)
    let gs := [0, 1, 2].map (fun k => gainCode (s.binByte i (st == 2) k) a)
    if (around i).any (fun j => s.stateIn states j == 3) then
      let cs := gs.map conceal
      (cs.map (·.1), (cs.filter (·.2)).length)
    else (gs, 0)

/-- One tile written to its copy that is not front. -/
def State.writeTile (s : State) (states ages : Assoc Nat) (t : Nat) : State :=
  let c := 1 - s.front t
  let rows := (List.range 64).map (fun r => (List.range 64).map (fun x => pixelOf t (64 * r + x)))
  rows.foldl (fun s' row =>
    let i := row.headD 0
    let g := row.map (fun j => (s.siteGains states ages j).1)
    let st := (List.range 16).map (fun k => byte ((List.range 4).foldl (fun v j => v + s.stateIn states (i + 4 * k + j) * 4 ^ j) 0))
    let m := [0, 1, 2].foldl (fun m n => Memory.store 0 m (gainBase c n + i) (gainCells (g.map (fun l => nth 0 l n)))) s'.sram
    { s' with sram := Memory.store 0 m (defectBase c + i / 4) st }) s

/-- The gain codes of a tile that concealment clips (R119). -/
def State.tileClips (s : State) (states ages : Assoc Nat) (t : Nat) : Nat :=
  (tilePixels t).foldl (fun n i => n + (s.siteGains states ages i).2) 0

/-- Emitters in use that are degraded, and those outside the window. -/
def State.weakSites (s : State) : Nat :=
  ((List.range 1048576).filter (fun i => s.siteState i != 3 && s.degraded i (s.siteState i == 2) (s.siteAge i))).length
def State.chromaSites (s : State) : Nat :=
  ((List.range 1048576).filter (fun i => s.siteState i != 3 && !s.inWindow i (s.siteState i == 2))).length

/-- The calibration event (Table 9-4). -/
def State.calEvent (s : State) : State :=
  s.event 0xF013 ([byte (s.get Reg.CAL_STATUS.LAST_RESULT), byte 0, byte 0, byte 0] ++ le 4 (s.get Reg.CAL_COUNT.COUNT) ++ le 8 s.time)

/-- A run ends without completing. -/
def State.endRun (s : State) (result : Nat) : State :=
  ((s.setCal { s.cal with run := none }).setAll [(Reg.CAL_STATUS.STATE, 0), (Reg.CAL_STATUS.LAST_RESULT, result)]).calEvent

/-- The MP commits tiles: new states and ageing codes, gains, efficacy tables for the published estimates of the tiles in `effs`,
reference choices; with them go the tiles that diagnosis changed (R116), those of sites whose neighbour turns dark (R119), the reference
moves (R121) and the changes of the map-out mask (R25) that wait. A commit with a bad table is refused whole (R84). -/
def State.calCommit (s : State) (run : Bool) (tiles effs : List Nat) (states ages refs : Assoc Nat) (events : List DefectEvent) : State :=
  let ages := s.cal.moved.map (fun i => (i, 0)) ++ ages
  let refs := refs ++ s.cal.refMove
  let edges := states.flatMap (fun p => if (p.2 == 3) != (s.siteState p.1 == 3) then (around p.1).map tileOf else [])
  let tiles := (tiles ++ edges ++ s.cal.followTiles ++ refs.map (·.1)).eraseDups
  let tables := effs.map (fun t => (t, s.get (Reg.TMP_TILE.THETA t), s.cal.table (toSigned 16 (s.get (Reg.TMP_TILE.THETA t)))))
  match tables.find? (fun x => tableBad x.2.2) with
  | some x =>
    let s := s.fault Src.strEffRefused x.1 2 4
    let s := s.setCal { s.cal with refused := tables.foldl (fun m y => m.insert y.1 y.2.1) s.cal.refused }
    if run then s.endRun 3 else s
  | none =>
    let c : CalCommit := { at_ := s.now, tiles := tiles
                           eff := tables.flatMap (fun x => x.2.2.mapIdx (fun k w => (64 * x.1 + k + 1, w)))
                           effTheta := tables.map (fun x => (x.1, x.2.1)), refs := refs, masked := s.cal.bistMask
                           states := states, ages := ages, run := run, events := events
                           clips := tiles.map (fun t => (t, s.tileClips states ages t)) }
    let s' := tiles.foldl (fun s' t => { s' with sram := (State.writeTile { s with sram := s'.sram } states ages t).sram }) s
    let s' := s'.setCal { s.cal with
      pending := some c, refMove := [], bistMask := [], followTiles := [], moved := [], followAt := none
      run := if run then none else s.cal.run }
    if run then s'.set Reg.CAL_STATUS.STATE 2 else s'

/-- Changes of the map-out mask, and releases of bins, are committed by the MP once no commit waits (R25, R123, R492). -/
def State.maskCommit (s : State) : State :=
  if (s.cal.bistMask.isEmpty && !s.bst.released.any (fun m => m.1 == 2)) ∨ s.cal.pending.isSome ∨ !s.mpUp then s else s.calCommit false [] [] [] [] [] []

/-- The counts of sites by their front copies (Table 4-13). -/
def State.countSites (s : State) : State :=
  s.setAll [(Reg.CAL_SPARE_COUNT.COUNT, s.countState 2), (Reg.CAL_DARK_COUNT.COUNT, s.countState 3), (Reg.CAL_WEAK_COUNT.COUNT, s.weakSites),
    (Reg.CAL_CHROMA_OUT_COUNT.COUNT, s.chromaSites), (Reg.CAL_CONCEAL_COUNT.COUNT, s.cal.clips.foldl (fun n p => n + p.2) 0)]

/-! ### Defect limits (R120, Table 4-5) -/

/-- DARK sites, by front copies. -/
def State.darkSites (s : State) : List Nat := s.offSites.filter (fun i => s.siteState i == 3)

/-- A site lies in the central zone. -/
def State.inZone (s : State) (i : Nat) : Bool :=
  decide (s.get Reg.CAL_ZONE_COL.FIRST ≤ i % 2048 ∧ i % 2048 ≤ s.get Reg.CAL_ZONE_COL.LAST
    ∧ s.get Reg.CAL_ZONE_ROW.FIRST ≤ i / 2048 ∧ i / 2048 ≤ s.get Reg.CAL_ZONE_ROW.LAST)

/-- DARK neighbours of a site. -/
def darkAround (dark : List Nat) (i : Nat) : Nat := ((around i).filter (fun j => dark.contains j)).length

/-- Rows 2 to 4 of Table 4-5 that the field limits show exceeded. -/
def State.limitRows (s : State) : List Nat :=
  let dark := s.darkSites
  let zone := dark.filter s.inZone
  let rest := dark.filter (fun i => !s.inZone i)
  let bin := fun i => i / 2048 / 8 * 256 + i % 2048 / 8
  (if 512 < dark.length then [2] else [])
    ++ (if decide (8 < zone.length) || zone.any (fun i => darkAround dark i != 0) then [3] else [])
    ++ (if rest.any (fun i => decide (2 < darkAround dark i)) || rest.any (fun i => decide (4 < (rest.filter (fun j => bin j == bin i)).length)) then [4] else [])

/-- The shipping limits are met. -/
def State.shipOk (s : State) : Bool :=
  let dark := s.darkSites
  decide (s.get Reg.CAL_SPARE_COUNT.COUNT ≤ 2048 ∧ dark.length ≤ 32) && !dark.any s.inZone && dark.all (fun i => darkAround dark i == 0)

/-- The limits are looked at after every change of states: a row first exceeded raises CAL_DEFECT_LIMIT. Rows once exceeded stay known
through every reset (DESIGN CHOICE, notes/assumptions/72.md). -/
def State.checkLimits (s : State) : State :=
  let s := s.set Reg.CAL_STATUS.SHIP_OK (b2n s.shipOk)
  (s.limitRows.filter (fun r => !s.cal.exceeded.contains r)).foldl (fun s r =>
    ((s.setCal { s.cal with exceeded := r :: s.cal.exceeded }).set Reg.CAL_STATUS.FIELD_LIMIT 1).fault Src.calDefectLimit r 2 4) s

/-! ### Landing (R24, R74, R123) -/

/-- Two commits whose blocks are written one after the other. -/
def CalCommit.join (a : Option CalCommit) (b : CalCommit) : CalCommit :=
  match a with
  | none => b
  | some a => { b with tiles := (a.tiles ++ b.tiles).eraseDups, ages := b.ages ++ a.ages, run := a.run || b.run }

/-- Reference choices set in CAL_REF_SEL. -/
def State.setRef (s : State) (t r : Nat) : State :=
  let f := Reg.CAL_REF_SEL.SEL (t / 16)
  let v := s.get f
  s.set f (v - bits v (2 * (t % 16)) 2 * 2 ^ (2 * (t % 16)) + r * 2 ^ (2 * (t % 16)))

/-- The pending commit lands (R24, R74, R123): front copies flip, tables, references and latches change. -/
def State.landCal (s : State) : State :=
  match s.calLands with
  | none => s
  | some c =>
    let s := c.tiles.foldl (fun s t => let f := Reg.CAL_TILE_COPY.MAP (t / 32); s.set f (s.get f ^^^ 2 ^ (t % 32))) s
    let s := s.setScan { s.scan with effFront := c.eff.foldl (fun m p => Assoc.set 0 m p.1 p.2) s.scan.effFront }
    let s := c.refs.foldl (fun s p => s.setRef p.1 p.2) s
    let s := { s with bst := { s.bst with released := s.bst.released.filter (fun m => m.1 != 2) } }
    let s := c.masked.foldl (fun s n => s.setMapped n.1 n.2) s
    let s := c.states.foldl (fun s p => s.latchSite p.1 (s.siteState p.1)) s
    let s := s.setCal { s.cal with
      pending := none, writing := some (CalCommit.join s.cal.writing c)
      effTheta := c.effTheta.foldl (fun m p => Assoc.set 0 m p.1 p.2) s.cal.effTheta
      refused := s.cal.refused.filter (fun (p : Nat × Nat) => !c.effTheta.any (fun q => q.1 == p.1))
      clips := c.clips.foldl (fun m p => Assoc.set 0 m p.1 p.2) s.cal.clips }
    let s := (c.events.foldl State.record s).countSites.checkLimits
    (if c.run then s.set Reg.CAL_STATUS.STATE 3 else s).maskCommit

/-! ### SRAM row sparing (R122) -/

/-- A row is mapped to a spare row of its bank; the ninth candidate of a bank finds none left, raises SPARE_ROWS_OUT and sets its bit
(DESIGN CHOICE, notes/assumptions/72.md). -/
def State.spareRow (s : State) (addr : Nat) : State :=
  let row := addr / 1024
  let bank := addr / 2 ^ 20
  if s.cal.rowMap.contains row then s
  else if (s.cal.rowMap.filter (fun r => r / 1024 == bank)).length < 8 then
    (s.setCal { s.cal with rowMap := row :: s.cal.rowMap }).set Reg.CAL_SRAM_SPARE.USED (s.get Reg.CAL_SRAM_SPARE.USED + 1)
  else (s.set Reg.CAL_STATUS.SPARE_ROWS_OUT 1).fault Src.spareRowsOut bank 2 4

/-- The mappings of a bank take effect as it powers up from off. -/
def State.rowsUp (s : State) (bank : Nat) : State :=
  s.setCal { s.cal with rowsIn := (s.cal.rowMap.filter (fun r => r / 1024 == bank) ++ s.cal.rowsIn).eraseDups }

/-- Corrected errors seen in a row by a CHK0 scan: the second such scan within 24 h maps the row. -/
def State.correctedRow (s : State) (row : Nat) : State :=
  let again := match s.cal.corrected.find row with
    | some t => decide (s.time ≤ t + 86400000000)
    | none => false
  let s := s.setCal { s.cal with corrected := s.cal.corrected.insert row s.time }
  if again then s.spareRow (1024 * row) else s

/-! ### The commands and steps -/

/-- CAL_RUN accepted, or the automatic run of R128: the run starts. -/
def State.startRun (s : State) (mode : Nat) (tiles : List Nat) : State :=
  (s.setCal { s.cal with run := some ⟨mode, tiles, s.now, []⟩ }).set Reg.CAL_STATUS.STATE 1

/-- A run is in progress: computing, waiting or writing. -/
def State.calBusy (s : State) : Bool := s.get Reg.CAL_STATUS.STATE != 0

/-- 0x0800 CAL_RUN (R129). -/
def runCalRun (r : Req) (s : State) : Answer :=
  let p := r.params
  let mode := leAt p 0 1
  let tiles := (List.range 256).filter (fun t => bit (leAt p (2 + t / 8) 1) (t % 8))
  if s.id.lifecycle = .blank ∨ s.id.lifecycle = .returned ∨ (bit mode 3 ∧ s.id.lifecycle ≠ .manufacture) then refuse s Status.notPermitted
  else if (s.power ≠ 1 ∧ s.power ≠ 2) ∨ s.pwr.entry.isSome then refuse s Status.badState
  else if s.calBusy then refuse s Status.busy
  else if mode = 0 ∨ 16 ≤ mode ∨ leAt p 1 1 ≠ 0 ∨ tiles = [] then refuse s Status.badParam
  else pend (s.startRun mode tiles)

def opCalRun : Op := ⟨0x0800, exactly 34, runCalRun⟩
def execCalRun (r : Req) (s : State) : Host.Outcome State Fault Refusal := .next (s.command opCalRun r)

/-- The reference choices a run with REFERENCES makes in MANUFACTURE: that nearest nominal by the last ABIST reference check (R121). In
other life-cycle states REFERENCES adds nothing to the moves of R121, which any commit makes (DESIGN CHOICE, notes/assumptions/72.md). -/
def State.chooseRefs (s : State) (r : CalRun) : Assoc Nat :=
  if bit r.mode 2 ∧ s.id.lifecycle = .manufacture then
    r.tiles.map (fun t =>
      let dev := fun k => (s.cal.refDev.find (4 * t + k)).getD 0
      (t, [1, 2, 3].foldl (fun a b => if dev b < dev a then b else a) 0))
  else []

/-- CAL_RUN_COMMIT (R115, R118, R121, R123, R125): the MP has computed the run and commits its tiles. -/
def execCalRunCommit (s : State) : Host.Outcome State Fault Refusal :=
  match s.cal.run with
  | none => .next s
  | some r =>
    if s.cal.pending.isSome ∨ !s.mpUp then .next s
    else
      let sites := r.tiles.flatMap tilePixels
      let new := sites.map (fun i => (i, s.runSite r i))
      let states := new.filterMap (fun p => if p.2.1 = s.siteState p.1 then none else some (p.1, p.2.1))
      let ages := new.filterMap (fun p => if p.2.2 = s.siteAge p.1 then none else some (p.1, p.2.2))
      .next (s.calCommit true r.tiles r.tiles states ages (s.chooseRefs r) (states.map (fun p => s.runEvent r.mode p.1 p.2)))

/-! ### The calibration store in NVM (R104 to R106, R127) -/

/-- First address and length of a per-tile block, kind * 256 + tile: bin codes, defect state, ageing codes (Table 4-2). -/
def blockPlace (k : Nat) : Nat × Nat :=
  match k / 256 with
  | 0 => (0x206C8000 + 4096 * k, 4096)
  | 1 => (0x20608000 + 1024 * (k % 256), 1024)
  | _ => (0x20648000 + 2048 * (k % 256), 2048)

/-- The bytes of a home block, and as delivered. -/
def State.blockBytes (s : State) (k : Nat) : List Nat := (List.range (blockPlace k).2).map (fun i => s.nvmByte ((blockPlace k).1 + i))
def blankBlock (k : Nat) : List Nat := (List.range (blockPlace k).2).map (fun i => nvmBlank ((blockPlace k).1 + i))

/-- CRC-32C of a block, its fold word kind × 256 + tile (R104). -/
def blockCrc (k : Nat) (bs : List Nat) : Nat := crc32cFold k (bs.map byte)

/-- A home block fails the CRC that the header holds of it. -/
def State.blockFails (s : State) (k : Nat) : Bool := (s.cal.crc.find k).getD (blockCrc k (blankBlock k)) != blockCrc k (s.blockBytes k)

/-- Scratch descriptor and scratch data erased. -/
def State.eraseScratch (s : State) : State :=
  ({ s with nvm := Assoc.clearRange s.nvm 0x207E8000 0x207E9000 }).setCal { s.cal with scratch := none }

/-- A per-tile block written in the three steps of R105. -/
def State.writeBlock (s : State) (k : Nat) (bs : List Nat) : State :=
  let s := s.nvmStore (blockPlace k).1 bs
  (s.setCal { s.cal with crc := s.cal.crc.insert k (blockCrc k bs), bad := s.cal.bad.filter (fun b => b != k) }).eraseScratch

/-- The three steps of R105 for a block, cut after some bytes of one of them (1 to 3). -/
def State.cutBlock (s : State) (k : Nat) (bs : List Nat) (step bytes : Nat) : State :=
  let scratch := fun (s : State) (n : Nat) (valid : Bool) =>
    (s.nvmStore 0x207E8000 (bs.take n)).setCal { s.cal with scratch := some ⟨k, blockCrc k bs, valid⟩ }
  match step with
  | 1 => scratch s bytes false
  | 2 => scratch (s.nvmStore (blockPlace k).1 (bs.take bytes)) bs.length true
  | _ => scratch (s.writeBlock k bs) bs.length true

/-- The per-tile blocks that a landed commit changes, with their new bytes, in the order in which they are written: defect state and ageing
codes of each of its tiles. A home block that fails its CRC is written too. -/
def State.changedBlocks (s : State) (c : CalCommit) : List (Nat × List Nat) :=
  (c.tiles.flatMap (fun t =>
    let px := tilePixels t
    let age := fun j => let i := px.getD j 0; (c.ages.find i).getD (s.ageCode i)
    [(256 + t, (List.range 1024).map (fun k => (List.range 4).foldl (fun v j => v + s.siteState (px.getD (4 * k + j) 0) * 4 ^ j) 0)),
     (512 + t, (List.range 2048).map (fun k => age (2 * k) + 16 * age (2 * k + 1)))])).filter
    (fun p => p.2 != s.blockBytes p.1 || s.cal.bad.contains p.1)

/-- The changed blocks of a landed commit written. -/
def State.writeBlocks (s : State) (c : CalCommit) : State := (s.changedBlocks c).foldl (fun s p => s.writeBlock p.1 p.2) s

/-- The entry of the calibration backup. -/
def State.backupEntry (s : State) : Option LibEntry := (s.lib.backups.find 0).join

/-- The calibration store written to its backup container when external flash is fitted (R106): entry 0 of kind 4 (R216). -/
def State.backupStore (s : State) : State :=
  if s.ramStore then s
  else
    let bs := (List.range 0x200000).map (fun k => byte (s.nvmByte (0x20600000 + k)))
    let o := (s.container 4).data
    (s.storePut 4 o bs).setEntry 4 0 (some ⟨0, o, 0x200000, crc32cFold (s.storeFold 4 o) bs⟩)

/-- Every changed block of a landed commit is written, which completes a run (R105, R106, R127). -/
def State.completeCal (s : State) : State :=
  match s.cal.writing with
  | none => s
  | some c =>
    let s := (s.writeBlocks c).setCal { (s.writeBlocks c).cal with writing := none }
    if c.run then
      let s := (s.bump Reg.CAL_COUNT.COUNT Reg.CAL_STATUS.COUNT_SAT).setAll [(Reg.CAL_STATUS.STATE, 0), (Reg.CAL_STATUS.LAST_RESULT, 1),
        (Reg.CAL_LAST_LO.TIME, s.time), (Reg.CAL_LAST_HI.TIME, s.time / 2 ^ 32), (Reg.CAL_LAST_INFO.QUALITY, s.quality),
        (Reg.CAL_LAST_INFO.EPOCH, s.epoch)]
      (s.setCal { s.cal with calOn := s.onMs }).backupStore.calEvent
    else s

/-- CALIBRATION_COMPLETE. -/
def execCalibrationComplete (s : State) : Host.Outcome State Fault Refusal := .next s.completeCal

/-- AUTO_CALIBRATION_START (R128). -/
def execAutoCalibrationStart (s : State) : Host.Outcome State Fault Refusal :=
  if s.mpUp && s.flag Reg.CAL_CTRL.AUTO_EN && !s.calBusy && decide (s.power = 1 ∨ s.power = 2) then
    let due := s.cal.calOn + s.get Reg.CAL_CTRL.AUTO_INTERVAL * 3600000
    let s := s.wait (ms (due - s.onMs))
    .next (s.startRun 3 (List.range 256))
  else .next s

/-- DEFECT_FOLLOWUP_COMMIT (R116, R123): the MP's commit of the gains of sites that diagnosis changed. -/
def execDefectFollowupCommit (s : State) : Host.Outcome State Fault Refusal :=
  match s.cal.followAt with
  | none => .next s
  | some _ =>
    if s.cal.pending.isSome ∨ !s.mpUp then .next s
    else .next (s.calCommit false [] [] [] [] [] [])

/-- 0x0801 CAL_STATUS (R130). -/
def runCalStatus (_ : Req) (s : State) : Answer :=
  answer s ([byte (s.get Reg.CAL_STATUS.STATE), byte (s.get Reg.CAL_STATUS.LAST_RESULT)] ++ le 4 (s.get Reg.CAL_COUNT.COUNT)
    ++ le 4 (s.get Reg.CAL_LAST_LO.TIME) ++ le 4 (s.get Reg.CAL_LAST_HI.TIME) ++ [byte (s.get Reg.CAL_LAST_INFO.QUALITY), byte 0]
    ++ le 2 (s.get Reg.CAL_LAST_INFO.EPOCH) ++ le 4 (s.get Reg.CAL_SPARE_COUNT.COUNT) ++ le 4 (s.get Reg.CAL_DARK_COUNT.COUNT)
    ++ le 4 (s.get Reg.CAL_WEAK_COUNT.COUNT) ++ le 4 (s.get Reg.CAL_CHROMA_OUT_COUNT.COUNT)
    ++ le 2 (s.get Reg.CAL_STATUS.SHIP_OK + 2 * s.get Reg.CAL_STATUS.FIELD_LIMIT) ++ le 2 (s.get Reg.CAL_SRAM_SPARE.USED))

def opCalStatus : Op := ⟨0x0801, exactly 0, runCalStatus⟩
def execCalStatus (r : Req) (s : State) : Host.Outcome State Fault Refusal := .next (s.command opCalStatus r)

/-- An entry of the LIST reply (Table 4-8). -/
def State.mapEntry (s : State) (i : Nat) : List Byte :=
  let e := s.cal.events.find? (fun e => e.site == i)
  le 4 (i + s.siteState i * 2 ^ 20 + b2n ((e.map (·.spare)).getD false) * 2 ^ 22 + ((e.map (·.reason)).getD 15) * 2 ^ 23)

/-- 0x0802 DEFECT_MAP_READ (R131). -/
def runDefectMapRead (r : Req) (s : State) : Answer :=
  let p := r.params
  let f := leAt p 0 1
  let start := leAt p 2 4
  if 1 < f ∨ leAt p 1 1 ≠ 0 ∨ (if f = 0 then 1048576 else 512) ≤ start then refuse s Status.badParam
  else if f = 0 then
    let l := ((List.range' start (1048576 - start)).filter (fun i => s.siteState i != 0)).take 251
    let n := min 250 l.length
    answer s (le 2 n ++ le 4 (l.getD 250 0xFFFFFFFF) ++ (l.take 250).flatMap s.mapEntry)
  else
    answer s (le 2 start ++ (List.range 512).map (fun k =>
      byte ((List.range 4).foldl (fun v j => v + s.siteState (2048 * start + 4 * k + j) * 4 ^ j) 0)))

def opDefectMapRead : Op := ⟨0x0802, exactly 6, runDefectMapRead⟩
def execDefectMapRead (r : Req) (s : State) : Host.Outcome State Fault Refusal := .next (s.command opDefectMapRead r)

/-- The new readings of the VF map taken into the ageing record (R137). -/
def State.takeVf (s : State) : State :=
  let cells := s.sram.filter (fun p => decide (0x01A00000 ≤ p.1 ∧ p.1 < 0x01C00000) && p.1 % 2 == 1 && p.2.toNat / 128 == 1)
  cells.foldl (fun s p =>
    let i := (p.1 - 0x01A00000) / 2
    let hi := p.2.toNat
    let r : VfRead := ⟨(Memory.read 0 s.sram (p.1 - 1)).toNat, hi % 64, bit hi 6, s.get (Reg.TMP_TILE.THETA (tileOf i)), s.onMs⟩
    ({ s with sram := Memory.write 0 s.sram p.1 (byte (hi - 128)) }).setCal { s.cal with vf := s.cal.vf.insert i r }) s

/-- AGEING_ACCUMULATE (R117, R137): every second the MP reads the accumulators and the new readings. -/
def execAgeingAccumulate (s : State) : Host.Outcome State Fault Refusal :=
  if s.mpUp then
    let s := s.until (s.cal.accAt + ms 1000)
    let et := s.cal.acc.foldl (fun m p =>
      Assoc.set 0 m p.1 (Assoc.get 0 m p.1 + etGain p.2 s.period (toSigned 16 (s.get (Reg.TMP_TILE.THETA p.1))))) s.cal.et
    .next (s.takeVf.setCal { s.takeVf.cal with acc := [], accAt := s.now, et := et })
  else .next s

/-- Et written to the repair record. -/
def State.recordEt (s : State) : State := s.setCal { s.cal with etRecord := s.cal.et, etOn := s.onMs }

/-- ET_RECORD_WRITE (R117): every hour of module on-time. -/
def execEtRecordWrite (s : State) : Host.Outcome State Fault Refusal :=
  if s.mpUp && decide (s.power ≤ 2) then .next ((s.wait (ms (s.cal.etOn + 3600000 - s.onMs))).recordEt) else .next s

/-- A calibration that runs is aborted before an entry (R126). -/
def State.abortCal (s : State) : State := if s.cal.run.isSome then s.endRun 2 else s

end Sys2Proof.Machine
end

