-- ==== Sys2Proof/Machine/Drive.lean ====
section
/-! DEFINITION. From luminance to drive words (03_string_drive), pulses (02_light_frame_and_scan_out), the power limit word,
and what the strings report. -/

namespace Sys2Proof.Machine

/-! ### Ticks and pulses (R44, R45, R64, R65) -/

/-- The instant at which tick `n` of the running frame starts (R45). -/
def State.tickAt (s : State) (n : Nat) : Nat := s.scan.frameStart + n * s.tickLen + n * s.stretch / 4096

/-- Sk, the start of the slot (R44). -/
def State.slotAt (s : State) : Nat := s.nextBoundary - 4240

/-- The pulse phase of a string (R64). -/
def phaseOf (n : Nat) : Nat := n * 1597 % 4096

/-- First tick of the pulse of PWM value `p` (R64). -/
def pulseStart (n p : Nat) : Nat := if phaseOf n + p ≤ 4096 then phaseOf n else 4096 - p

/-- Length and first tick of part `j` in split mode (R65). -/
def partLen (p j : Nat) : Nat := p / 4 + (if j < p % 4 then 1 else 0)
def partStart (n p j : Nat) : Nat := 1024 * j + min (phaseOf n % 1024) (1024 - partLen p j)

/-- A pixel of PWM value `p` in string `n` is lit during a tick (R64, R65). -/
def litAt (split : Bool) (n p tick : Nat) : Bool :=
  if p = 0 then false
  else if split then
    let j := tick / 1024
    decide (partStart n p j ≤ tick ∧ tick < partStart n p j + partLen p j)
  else decide (pulseStart n p ≤ tick ∧ tick < pulseStart n p + p)

/-- The shunt of a site is open under the controller path during a tick (R42, R75). The BYP latches keep a string that diagnosis has just
masked idle until a frame converted with the mask is shown (R146). -/
def State.shuntOpen (s : State) (i tick : Nat) : Bool :=
  s.driven && !s.scan.inSlot && (s.scan.idle.find (stringOf i)).isNone && litAt s.scan.split (stringOf i) (Assoc.get 0 s.scan.activePwm i) tick
    && Assoc.get 0 s.scan.byp i == 0 && Assoc.get 0 s.scan.clamped i == 0

/-- The greatest active PWM value of a string: it conducts for so many ticks (R78). -/
def maxPwm (m : NMap) (n : Nat) : Nat := (List.range 8).foldl (fun v j => max v (Assoc.get 0 m (8 * n + j))) 0

/-- The strings that a map of PWM values lights. -/
def litStrings (m : NMap) : List Nat := (m.map (fun p => p.1 / 8)).eraseDups

/-- The shunt of a site is open under the limp plane (R96). -/
def State.limpShunt (s : State) (i : Nat) : Bool :=
  s.limpLit (stringOf i) && Assoc.get 0 s.scan.byp i == 0 && Assoc.get 0 s.scan.clamped i == 0

/-- The regulator of a string may sink current under the controller path: until the slot begins, and in the slot until the stop of its
group at Sk + 8 × (n mod 8) (R95). -/
def State.regulatorRuns (s : State) (n : Nat) : Bool :=
  s.driven && (!s.scan.inSlot || decide (s.now < s.slotAt + 8 * (n % 8)))

/-- The class that the regulator of a string sinks during a tick: the one the limp plane forces, or that of the active latch while a shunt
of the string is open; 0 otherwise (R77, R78, R96). -/
def State.sunkClass (s : State) (n tick : Nat) : Nat :=
  if s.limpLit n then (if (List.range 8).any (fun j => s.limpShunt (8 * n + j)) then s.get Reg.STR_LIMP_STATUS.CLASS else 0)
  else if s.regulatorRuns n && (List.range 8).any (fun j => s.shuntOpen (8 * n + j) tick) then Assoc.get 0 s.scan.activeClass n
  else 0

/-! ### VTRACK (R90) -/

/-- VTRACK is held low while VTRACK_EN is 0 and while a reset of VCORE, VANA or VAUX holds the controller (R90). -/
def State.vtrackHeld (s : State) : Bool := !s.flag Reg.STR_CTRL.VTRACK_EN || s.phase == .dark || s.phase == .alwaysOn

/-- The output starts a period at the code in force when the hold ends, and falls when it begins. -/
def State.vtrackFollow (s : State) : State :=
  if s.vtrackHeld then s.setScan { s.scan with vtrackFrom := none }
  else
    match s.scan.vtrackFrom with
    | some _ => s
    | none =>
      let n := s.get Reg.STR_POWER_LIMIT.VSET
      s.setScan { s.scan with vtrackFrom := some s.now, vtrackOld := n, vtrackCode := n, vtrackAt := s.now }

/-- A code lands at boundary `b`: it takes effect at the start of the first VTRACK period after it. -/
def State.vtrackLand (s : State) (code b : Nat) : State :=
  match s.scan.vtrackFrom with
  | none => s
  | some t =>
    if code = s.scan.vtrackCode then s
    else s.setScan { s.scan with vtrackOld := s.scan.vtrackCode, vtrackCode := code, vtrackAt := t + ((b - t) / 1000 + 1) * 1000 }

/-- The level of VTRACK: a period of 1,000 base cycles, high for 100 + n of them (R90). -/
def State.vtrack (s : State) : Bool :=
  match s.scan.vtrackFrom with
  | none => false
  | some t => decide ((s.now - t) % 1000 < 100 + (if s.now < s.scan.vtrackAt then s.scan.vtrackOld else s.scan.vtrackCode))

/-! ### The power limit word (R85) -/

/-- A power limit word from its fields. -/
def powerWord (budget limit drop vset : Nat) : Nat := budget + limit * 2 ^ 9 + drop * 2 ^ 16 + vset * 2 ^ 22

/-- The fields of a word, each in its range. -/
def wordBudget (w : Nat) : Nat := min 400 (max 100 (bits w 0 9))
def wordLimit (w : Nat) : Nat := min 100 (max 25 (bits w 9 7))
def wordDrop (w : Nat) : Nat := min 62 (bits w 16 6)
def wordVset (w : Nat) : Nat := min 800 (bits w 22 10)
def clampWord (w : Nat) : Nat := powerWord (wordBudget w) (wordLimit w) (wordDrop w) (wordVset w)

/-- The word in force. -/
def State.wordNow (s : State) : Nat :=
  powerWord (s.get Reg.STR_POWER_LIMIT.BUDGET) (s.get Reg.STR_POWER_LIMIT.LIMIT) (s.get Reg.STR_POWER_LIMIT.DROP)
    (s.get Reg.STR_POWER_LIMIT.VSET)

/-- The newest word the MP committed. -/
def State.wordNewest (s : State) : Nat := if s.scan.wordAt.isSome then s.scan.wordRaw else s.wordNow

/-- The MP commits a word (R24): a newer one replaces the one that waits. -/
def State.commitWord (s : State) (w : Nat) : State :=
  (s.setScan { s.scan with wordAt := some s.now, wordRaw := w }).setAll [(Reg.STR_POWER_PENDING.BUDGET, bits w 0 9),
    (Reg.STR_POWER_PENDING.LIMIT, bits w 9 7), (Reg.STR_POWER_PENDING.DROP, bits w 16 6), (Reg.STR_POWER_PENDING.VSET, bits w 22 10),
    (Reg.STR_STATUS.PENDING, 1)]

/-- The pending word is in force for the coming boundary. -/
def State.wordLands (s : State) : Bool :=
  match s.scan.wordAt with
  | none => false
  | some t => !s.scanHeld && landsSecond t s.nextBoundary

/-- The word in force for the coming boundary. -/
def State.wordFor (s : State) : Nat := if s.wordLands then clampWord s.scan.wordRaw else s.wordNow

/-- The pending word lands (R24, R85, R92): changes of DROP and VSET restart their frame counts. -/
def State.landWord (s : State) : State :=
  if s.wordLands then
    let w := s.scan.wordRaw
    let v := clampWord w
    let old := s.wordNow
    let s := s.setScan { s.scan with
      wordAt := none
      sinceDrop := if wordDrop v = wordDrop old then s.scan.sinceDrop else 0
      sinceVset := if wordVset v = wordVset old then s.scan.sinceVset else 0 }
    let s := s.setAll [(Reg.STR_POWER_LIMIT.BUDGET, wordBudget v), (Reg.STR_POWER_LIMIT.LIMIT, wordLimit v),
      (Reg.STR_POWER_LIMIT.DROP, wordDrop v), (Reg.STR_POWER_LIMIT.VSET, wordVset v), (Reg.STR_STATUS.PENDING, 0),
      (Reg.STR_STATUS.HEADROOM, b2n (wordDrop v != 0)), (Reg.TMP_STATUS.LIMIT, wordLimit v)]
    let s := if s.flag Reg.TMP_STATUS.BOOST ∧ s.tmp.boostAt = none then s.setTmp { s.tmp with boostAt := some s.nextBoundary } else s
    let s := s.vtrackLand (wordVset v) s.nextBoundary
    if v = w then s else s.set Reg.STR_STATUS.WORD_CLAMPED 1
  else s

/-! ### The cut-off limiter (R371) -/

/-- The limiter's pending change is in force for the coming boundary. -/
def State.cutLands (s : State) : Option Bool :=
  match s.sp.cutPending with
  | none => none
  | some (v, t) => if !s.scanHeld && landsSecond t s.nextBoundary then some v else none

/-- The limiter for the coming boundary. -/
def State.cutFor (s : State) : Bool := (s.cutLands).getD (s.flag Reg.SAF_CUTOFF.SET)

/-- The pending change of the limiter lands. -/
def State.landCut (s : State) : State :=
  match s.cutLands with
  | none => s
  | some v => (s.setSp { s.sp with cutPending := none }).setAll [(Reg.SAF_CUTOFF.SET, b2n v), (Reg.SAF_CUTOFF.PENDING, 0)]

/-! ### The converter (R66, R81, R82, R86, R94) -/

/-- The composed output of the pixels that this module shows from the coming boundary, row after row, read from the machine as it
will stand there (R66, R342): a follower in DEEPEN shows the CLONE frame in use, or composes its pattern without objects and
layers once its input is FALLEN (R351); one in MULTIPLY with CLONE composes on it as its base (Table 11-6), the master shows the composition it sent. In READY no light is composed (R56). -/
def State.shownRows (s : State) (b : Nat) : List (List Nat) :=
  let row := fun (f : Nat → List Nat) => (List.range 512).map (fun y => if s.composes then f y else [])
  if s.get Reg.CAS_MODE.MODE = 1 ∧ s.follower ∧ s.get Reg.LNK_STATUS.INPUT ≠ 4 then
    row (fun y => match s.beam.linkBuffer with
      | some n => s.bufferRow n y
      | none => [])
  else if s.showsClone then
    row (fun y =>
      let m := keysIn s.casc.cloneShown (2048 * y) 2048
      (List.range 2048).map (fun x => Assoc.get 0 m (2048 * y + x)))
  else if s.get Reg.CAS_MODE.MODE = 1 ∧ s.follower then
    let t := s.beam.front
    (s.setBeam { s.beam with front := { t with ctxs := [], layers := [], bisque := none } }).composedRows b
  else s.composedRows b

/-- The lowest class at which a target is reached (R82), from class `c` up. -/
def chooseClass (w : Nat → Nat) (y : Nat) : Nat → Nat → Nat
  | 0, c => c
  | k + 1, c => if c < 63 ∧ w c < y * 256 then chooseClass w y k (c + 1) else c

/-- Class and PWM values of a string from its targets, and the pixels clipped (R82). The spec states no quotient by a table word of 0, which
stands where no valid table was ever loaded: it is a free value (DESIGN CHOICE, notes/assumptions/70.md). -/
def convert (w : Nat → Nat) (byp : Nat → Bool) (ys : List Nat) : Nat × List Nat × Nat :=
  let live := ys.mapIdx (fun j y => if byp j then 0 else y)
  let top := live.foldl max 0
  if top = 0 then (0, ys.map (fun _ => 0), 0)
  else
    let c := chooseClass w top 63 1
    let d := w c
    let v := live.map (fun y => if d = 0 then Config.byZero y else (y * 256 * 4095 + d / 2) / d)
    (c, v.map (min 4095), (v.filter (fun x => decide (4095 < x))).length)

/-- A string is in the map-out mask of the coming boundary (R25, R146). -/
def State.mappedFor (s : State) (n : Nat) : Bool := ((s.calLands.bind (fun c => c.masked.find n))).getD (s.mapped n)

/-- BYP of a site for the coming boundary (R73, R74). -/
def State.bypFor (s : State) (i : Nat) : Bool :=
  match s.calLands.bind (fun c => c.states.find i) with
  | some _ => s.defect (s.copyFor (tileOf i)) i == 3
  | none => Assoc.get 0 s.scan.byp i == 1

/-- A string converted from its targets: class, PWM values, clipped pixels; `eff` holds the class efficacy tables by tile. A string in
the map-out mask is dark (R146). -/
def State.convertTargets (s : State) (eff : List (List Nat)) (n : Nat) (ys : List Nat) : Nat × List Nat × Nat :=
  if s.mappedFor n then (0, List.replicate 8 0, 0)
  else convert (fun c => nth 0 (nth [] eff (stringTile n)) c) (fun j => s.bypFor (8 * n + j)) ys

/-- The class efficacy tables of every tile for the coming boundary, entries 0 to 63. -/
def State.effTables (s : State) : List (List Nat) := (List.range 256).map (fun t => (List.range 64).map (s.eff t))

/-- The eight values of string `k` of a row. -/
def eightOf (l : List Nat) (k : Nat) : List Nat := (l.drop (8 * k)).take 8

/-- Every string converted for the coming boundary, in order of their numbers. -/
def State.conversions (s : State) (b : Nat) : List (Nat × List Nat × Nat) :=
  let eff := s.effTables
  let v := { s with sram := keysIn s.sram 0x01C30000 16384 }
  ((s.shownRows b).mapIdx (fun y l =>
    let ts := s.rowTargets y (l ++ List.replicate (2048 - l.length) 0)
    (List.range 256).map (fun k => v.convertTargets eff (256 * y + k) (eightOf ts k)))).flatten

/-- A string converted for the coming boundary. -/
def State.convertString (s : State) (b n : Nat) : Nat × List Nat × Nat := nth (0, [], 0) (s.conversions b) n

/-- The soft-start step j of the frame being loaded (R94). -/
def State.softStep (s : State) (conducts : Bool) : Nat :=
  if s.flag Reg.STR_CTRL.SOFTSTART_EN ∧ conducts then s.scan.soft else 8

/-- e_mw of R86 as numerator and denominator: the charge sum at a set-point, tick and period. -/
def estimate (sum vset t p : Nat) : Nat × Nat := ((20000 + 15 * vset) * 160 * sum * t, 1000 * 65535 * p * 1000)

/-- The gain G of R86. -/
def gainOf (sum word t p j : Nat) : Nat :=
  let e := estimate sum (wordVset word) t p
  let b := wordBudget word * 100 * wordLimit word * j
  if e.1 = 0 then 4096 else min 4096 (4096 * b * e.2 / (800 * e.1))

/-- The class loaded for a string (R86, R371). -/
def State.classOut (s : State) (word n c : Nat) : Nat :=
  let k := if c = 0 then 0 else max 1 (c - wordDrop word)
  if s.cutFor ∧ Block.guarded s.spBlock (n / 256) then min k (Block.cutoffClass s.spBlock) else k

/-- The greatest scheduled current of any tick in mA, rounded up (STR_PEAK_CURRENT). -/
def peakCurrent (split : Bool) (l : List (Nat × Nat × Nat)) : Nat :=
  let at_ := fun tick => l.foldl (fun q x => if litAt split x.1 x.2.2 tick then q + kOf x.2.1 else q) 0
  ((List.range 4096).foldl (fun m t => max m (at_ t)) 0 * 160 + 65534999) / 65535000

/-- The guarded boxes for the coming boundary (R368, R373): of the CLONE frame shown in the clone modes, else the module's
own. -/
def State.boxesFor (s : State) : List Nat :=
  let n := s.comingCount
  if s.cloning ∧ s.follower ∧ s.get Reg.LNK_STATUS.INPUT ≠ 4 then ((s.comingFrame n).map (·.boxes)).getD s.link.useBoxes
  else if s.showsClone then
    match s.casc.cloneNext with
    | some (f, _) => if f = n then s.casc.boxNext else s.casc.boxShown
    | none => s.casc.boxShown
  else s.ownBoxes s.nextBoundary

/-- SAF_BOX written (R368). -/
def State.writeBoxes (s : State) (boxes : List Nat) : State :=
  (List.range 128).foldl (fun s n =>
    let b := nth 0 boxes n
    s.setAll [(Reg.SAF_BOX0.COL_FIRST n, bits b 0 11), (Reg.SAF_BOX0.COL_LAST n, bits b 16 11), (Reg.SAF_BOX0.VALID n, bits b 15 1),
      (Reg.SAF_BOX1.ROW_FIRST n, bits b 32 9), (Reg.SAF_BOX1.ROW_LAST n, bits b 48 9)]) s

/-- What the content of the frame being loaded is made from: the instants of what is in force for the coming boundary. -/
def State.convSource (s : State) : List Nat :=
  let n := s.comingCount
  [((s.beam.waiting.filter (fun p => !s.scanHeld && landsFirst p.2 s.nextBoundary)).map (·.2)).getD 0,
   ((s.comingFrame n).map (·.at_)).getD 0, if s.wordLands then s.scan.wordAt.getD 0 else 0,
   ((s.calLands).map (·.at_)).getD 0, b2n s.cutFor, s.comingPower]

/-- The rows of the frame being loaded that are committed, the one whose deadline is still to come included (R54). -/
def State.loadedRows (s : State) : List Nat :=
  ((List.range s.scan.row).filter (fun r => !s.scan.repeats.contains r)) ++ (if s.scan.rowDone then [s.scan.row] else [])

/-- DRIVE_CONVERSION (R66, R81, R82, R86, R94, R110, R146): the content in force for the coming boundary is converted and
scaled; rows already loaded from other content wait for a late reload (R54). STR_POWER_EST.MW is rounded down to whole mW (DESIGN CHOICE,
notes/assumptions/70.md). -/
def execDriveConversion (s : State) : Host.Outcome State Fault Refusal :=
  if s.scan.running && s.scan.loading && !s.scanHeld && s.scan.convKey != some s.convSource then
    let b := s.nextBoundary
    let word := s.wordFor
    let t := s.timing b
    let p := framePeriod t.1 t.2
    let v := s.preview
    let cs := (v.conversions b).mapIdx (fun n x => (n, x))
    let lit := cs.filter (fun x => x.2.1 != 0)
    let sum := lit.foldl (fun q x => q + kOf x.2.1 * x.2.2.1.foldl max 0) 0
    let j := s.softStep (sum != 0)
    let g := gainOf sum word t.1 p j
    let words := lit.map (fun x => (x.1, s.classOut word x.1 x.2.1, x.2.2.1.map (fun v => v * g / 4096)))
    let out := words.foldl (fun q x => q + kOf x.2.1 * x.2.2.foldl max 0) 0
    let est := estimate out (wordVset word) t.1 p
    let c := { s.scan with
      convClass := (words.map (fun x => (x.1, x.2.1))).filter (fun x => x.2 != 0)
      convPwm := (words.flatMap (fun x => x.2.2.mapIdx (fun k v => (8 * x.1 + k, v)))).filter (fun x => x.2 != 0)
      clips := cs.foldl (fun m x => if x.2.2.2 = 0 then m else Assoc.set 0 m (x.1 / 256) (Assoc.get 0 m (x.1 / 256) + x.2.2.2)) []
      reloads := if s.scan.convKey.isSome then s.loadedRows else s.scan.reloads
      idle := s.scan.idle.map (fun x => (x.1, x.2 || !s.scan.inSlot))
      convKey := some s.convSource, conducting := out != 0, boxRun := [], rowRun := [] }
    .next (((s.setScan c).writeBoxes s.boxesFor).setAll [(Reg.STR_GAIN.G, g), (Reg.STR_GAIN.SOFT_J, j), (Reg.STR_CHARGE_LO.SUM, sum),
      (Reg.STR_CHARGE_HI.SUM, sum / 2 ^ 32), (Reg.STR_POWER_EST.MW, if est.2 = 0 then 0 else est.1 / est.2),
      (Reg.STR_PEAK_CURRENT.MA, peakCurrent (s.flag Reg.SCN_CTRL.SPLIT4) (words.map (fun x => (x.1, x.2.1, x.2.2.foldl max 0))))])
  else .next s

/-! ### What the strings report (R76, R80, R97) -/

/-- COMPLIANCE_FLAG (R80): the lowest regulator voltage, in mV, that a conducting string held for 1 µs. STR_VREG_MIN shows whole units of
10 mV, and 254 for 2.54 V and above (DESIGN CHOICE, notes/assumptions/70.md). -/
def execComplianceFlag (string mv : Nat) (s : State) : Host.Outcome State Fault Refusal :=
  if s.regulatorRuns string && (s.scan.idle.find string).isNone && maxPwm s.scan.activePwm string != 0 then
    let low := decide (mv < 400) || (decide (mv < 600) && Config.choice 80 (s.now * 131072 + string))
    .next (s.setScan { s.scan with
      compl := if low then Assoc.set 0 s.scan.compl string 1 else s.scan.compl, vregMin := min s.scan.vregMin (min 254 (mv / 10)) })
  else .next s

/-- The clamp of a site acts at a voltage (R76), for a pulse of `len` base cycles (R138). -/
def clampActs (key mv len : Nat) : Bool :=
  (decide (5000 < mv) || (decide (4000 ≤ mv) && Config.choice 76 key)) && (decide (120 ≤ len) || Config.choice 138 key)

/-- The site was sampled lit, or will be: its pulse lasts 4 ticks, its part 0 in split mode (R133, R138). -/
def sampledLit (split : Bool) (p : Nat) : Bool := if split then decide (13 ≤ p) else decide (4 ≤ p)

/-- OPEN_CLAMP (R76, R138): the voltage across the open shunt of a site, in mV. -/
def execOpenClamp (site mv : Nat) (s : State) : Host.Outcome State Fault Refusal :=
  let n := stringOf site
  let p := Assoc.get 0 s.scan.activePwm site
  let limp := s.limpLit n
  let on := (limp || (s.driven && p != 0 && !s.scan.inSlot)) && Assoc.get 0 s.scan.byp site == 0
  let len := if limp then 120 else (if s.scan.split then partLen p 0 else p) * s.tickLen
  if on && Assoc.get 0 s.scan.clamped site == 0 && clampActs (s.now * 1048576 + site) mv len then
    let s := (s.setScan { s.scan with clamped := Assoc.set 0 s.scan.clamped site 1 }).bump
      Reg.STR_CLAMP_COUNT.COUNT Reg.STR_STATUS.CLAMP_SAT
    if s.flag Reg.DIAG_CTRL.FWD_EN && !limp && !sampledLit s.scan.split p then
      .next ((s.bump Reg.DIAG_HINT_COUNT.COUNT Reg.DIAG_STATUS.HINT_SAT).setDiag
        { s.diag with hints := s.diag.hints ++ [site / 2048] })
    else .next s
  else .next s

/-- LIMP_RAMP_STEP (R97): every 50 µs the lit strings rise by one class to the class commanded. -/
def execLimpRampStep (s : State) : Host.Outcome State Fault Refusal :=
  match s.ks.rampAt with
  | none => .next s
  | some t =>
    let c := s.get Reg.STR_LIMP_STATUS.CLASS
    if c < s.limpClass && !s.ks.ramped && !s.ksTested then
      let s := s.until (t + us 50)
      .next ((s.setKs { s.ks with rampAt := some s.now, ramped := decide (c + 1 = s.limpClass) }).set Reg.STR_LIMP_STATUS.CLASS (c + 1))
    else .next s

end Sys2Proof.Machine
end

