-- ==== Sys2Proof/Machine/Diag.lean ====
section
/-! DEFINITION. Pixel diagnosis and reverse sensing (05_pixel_diagnosis_and_reverse_sensing). -/

namespace Sys2Proof.Machine

/-! ### Forward diagnosis (R133 to R137) -/

/-- A confirmed forward finding waits to be reported at Sk (R136). -/
def State.confirmForward (s : State) (site kind : Nat) : State :=
  let f : Finding := ⟨site, kind, Assoc.get 0 s.scan.sel site == 1, 0⟩
  if s.diag.pending.contains f then s else s.setDiag { s.diag with pending := s.diag.pending ++ [f] }

/-- A void sample is counted (R135). -/
def State.voidSample (s : State) : State := s.bump Reg.DIAG_VOID_COUNT.COUNT Reg.DIAG_STATUS.MISC_SAT

/-- A non-void sample of a kind (0 lit, 1 dark): a finding is confirmed when the sample before gave it too (R136). -/
def State.sample (s : State) (site kind finding : Nat) (found : Bool) : State :=
  let key := site * 2 + kind
  if found then
    if Assoc.get 0 s.diag.lit key = 1 then (s.setDiag { s.diag with lit := Assoc.set 0 s.diag.lit key 0 }).confirmForward site finding
    else s.setDiag { s.diag with lit := Assoc.set 0 s.diag.lit key 1 }
  else s.setDiag { s.diag with lit := Assoc.set 0 s.diag.lit key 0 }

/-- Forward diagnosis runs for a string: the controller path drives it (R133). -/
def State.forwardOn (s : State) (n : Nat) : Bool :=
  s.flag Reg.DIAG_CTRL.FWD_EN && s.scan.running && s.driven && !s.scan.inSlot && !s.limpLit n && (s.scan.idle.find n).isNone

/-- Where a pulse of PWM value `p` in string `n` starts, and where it ends: its parts in split mode (R64, R65). -/
def pulseEdges (split : Bool) (n p : Nat) : List (Nat × Nat) :=
  if split then ((List.range 4).map (fun j => (partStart n p j, partStart n p j + partLen p j))).filter (fun e => decide (e.1 < e.2))
  else if p = 0 then [] else [(pulseStart n p, pulseStart n p + p)]

/-- The first of the first four consecutive ticks in which the shunt of a site is commanded closed while its string conducts (R133): they
start where a pulse of the string starts, or where one of the site's own ends. -/
def State.darkTick (s : State) (site : Nat) : Option Nat :=
  let n := stringOf site
  let edges := fun (j : Nat) => pulseEdges s.scan.split n (Assoc.get 0 s.scan.activePwm j)
  let sites := (List.range 8).map (fun k => 8 * n + k)
  let starts := sites.flatMap (fun j => (edges j).map (if j = site then (·.2) else (·.1)))
  (starts.filter (fun t => decide (t + 4 ≤ 4096) && (List.range 4).all (fun k =>
    !s.shuntOpen site (t + k) && sites.any (fun j => s.shuntOpen j (t + k))))).min?

/-- The sample of a kind is taken: once in a frame (R133). -/
def State.takeSample (s : State) (key : Nat) : State := s.setDiag { s.diag with sampled := Assoc.set 0 s.diag.sampled key 1 }

/-- VF code of a site voltage in mV (Table 5-3). -/
def vfCode (mv : Nat) : Nat := min 255 ((mv - 1500) / 10)

/-- A VF map entry written (R137); the converted voltage lies within 15 mV of the site's. -/
def State.writeVf (s : State) (site mv : Nat) : State :=
  let n := stringOf site
  let v := vfCode (mv + s.free % 31 - 15)
  let w := v + 256 * Assoc.get 0 s.scan.activeClass n + 16384 * Assoc.get 0 s.scan.sel site + 32768
  { s.drawn with sram := Memory.writeN 0 s.sram (0x01A00000 + 2 * site) (le 2 w) }

/-- FWD_LIT_SAMPLE (R133 to R137): the site's voltage in mV at the end of the fourth tick of its pulse, and whether the string
current fell below half its class current in the 200 ns before. -/
def execFwdLitSample (site mv : Nat) (void : Bool) (s : State) : Host.Outcome State Fault Refusal :=
  let n := stringOf site
  let p := Assoc.get 0 s.scan.activePwm site
  if s.forwardOn n && sampledLit s.scan.split p && Assoc.get 0 s.diag.sampled (2 * site) == 0 then
    let a := if s.scan.split then partStart n p 0 else pulseStart n p
    let s := (s.until (s.tickAt (a + 4))).takeSample (2 * site)
    let s := if Assoc.get 0 s.scan.clamped site = 1 then s.confirmForward site 1 else s
    if void then .next s.voidSample
    else
      let low := decide (mv < 1000) || (decide (mv < 1600) && Config.choice 134 (s.now * 1048576 + site))
      let s := s.sample site 0 2 low
      if !low && site % 8 == (s.get Reg.SCN_FRAME_COUNT.COUNT + n) % 8 then .next (s.writeVf site mv) else .next s
  else .next s

/-- FWD_DARK_SAMPLE (R133, R134): the voltage of a site whose shunt is commanded closed while its string conducts, at the end of the fourth
tick in which it is so. -/
def execFwdDarkSample (site mv : Nat) (void : Bool) (s : State) : Host.Outcome State Fault Refusal :=
  match s.darkTick site with
  | none => .next s
  | some a =>
    if s.forwardOn (stringOf site) && Assoc.get 0 s.diag.sampled (2 * site + 1) == 0 then
      let s := (s.until (s.tickAt (a + 4))).takeSample (2 * site + 1)
      if void then .next s.voidSample
      else .next (s.sample site 1 3 (decide (1500 < mv) || (decide (500 < mv) && Config.choice 134 (s.now * 1048576 + site))))
    else .next s

/-! ### The open probe (R139 to R142) -/

/-- A row queued as a priority row (R141): a hint is dropped and counted when the queue is full; a confirmation displaces the
newest hint. -/
def State.queueRow (s : State) (row : Nat) (hint : Bool) : State :=
  let q := s.diag.queue
  let set := fun (q : List (Nat × Bool)) => s.setDiag { s.diag with queue := q }
  if q.any (fun x => x.1 == row) then s
  else if q.length < 16 then set (q ++ [(row, hint)])
  else if hint then s.bump Reg.DIAG_HINT_DROP_COUNT.COUNT Reg.DIAG_STATUS.HINT_SAT
  else
    match q.reverse.findIdx? (fun x => x.2) with
    | some k => set (q.eraseIdx (q.length - 1 - k) ++ [(row, false)])
    | none => s

/-- The finding of one phase at a site (Table 5-5); 0 none. -/
def probeFinding (key : Nat) (r : Probe) : Nat :=
  if r.phase = 1 then (if 60 ≤ r.cap ∨ (30 ≤ r.cap ∧ Config.choice 140 key) then 3 else 0)
  else if r.cap < 30 ∨ (r.cap < 60 ∧ Config.choice 140 key) then 1
  else if 200 < r.leak ∨ (20 ≤ r.leak ∧ Config.choice 140 (key + 1)) then 2 else 0

/-- The emitters, or the shunt, that a phase tests at a site: key 0 primary, 1 spare, 2 shunt (R142). -/
def State.probeKey (s : State) (site phase : Nat) : Option Nat :=
  let st := s.siteState site
  match phase with
  | 0 => if st = 3 then none else some (if st = 2 then 1 else 0)
  | 1 => some 2
  | _ => if st = 0 then some 1 else none

/-- One phase at one site: an unconfirmed finding is kept, the same one again is confirmed (R141). Answers whether it queues
the row. -/
def State.probeSite (s : State) (site phase : Nat) (rs : List Probe) : State × Bool :=
  match s.probeKey site phase with
  | none => (s, false)
  | some k =>
    let key := site * 4 + k
    let f := match rs.find? (fun r => r.col == site % 2048 && r.phase == phase) with
      | some r => probeFinding (s.now * 4194304 + key) r
      | none => 0
    let old := Assoc.get 0 s.diag.probe key
    if f = 0 then (s.setDiag { s.diag with probe := Assoc.set 0 s.diag.probe key 0 }, false)
    else if old = f then
      let g : Finding := ⟨site, f, if f = 3 then Assoc.get 0 s.scan.sel site == 1 else k == 1, 1⟩
      (s.setDiag { s.diag with probe := Assoc.set 0 s.diag.probe key 0, slot := s.diag.slot ++ [g] }, false)
    else (s.setDiag { s.diag with probe := Assoc.set 0 s.diag.probe key f }, true)

/-- A row probed in its three phases; strings lit by the limp plane are left out (R98, R142). -/
def State.probeRow (s : State) (row : Nat) (rs : List Probe) : State :=
  let sites := ((List.range 2048).map (fun c => row * 2048 + c)).filter (fun i => !s.limpLit (stringOf i))
  let r := [0, 1, 2].foldl (fun (a : State × Bool) ph =>
    sites.foldl (fun (a : State × Bool) i => let x := a.1.probeSite i ph rs; (x.1, a.2 || x.2)) a) (s, false)
  if r.2 then r.1.queueRow row false else r.1

/-- OPEN_PROBE_ROW (R139 to R142): the next row of the slot of an even frame, with what its sites measure; a site without an
entry measures sound. -/
def execOpenProbeRow (readings : List Probe) (s : State) : Host.Outcome State Fault Refusal :=
  let k := s.diag.probed
  let frame := s.get Reg.SCN_FRAME_COUNT.COUNT
  if s.scan.running && s.scan.inSlot && frame % 2 == 0 && s.flag Reg.DIAG_CTRL.PROBE_EN && decide (k < 5) then
    let s := s.until (s.slotAt + 100 + 800 * (k + 1))
    let q := frame / 2 % 128
    let s := s.setDiag { s.diag with probed := k + 1 }
    if k < 4 then
      let s := (s.probeRow (4 * q + k) readings).set Reg.DIAG_STATUS.GROUP q
      .next (if k = 3 ∧ q = 127 then s.bump Reg.DIAG_SWEEP_COUNT.COUNT Reg.DIAG_STATUS.MISC_SAT else s)
    else
      match s.diag.prio with
      | none => .next s
      | some row =>
        let s := s.setDiag { s.diag with queue := s.diag.queue.filter (fun x => x.1 != row), prio := none }
        .next (s.probeRow row readings)
  else .next s

/-! ### Reaction (R144 to R146, Table 5-6) -/

/-- The counter of a finding. -/
def findingCounter (kind : Nat) : Field :=
  match kind with
  | 1 => Reg.DIAG_OPEN_COUNT.COUNT
  | 2 => Reg.DIAG_LOW_COUNT.COUNT
  | 3 => Reg.DIAG_STUCK_COUNT.COUNT
  | _ => Reg.DIAG_BRIDGE_COUNT.COUNT

/-- The finding is already acted on: recorded for the same site, emitter and finding, or reflected by the site's state and
the map-out mask, which decide alone while the event list is full (R146). -/
def State.actedOn (s : State) (f : Finding) : Bool :=
  let st := s.siteState f.site
  (decide (s.cal.events.length < 16384) && s.cal.events.any (fun e => e.site == f.site && e.kind == f.kind && (e.spare == f.spare || f.kind == 3)))
    || (if f.kind = 3 then st == 3 && s.mapped (stringOf f.site) else st == 3 || (st == 1 && f.spare))

/-- New state, action and reason of a finding under AUTO_REPAIR (Table 5-6); no new state where it is recorded only. -/
def State.repair (s : State) (f : Finding) : Option Nat × Nat × Nat :=
  let st := s.siteState f.site
  let why := match f.kind with
    | 1 => 2
    | 2 => 3
    | _ => 5
  if f.kind = 3 then (some 3, 4, 4)
  else if st = 0 ∧ !f.spare then (some 2, 1, why)
  else if st = 1 ∧ !f.spare then (some 3, 3, why)
  else if st = 2 ∧ f.spare then
    let shunt := f.kind == 2 && s.cal.events.any (fun e => e.site == f.site && e.kind == 2 && !e.spare)
    (some 3, 3, if shunt then 4 else why)
  else if st = 0 then (some 1, 2, why)
  else (none, 5, why)

/-- The registers of the last finding (Table 5-15). -/
def State.lastFinding (s : State) (f : Finding) (action : Nat) : State :=
  s.setAll [(Reg.DIAG_LAST_SITE.INDEX, f.site), (Reg.DIAG_LAST_SITE.FINDING, f.kind), (Reg.DIAG_LAST_SITE.EMITTER, b2n f.spare),
    (Reg.DIAG_LAST_SITE.SOURCE, f.source), (Reg.DIAG_LAST_SITE.ACTION, action), (Reg.DIAG_LAST_FRAME.COUNT, s.get Reg.SCN_FRAME_COUNT.COUNT)]

/-- A site's new state in both copies, its latches, and the MP's notice (R25, R116, R144). -/
def State.moveSite (s : State) (i st : Nat) : State :=
  let old := s.siteState i
  let s := ((s.setDefect 0 i st).setDefect 1 i st).latchSite i st
  let n := fun (k : Nat) (f : Field) (s : State) => s.set f (s.get f + b2n (st == k) - b2n (old == k))
  let s := n 3 Reg.CAL_DARK_COUNT.COUNT (n 2 Reg.CAL_SPARE_COUNT.COUNT s)
  s.setCal { s.cal with
    followTiles := s.cal.followTiles ++ (i :: around i).map tileOf, followAt := some (s.cal.followAt.getD s.now)
    moved := if st = 2 then i :: s.cal.moved else s.cal.moved
    run := s.cal.run.map (fun r => { r with found := i :: r.found }) }

/-- The reaction to one confirmed finding (R144 to R146). -/
def State.reactFinding (s : State) (f : Finding) : State :=
  if s.actedOn f then s
  else
    let s' := s.bump (findingCounter f.kind) Reg.DIAG_STATUS.FIND_SAT
    let (st, action, why) := s.repair f
    if s.flag Reg.DIAG_CTRL.AUTO_REPAIR then
      let s' := (s'.record ⟨f.site, f.kind, f.spare, why⟩).lastFinding f action
      match st with
      | none => s'
      | some st =>
        let s' := (s'.moveSite f.site st).checkLimits
        if f.kind = 3 then ((s'.setMapped (stringOf f.site) true).setScan { s'.scan with idle := s'.scan.idle.insert (stringOf f.site) false }).fault Src.diagStringOut (stringOf f.site) 5 4
        else s'.fault Src.diagRepair f.site 5 4
    else ((s'.record ⟨f.site, f.kind, f.spare, why⟩).lastFinding f 5).fault Src.diagRepair f.site 5 4

/-- The findings of a slot but one for each emitter, or shunt: a forward and a probe finding of one emitter give one event (R145). -/
def onePerEmitter : List Finding → List Finding
  | [] => []
  | f :: l =>
    let same := fun (g : Finding) => g.site == f.site && (if f.kind = 3 then g.kind == 3 else g.kind != 3 && g.spare == f.spare)
    f :: (onePerEmitter l).filter (fun g => !same g)

/-- The findings of the slot are acted on (Sk + 4,200, R144); while scan-out is held they wait (R145). -/
def State.reactSlot (s : State) : State :=
  if s.scanHeld then s
  else (onePerEmitter s.diag.slot).foldl State.reactFinding (s.setDiag { s.diag with slot := [] })

/-- The priority row of the slot of an even frame: the head of the queue, from which rows whose sites all lie in limp-lit strings are dropped
(R139, R142). -/
def State.choosePrio (s : State) : State :=
  if s.get Reg.SCN_FRAME_COUNT.COUNT % 2 = 0 ∧ s.flag Reg.DIAG_CTRL.PROBE_EN then
    let q := s.diag.queue.filter (fun x => (List.range 256).any (fun k => !s.limpLit (256 * x.1 + k)))
    s.setDiag { s.diag with queue := q, prio := q.head?.map (·.1) }
  else s.setDiag { s.diag with prio := none }

/-- Sk for diagnosis: hints queue their rows, the priority row is chosen, at most 256 findings are reported, the others are held over (R136,
R138, R141). -/
def State.diagSlot (s : State) : State :=
  let s := s.diag.hints.foldl (fun s r => s.queueRow r true) (s.setDiag { s.diag with hints := [], probed := 0 })
  let s := s.choosePrio
  if s.scanHeld then s
  else
    let l := s.diag.pending
    (s.setDiag { s.diag with pending := l.drop 256, slot := s.diag.slot ++ l.take 256 }).bumpBy
      Reg.DIAG_DEFER_COUNT.COUNT Reg.DIAG_STATUS.MISC_SAT (l.length - 256)

/-- DIAG_STATUS.QUEUE and HELD (R145, Table 5-13). -/
def State.diagFollow (s : State) : State :=
  s.setAll [(Reg.DIAG_STATUS.QUEUE, s.diag.queue.length),
    (Reg.DIAG_STATUS.HELD, b2n (s.scanHeld && !(s.diag.pending.isEmpty && s.diag.slot.isEmpty)))]

/-! ### Reverse sensing (R150 to R156) -/

/-- The sites of a bin. -/
def binSites (b : Nat) : List Nat :=
  (List.range 64).map (fun k => (b / 256 * 8 + k / 8) * 2048 + (b % 256 * 8 + k % 8))

/-- The bin of a pixel. -/
def binOf (i : Nat) : Nat := i / 2048 / 8 * 256 + i % 2048 / 8

/-- The bins lit by a frame. -/
def litBinsOf (m : NMap) : List Nat := (m.map (fun p => binOf p.1)).eraseDups

/-- A finding has marked the site's idle emitter LOW. -/
def State.idleLow (s : State) (i : Nat) (spare : Bool) : Bool := s.cal.events.any (fun e => e.site == i && e.kind == 2 && e.spare == spare)

/-- Self-test has mapped out an element: kind 1 string, 2 bin, 3 lane, 4 port (Table 16-4). -/
def State.mappedBy (s : State) (kind element : Nat) : Bool :=
  s.bst.maps.contains (kind, element) || s.bst.session.contains (kind, element)

/-- Sensing emitters of a bin (R150); 0 where self-test has mapped out the bin's channel, until a release has landed (Table 16-1, R492). -/
def State.area (s : State) (b : Nat) : Nat :=
  if s.mappedBy 2 b || s.bst.released.contains (2, b) then 0
  else if s.flag Reg.STR_STATUS.LIMP_ENGAGED ∧ Block.limpBin s.ksBlock (b % 256) (b / 256) then 0
  else
    let dark := !(litBinsOf s.scan.activePwm).contains b && !s.sns.litBefore.contains b
    (binSites b).foldl (fun n i =>
      let st := s.siteState i
      let idle := match st with
        | 0 => true
        | 1 => !s.idleLow i true
        | 2 => !s.idleLow i false
        | _ => false
      n + b2n idle + b2n (dark && st != 3)) 0

/-- The ambient code of an illuminance num / den in 1/64 lux: the greatest A up to 4,095 with 10^(A / 819) lux at most it. -/
def ambientCode (num den : Nat) : Nat :=
  if num ≤ 64 * den then 0
  else bisect (fun a => decide (10 ^ a * (64 * den) ^ 819 ≤ num ^ 819)) 12 0

/-- Words of two bytes in SRAM. -/
def State.half (s : State) (a : Nat) : Nat := ofLe (Memory.readN 0 s.sram a 2)
def State.setHalf (s : State) (a v : Nat) : State := { s with sram := Memory.writeN 0 s.sram a (le 2 v) }

/-- Reverse sensing starts anew at a start or a wake (R152, R154, R158): nothing sensed yet, no zone present. -/
def State.senseLost (s : State) : State :=
  (s.setSns { Sensing.initial with config := s.sns.config }).setAll ([(Reg.SNS_STATUS.LIMP, 0), (Reg.SNS_STATUS.SSD_ACTIVE, 0),
    (Reg.SNS_STATUS.BRIGHT_ANY, 0), (Reg.SNS_STATUS.UNSTEADY, 0), (Reg.SNS_STATUS.PRESENCE, 0), (Reg.SNS_SEQ.SEQ, 0),
    (Reg.SNS_AMB_MEAN.CODE, 0), (Reg.SNS_BRIGHT_COUNT.COUNT, 0)]
    ++ (List.range 8).flatMap (fun z => [(Reg.SNS_ZONE_LEVEL.CODE z, 0), (Reg.SNS_ZONE_LEVEL.PRESENT z, 0)]))

/-- Mean of a list, rounded down. -/
def meanOf (l : List Nat) : Nat := l.foldl (· + ·) 0 / l.length

/-- The SENSING event (Table 9-4). -/
def State.sensingEvent (s : State) (reason zone code : Nat) : State :=
  s.event 0xF014 ([byte reason, byte zone] ++ le 2 code ++ le 4 (s.get Reg.SNS_SEQ.SEQ) ++ le 8 s.time)

/-- The presence flag of a zone clears, with its event (R154). -/
def State.clearPresence (s : State) (z : Nat) : State :=
  let s := s.setSns { s.sns with heldAt := s.sns.heldAt.erase z }
  if bit (s.get Reg.SNS_STATUS.PRESENCE) z then
    (s.setAll [(Reg.SNS_STATUS.PRESENCE, s.get Reg.SNS_STATUS.PRESENCE - 2 ^ z), (Reg.SNS_ZONE_LEVEL.PRESENT z, 0)]).sensingEvent 2 z
      (s.get (Reg.SNS_ZONE_LEVEL.CODE z))
  else s

/-- A SENSE_CONFIG takes effect (R157): the mirrors change; a zone whose rectangle changes restarts its presence flag. -/
def State.applySense (s : State) (p : List Byte) : State :=
  let s := s.setAll [(Reg.SNS_CTRL.ENABLE, leAt p 0 1), (Reg.SNS_CTRL.ZONE_EN, leAt p 1 1), (Reg.SNS_CTRL.BG_SHIFT, leAt p 2 1),
    (Reg.SNS_SSD.MARGIN, leAt p 3 1), (Reg.SNS_THRESH.BRIGHT_THR, leAt p 4 2), (Reg.SNS_THRESH.CHANGE_THR, leAt p 6 2),
    (Reg.SNS_SSD.LEVEL, leAt p 8 1), (Reg.SNS_ZONE_CFG.CHANGE_COUNT, leAt p 9 1), (Reg.SNS_SSD.RELEASE, leAt p 10 2),
    (Reg.SNS_ZONE_CFG.PRESENCE_HOLD, leAt p 12 2)]
  (List.range 8).foldl (fun s z =>
    let new := (List.range 4).map (fun k => leAt p (16 + 4 * z + k) 1)
    let old := [s.get (Reg.SNS_ZONE_RECT.COL_FIRST z), s.get (Reg.SNS_ZONE_RECT.COL_LAST z), s.get (Reg.SNS_ZONE_RECT.ROW_FIRST z),
      s.get (Reg.SNS_ZONE_RECT.ROW_LAST z)]
    if new = old then s
    else
      let s := s.clearPresence z
      (s.setSns { s.sns with setAt := s.sns.setAt.erase z }).setAll [(Reg.SNS_ZONE_RECT.COL_FIRST z, nth 0 new 0),
        (Reg.SNS_ZONE_RECT.COL_LAST z, nth 0 new 1), (Reg.SNS_ZONE_RECT.ROW_FIRST z, nth 0 new 2), (Reg.SNS_ZONE_RECT.ROW_LAST z, nth 0 new 3)]) s

/-- The bins of a zone. -/
def State.zoneBins (s : State) (z : Nat) : List Nat :=
  (List.range 16384).filter (fun b => decide (s.get (Reg.SNS_ZONE_RECT.COL_FIRST z) ≤ b % 256 ∧ b % 256 ≤ s.get (Reg.SNS_ZONE_RECT.COL_LAST z)
    ∧ s.get (Reg.SNS_ZONE_RECT.ROW_FIRST z) ≤ b / 256 ∧ b / 256 ≤ s.get (Reg.SNS_ZONE_RECT.ROW_LAST z)))

/-- Bright-source, change and background of one bin (R152). -/
def State.useReading (s : State) (b r : Nat) : State :=
  let l := (r :: Assoc.get [] s.sns.used b).take 16
  let first := (Assoc.get [] s.sns.used b).isEmpty
  let m := meanOf l
  let bg := if first then r * 256 else ofLe (Memory.readN 0 s.sram (0x01C20000 + 4 * b) 4)
  let d : Int := (m : Int) - (bg / 256 : Nat)
  let thr : Int := s.get Reg.SNS_THRESH.BRIGHT_THR
  let was := Assoc.get 0 s.sns.bright b == 1
  let up := was || decide (thr ≤ d)
  let on := up && !decide (2 * d < thr)
  let bg := if on then bg else ((bg : Int) + ((r * 256 : Nat) - (bg : Int)) / (2 ^ s.get Reg.SNS_CTRL.BG_SHIFT : Nat)).toNat
  let change := min (max d (-32768)) 32767
  let far := decide ((s.get Reg.SNS_THRESH.CHANGE_THR : Int) ≤ d ∨ d ≤ -(s.get Reg.SNS_THRESH.CHANGE_THR : Int))
  let run := if far then min (Assoc.get 0 s.sns.run b + 1) 255 else 0
  let s := s.setSns { s.sns with used := Assoc.set [] s.sns.used b l, bright := Assoc.set 0 s.sns.bright b (b2n on), run := Assoc.set 0 s.sns.run b run }
  let s := (s.setHalf (0x01C10000 + 2 * b) (min 65535 m)).setHalf (0x01C18000 + 2 * b) (ofSigned 16 change)
  { s with sram := Memory.writeN 0 s.sram (0x01C20000 + 4 * b) (le 4 bg) }

/-- The eight bins around a bin. -/
def binsAround (b : Nat) : List Nat :=
  let xs := [b % 256 - 1, b % 256, b % 256 + 1].filter (fun c => decide (c < 256))
  let ys := [b / 256 - 1, b / 256, b / 256 + 1].filter (fun r => decide (r < 64))
  ((ys.flatMap (fun r => xs.map (fun c => r * 256 + c))).filter (fun j => j != b)).eraseDups

/-- The mean over bins of the mean of each bin's last 64 steady readings, in 1/64 lux; `none` where no bin has one. -/
def State.steadyMean (s : State) (bs : List Nat) : Option Rat :=
  let ms := bs.filterMap (fun b => let l := Assoc.get [] s.sns.steady b; if l.isEmpty then none else some (((l.foldl (· + ·) 0 : Nat) : Rat) / (l.length : Nat)))
  if ms.isEmpty then none else some (ms.foldl (· + ·) 0 / (ms.length : Nat))

/-- The ambient map and what follows it (Table 5-7, R154): every 16 steady readings. -/
def State.ambient (s : State) (good : List Nat) : State :=
  let code := fun (bs : List Nat) => match s.steadyMean bs with | some m => ambientCode m.num.toNat m.den | none => 0
  let s' := (List.range 16384).foldl (fun s' b =>
    s'.setHalf (0x01C00000 + 2 * b) (if good.contains b then code [b] else code ((binsAround b).filter (fun j => good.contains j)))) s
  let s' := s'.set Reg.SNS_AMB_MEAN.CODE (code good)
  (List.range 8).foldl (fun s' z =>
    if bit (s.get Reg.SNS_CTRL.ZONE_EN) z then s'.set (Reg.SNS_ZONE_LEVEL.CODE z) (code ((s.zoneBins z).filter (fun b => good.contains b)))
    else s') s'

/-- Presence of one zone after a reading (R154). -/
def State.presence (s : State) (z : Nat) : State :=
  let n := s.get Reg.SNS_ZONE_CFG.CHANGE_COUNT
  if bit (s.get Reg.SNS_CTRL.ZONE_EN) z && (s.zoneBins z).any (fun b => decide (n ≤ Assoc.get 0 s.sns.run b)) then
    let on := bit (s.get Reg.SNS_STATUS.PRESENCE) z
    let s := s.setSns { s.sns with heldAt := s.sns.heldAt.insert z s.now }
    if on then s
    else
      let s := (s.setSns { s.sns with setAt := s.sns.setAt.insert z s.now }).setAll
        [(Reg.SNS_STATUS.PRESENCE, s.get Reg.SNS_STATUS.PRESENCE + 2 ^ z), (Reg.SNS_ZONE_LEVEL.PRESENT z, 1)]
      s.sensingEvent 1 z (s.get (Reg.SNS_ZONE_LEVEL.CODE z))
  else s

/-- The bins of the sensed-source mask: the bright bins widened by SSD_MARGIN on each side (R155). -/
def State.ssdBins (s : State) : List Nat :=
  let m := s.get Reg.SNS_SSD.MARGIN
  let near := fun b c => decide (b % 256 ≤ c % 256 + m ∧ c % 256 ≤ b % 256 + m ∧ b / 256 ≤ c / 256 + m ∧ c / 256 ≤ b / 256 + m)
  (List.range 16384).filter (fun b => s.sns.bright.any (fun p => near b p.1))

/-- The mask's part at boundary `b` (R155, R156): the mask of the last reading is used for the frames loaded from now on; bins that leave
a mask that is shown return linearly over SSD_RELEASE. -/
def State.ssdBoundary (s : State) (b : Nat) : State :=
  let acts := s.ssdActs b
  let s := s.set Reg.SNS_STATUS.SSD_ACTIVE (b2n acts)
  let fresh := s.sns.next.getD s.sns.mask
  if !acts then (s.setBeam { s.beam with ssd := fresh }).setSns { s.sns with next := none, mask := fresh, leaving := [] }
  else
    let full := 4096 - 16 * (s.get Reg.SNS_SSD.LEVEL + 1)
    let rel := ms (s.get Reg.SNS_SSD.RELEASE)
    let shown := s.beam.ssd.filter (fun (p : Nat × Nat) => (s.sns.leaving.find p.1).isNone)
    let leaving := (s.sns.leaving ++ shown.map (fun (p : Nat × Nat) => (p.1, b))).filter (fun (p : Nat × Nat) => (fresh.find p.1).isNone)
    let fading := leaving.filterMap (fun (p : Nat × Nat) => if b < p.2 + rel then some (p.1, full * (p.2 + rel - b) / rel) else none)
    let left := leaving.filter (fun (p : Nat × Nat) => decide (b < p.2 + rel))
    (s.setBeam { s.beam with ssd := fading.foldl (fun (m : NMap) (p : Nat × Nat) => Assoc.set 0 m p.1 p.2) fresh }).setSns
      { s.sns with next := none, mask := fresh, leaving := left }

/-- REVERSE_SENSING_READING (R150 to R156): the slot of an odd frame, with the illuminance of each bin in 1/64 lux. A bin that is AREA_LOW
loses its bright flag and its run of changes (DESIGN CHOICE, notes/assumptions/75.md). -/
def execReverseSensingReading (lux : List Nat) (s : State) : Host.Outcome State Fault Refusal :=
  if s.scan.running && s.scan.inSlot && s.get Reg.SCN_FRAME_COUNT.COUNT % 2 == 1 then
    let s := s.until (s.slotAt + 4100)
    let s := match s.sns.config with
      | some p => (s.applySense p).setSns { (s.applySense p).sns with config := none }
      | none => s
    let en := s.get Reg.SNS_CTRL.ENABLE
    let s := s.wrapUp Reg.SNS_SEQ.SEQ Reg.SNS_STATUS.SEQ_WRAP
    let areas := (List.range 16384).map s.area
    let s := { s with sram := Memory.store 0 s.sram 0x01C34000 (areas.map byte) }
    let good := (List.range 16384).filter (fun b => decide (16 ≤ nth 0 areas b))
    let s := s.setSns { s.sns with
      bright := s.sns.bright.filter (fun p => decide (16 ≤ nth 0 areas p.1)), run := s.sns.run.filter (fun p => decide (16 ≤ nth 0 areas p.1)) }
    let val := fun b => min (nth 0 lux b) (2 ^ 24 - 1)
    let limp := s.flag Reg.STR_STATUS.LIMP_ENGAGED
    let any := s.flag Reg.SNS_STATUS.BRIGHT_ANY
    let mean := if good.isEmpty then 0 else meanOf (good.map val)
    let unsteady := match s.sns.mean with
      | none => false
      | some m => let d := max mean m - min mean m; decide (m < 4 * d ∧ 64 < d)
    let s := s.setAll [(Reg.SNS_STATUS.LIMP, b2n limp), (Reg.SNS_STATUS.UNSTEADY, b2n unsteady)]
    let s := s.setSns { s.sns with mean := some mean }
    let s := if bit en 1 then
        { s with sram := Memory.store 0 s.sram 0x01C08000 ((List.range 16384).flatMap (fun b => le 2 (min 65535 (val b)))) } else s
    let used := !unsteady && !limp
    let s := if !used || !(bit en 1 || bit en 2) then s
      else (good.filter (fun b => decide (val b < 65535))).foldl (fun s b => s.useReading b (val b)) s
    let s := s.setAll [(Reg.SNS_BRIGHT_COUNT.COUNT, s.sns.bright.length), (Reg.SNS_STATUS.BRIGHT_ANY, b2n (!s.sns.bright.isEmpty))]
    let s := if !any && !s.sns.bright.isEmpty then s.sensingEvent 3 0xFF (s.get Reg.SNS_AMB_MEAN.CODE)
      else if any && s.sns.bright.isEmpty then s.sensingEvent 4 0xFF (s.get Reg.SNS_AMB_MEAN.CODE) else s
    let s := if unsteady then s
      else
        let steady := good.foldl (fun m b => Assoc.set [] m b ((val b :: Assoc.get [] m b).take 64)) s.sns.steady
        let s := s.setSns { s.sns with steady := steady, steadyCount := s.sns.steadyCount + 1 }
        if bit en 0 && s.sns.steadyCount % 16 == 0 then s.ambient good else s
    let s := if bit en 2 && used then (List.range 8).foldl State.presence s else s
    let m := s.ssdBins.map (fun b => (b, 4096 - 16 * (s.get Reg.SNS_SSD.LEVEL + 1)))
    .next (s.setSns { s.sns with next := some (m.filter (fun p => p.2 != 0)) })
  else .next s

/-- PRESENCE_HOLD_EXPIRY (R154): PRESENCE_HOLD seconds after the last qualifying bin of a zone. -/
def execPresenceHoldExpiry (zone : Nat) (s : State) : Host.Outcome State Fault Refusal :=
  match s.sns.heldAt.find zone with
  | none => .next s
  | some t =>
    if bit (s.get Reg.SNS_STATUS.PRESENCE) zone then
      let s := s.until (t + ms (1000 * s.get Reg.SNS_ZONE_CFG.PRESENCE_HOLD))
      .next (s.clearPresence zone)
    else .next s

/-! ### Commands (R157, R158) -/

/-- A field of Table 5-8 out of range. -/
def State.senseBad (s : State) (p : List Byte) : Bool :=
  decide (16 ≤ leAt p 0 1) || (bit (leAt p 0 1) 3 && s.id.variant == .iw) || decide (leAt p 2 1 < 6 ∨ 14 < leAt p 2 1 ∨ 8 < leAt p 3 1
    ∨ leAt p 4 2 < 16 ∨ leAt p 6 2 < 16 ∨ leAt p 9 1 = 0 ∨ 64 < leAt p 9 1 ∨ 10000 < leAt p 10 2 ∨ leAt p 12 2 = 0 ∨ 3600 < leAt p 12 2
    ∨ leAt p 14 2 ≠ 0)
    || (List.range 8).any (fun z => decide (leAt p (17 + 4 * z) 1 < leAt p (16 + 4 * z) 1 ∨ leAt p (19 + 4 * z) 1 < leAt p (18 + 4 * z) 1
      ∨ 63 < leAt p (19 + 4 * z) 1))

/-- 0x0D00 SENSE_CONFIG (R157). -/
def runSenseConfig (r : Req) (s : State) : Answer :=
  if s.id.lifecycle = .blank ∨ s.id.lifecycle = .returned then refuse s Status.notPermitted
  else if s.senseBad r.params then refuse s Status.badParam
  else accept (s.setSns { s.sns with config := some r.params })

def opSenseConfig : Op := ⟨0x0D00, exactly 48, runSenseConfig⟩
def execSenseConfig (r : Req) (s : State) : Host.Outcome State Fault Refusal := .next (s.command opSenseConfig r)

/-- The zones of MAP 4 (Table 5-9): the change of greatest magnitude in each zone. -/
def State.zoneBytes (s : State) (z : Nat) : List Byte :=
  let ch := (s.zoneBins z).map (fun b => toSigned 16 (s.half (0x01C18000 + 2 * b)))
  let top := ch.foldl (fun (m v : Int) => if m.natAbs < v.natAbs then v else m) 0
  let age := match s.sns.setAt.find z with
    | some t => min 65535 ((s.now - t) / 100000000)
    | none => 65535
  le 2 (s.get (Reg.SNS_ZONE_LEVEL.CODE z)) ++ le 2 (ofSigned 16 top) ++ [byte (s.get (Reg.SNS_ZONE_LEVEL.PRESENT z)), byte 0] ++ le 2 age

/-- 0x0D01 SENSE_READ (R158). -/
def runSenseRead (r : Req) (s : State) : Answer :=
  let p := r.params
  let map := leAt p 0 1
  let row := leAt p 2 2
  if 4 < map ∨ leAt p 1 1 ≠ 0 ∨ (map < 4 ∧ 63 < row) then refuse s Status.badParam
  else
    let en := s.get Reg.SNS_CTRL.ENABLE
    let on := match map with
      | 0 => bit en 0
      | 1 => bit en 1
      | 2 => bit en 1
      | 3 => bit en 2
      | _ => s.get Reg.SNS_CTRL.ZONE_EN != 0
    let none_ := s.sns.mean.isNone
    let dead := !on || none_
    let flags := s.get Reg.SNS_STATUS.LIMP + 2 * b2n (!on) + 4 * s.get Reg.SNS_STATUS.UNSTEADY + 8 * b2n none_
    let head := [byte map, byte flags] ++ le 4 (s.get Reg.SNS_SEQ.SEQ)
    if map = 4 then answer s (head ++ (if dead then le 64 0 else (List.range 8).flatMap s.zoneBytes))
    else
      let base := match map with
        | 0 => 0x01C00000
        | 1 => 0x01C08000
        | 2 => 0x01C10000
        | _ => 0x01C18000
      let low := (List.range 32).map (fun k => byte ((List.range 8).foldl (fun v j =>
        v + b2n (decide ((Memory.read 0 s.sram (0x01C34000 + 256 * row + 8 * k + j)).toNat < 16)) * 2 ^ j) 0))
      answer s (head ++ le 2 row ++ le 2 0 ++ low ++ (if dead then le 512 0 else Memory.readN 0 s.sram (base + 512 * row) 512))

def opSenseRead : Op := ⟨0x0D01, exactly 4, runSenseRead⟩
def execSenseRead (r : Req) (s : State) : Host.Outcome State Fault Refusal := .next (s.command opSenseRead r)

end Sys2Proof.Machine
end

