-- ==== Sys2Proof/Machine/Frame.lean ====
section
/-! DEFINITION. The light frame: rows, the slot, the swap and the boundary (02_light_frame_and_scan_out), with what the
chapters 01, 03, 12 and 14 bind to the boundary. -/

namespace Sys2Proof.Machine

/-! ### Rows (R52, R53, R58, R61, R68) -/

/-- The classes' K values, listed (R67). -/
def kTable : List Nat := (List.range 64).map kOf

/-- The entries of a map whose keys lie in `[lo, hi)` replaced by those of another. -/
def splice (m conv : NMap) (lo hi : Nat) : NMap :=
  m.filter (fun p => decide (p.1 < lo)) ++ conv.filter (fun p => decide (lo ≤ p.1 ∧ p.1 < hi)) ++ m.filter (fun p => decide (hi ≤ p.1))

/-- The 3,264 bytes of a row of drive words. -/
def rowBytesOf (pwm cls : NMap) (r : Nat) : List Byte :=
  let pwm := keysIn pwm (2048 * r) 2048
  let cls := keysIn cls (256 * r) 256
  (List.range 1024).flatMap (fun j => le 3 (Assoc.get 0 pwm (2048 * r + 2 * j) + 4096 * Assoc.get 0 pwm (2048 * r + 2 * j + 1)))
    ++ (List.range 64).flatMap (fun m => le 3 ((List.range 4).foldl (fun v q => v + Assoc.get 0 cls (256 * r + 4 * m + q) * 64 ^ q) 0))

/-- The row check of R68. -/
def rowCheck (pwm cls : NMap) (r : Nat) : Nat := crc32cFold r (rowBytesOf pwm cls r)

/-- The watermark level and the request priority that it gives (R58); each entry into URGENT or CRITICAL is counted. -/
def State.setLevel (s : State) (level next : Nat) : State :=
  let old := s.get Reg.SCN_STATUS.PRIO
  let prio := if 2 ≤ level then 0 else if level = 1 then 1 else if next < 512 then 2 else 0
  let s := s.setAll [(Reg.SCN_STATUS.LB_LEVEL, level), (Reg.SCN_STATUS.PRIO, prio)]
  if prio = old ∨ prio = 0 then s
  else s.bump (if prio = 1 then Reg.SCN_URGENT_COUNT.COUNT else Reg.SCN_CRITICAL_COUNT.COUNT) Reg.SCN_STATUS.PRIO_SAT

/-- ROW_PACED_LOAD (R52, R57, R58): the next row moves towards the backplane once its row slot is open; `level` complete
rows are in the line buffer. -/
def execRowPacedLoad (level : Nat) (s : State) : Host.Outcome State Fault Refusal :=
  let c := s.scan
  if c.running && c.loading && !s.scanHeld && c.convKey.isSome && !c.inSlot && decide (c.row < 512) && !c.staged && !c.rowDone && !c.sent then
    let s := s.until (s.tickAt (8 * c.row))
    .next ((s.setScan { s.scan with staged := true }).setLevel (min level 4) c.row)
  else .next s

/-- The greatest Q of a row within a packed box (R67): (p × K[c]) >> 12 over the pixels of the box in the row. -/
def rowMax (pwm cls : NMap) (box r : Nat) : Nat :=
  if bit box 15 ∧ bits box 32 9 ≤ r ∧ r ≤ bits box 48 9 then
    pwm.foldl (fun m p =>
      if p.1 / 2048 = r ∧ bits box 0 11 ≤ p.1 % 2048 ∧ p.1 % 2048 ≤ bits box 16 11 then
        max m (p.2 * nth 0 kTable (Assoc.get 0 cls (p.1 / 8)) / 4096) else m) 0
  else 0

/-- The row charge of a row (R370). -/
def rowCharge (pwm cls : NMap) (r : Nat) : Nat :=
  let pwm := keysIn pwm (2048 * r) 2048
  let cls := keysIn cls (256 * r) 256
  (List.range 256).foldl (fun q k => q + nth 0 kTable (Assoc.get 0 cls (256 * r + k)) * maxPwm pwm (256 * r + k) / 4096) 0

/-- A box of the SAF_BOX registers, packed. -/
def State.box (s : State) (n : Nat) : Nat :=
  if s.flag (Reg.SAF_BOX0.VALID n) then
    packBox (s.get (Reg.SAF_BOX0.COL_FIRST n)) (s.get (Reg.SAF_BOX0.COL_LAST n)) (s.get (Reg.SAF_BOX1.ROW_FIRST n)) (s.get (Reg.SAF_BOX1.ROW_LAST n))
  else 0

/-- A row is committed to the shadow latches: its row check, the box maxima and its row charge follow (R53, R67, R68, R370). -/
def State.commitRow (s : State) (r : Nat) : State :=
  let c := s.scan
  let pwm := splice c.shadowPwm c.convPwm (2048 * r) (2048 * r + 2048)
  let cls := splice c.shadowClass c.convClass (256 * r) (256 * r + 256)
  let box := (List.range 128).foldl (fun m n => Assoc.set 0 m n (max (Assoc.get 0 m n) (rowMax pwm cls (s.box n) r))) c.boxRun
  (s.setScan { c with
    shadowPwm := pwm, shadowClass := cls, boxRun := box, rowRun := Assoc.set 0 c.rowRun r (rowCharge pwm cls r)
    repeats := c.repeats.filter (fun x => x != r) }).set (Reg.SCN_ROWCHK_BUILD.CHK r) (rowCheck pwm cls r)

/-- A parity error on a row transfer (R63). -/
def State.parityError (s : State) (r : Nat) (injected : Bool) : State :=
  (s.bump Reg.SCN_D2D_ERR_COUNT.COUNT Reg.SCN_STATUS.D2D_SAT).report ⟨Src.scnD2dParity, r, 5, 3, injected, false⟩

/-- The row whose load is due leaves the line buffer, when it is first sent or when it is discarded at its deadline (R58, R61). -/
def State.takeRow (s : State) : State :=
  if s.scan.sent then s
  else (s.setScan { s.scan with sent := true }).setLevel (s.get Reg.SCN_STATUS.LB_LEVEL - 1) (s.scan.row + 1)

/-- ROW_TRANSFER_RECEIVED (R53, R61, R67, R68): `transfers` of the row's 102 have arrived, with or without a parity error.
After a parity error the row is sent once more if that can still meet the deadline. -/
def execRowTransferReceived (transfers : Nat) (parity : Bool) (s : State) : Host.Outcome State Fault Refusal :=
  let c := s.scan
  if c.running && c.staged && !c.rowDone && !c.inSlot && !s.scanHeld then
    let s := s.wait 41
    let due := s.tickAt (8 * c.row + 8)
    let inj := s.armed 0x24
    let s := s.takeRow.injectAt 0x24
    if parity || inj then
      let again := !c.resent && decide (s.now + 41 ≤ due)
      .next ((s.setScan { s.scan with staged := again, resent := true }).parityError c.row inj)
    else if 102 ≤ transfers ∧ s.now ≤ due then .next ((s.setScan { s.scan with rowDone := true }).commitRow c.row)
    else .next (s.setScan { s.scan with staged := false })
  else .next s

/-- A row repeats (R61, R63). -/
def State.repeatRow (s : State) (r : Nat) : State :=
  let first := s.scan.repeats.isEmpty
  let s := (s.setScan { s.scan with repeats := r :: s.scan.repeats }).bump Reg.SCN_ROW_REPEAT_COUNT.COUNT Reg.SCN_STATUS.ROW_REP_SAT
  if first then s.fault Src.scnRowRepeat r 5 3 else s

/-- The deadline of the next row passes: a row that did not commit repeats. -/
def State.passRow (s : State) : State :=
  let r := s.scan.row
  let s := if s.scan.rowDone then s else s.repeatRow r
  let s := s.takeRow
  s.setScan { s.scan with row := r + 1, staged := false, rowDone := false, resent := false, sent := false }

/-- ROW_DEADLINE (R52, R61). -/
def execRowDeadline (s : State) : Host.Outcome State Fault Refusal :=
  let c := s.scan
  if c.running && c.loading && !s.scanHeld && !c.inSlot && decide (c.row < 512) then
    .next (s.until (s.tickAt (8 * c.row + 8))).passRow
  else .next s

/-- LATE_RELOAD (R54, R59, R88): one row already loaded is loaded again with the landed content, before Sk. DESIGN CHOICE
(notes/assumptions/69.md): a reload that came with a parity error or incomplete is sent again until it succeeds or Sk comes. -/
def execLateReload (transfers : Nat) (parity : Bool) (s : State) : Host.Outcome State Fault Refusal :=
  let c := s.scan
  match c.reloads with
  | [] => .next s
  | r :: rest =>
    if c.running && !c.inSlot && !s.scanHeld && decide (s.now + 42 ≤ s.slotAt) then
      let inj := s.armed 0x24
      let s := (s.wait 42).injectAt 0x24
      if parity || inj then .next (s.parityError r inj)
      else if 102 ≤ transfers then
        .next (((s.setScan { s.scan with reloads := rest }).commitRow r).bump Reg.SCN_RELOAD_COUNT.COUNT Reg.SCN_STATUS.RELOAD_SAT)
      else .next s
    else .next s

/-! ### The slot (R69, R71, R372 to R376) -/

/-- The rows whose deadline is not yet passed when the slot begins. -/
def State.passRows (s : State) : Nat → State
  | 0 => s
  | k + 1 => if s.scan.row < 512 then (s.passRow).passRows k else s

/-- Sk (R71, R75, R95, R136): the last deadline has passed; regulators stop, findings are reported. -/
def State.slotStart (s : State) : State :=
  let s := if s.scan.loading && !s.scanHeld then s.passRows 512 else s
  let clipped := s.scan.clips.foldl (fun n p => n + p.2) 0
  let s := s.bumpBy Reg.STR_CLIP_COUNT.COUNT Reg.STR_STATUS.CLIP_SAT clipped
  let s := s.noteConduct
  ((s.setScan { s.scan with inSlot := true, clips := [] }).setSp { s.sp with limitDone := false }).diagSlot

/-- SLOT_START (R71). -/
def execSlotStart (s : State) : Host.Outcome State Fault Refusal :=
  if s.scan.running && !s.scan.inSlot then .next (s.until s.slotAt).slotStart else .next s

/-- The 2,048 bytes of the row checks of the frame being built (R69). -/
def State.rowCheckBytes (s : State) : List Byte := (List.range 512).flatMap (fun r => le 4 (s.get (Reg.SCN_ROWCHK_BUILD.CHK r)))

/-- The content and witness signatures of the frame being built (R69). -/
def State.contentSig (s : State) : Nat := crc32c s.rowCheckBytes
def State.witnessSig (s : State) (count : Nat) : Nat := crc32cFold count s.rowCheckBytes

/-- SIGNATURE_COMPUTE (R69): at Sk + 200; `arrives` when the witness is at the backplane in time. -/
def execSignatureCompute (arrives : Bool) (s : State) : Host.Outcome State Fault Refusal :=
  if s.scan.running && s.scan.inSlot && s.scan.loading && !s.scanHeld then
    let s := s.until (s.slotAt + 200)
    let n := s.comingCount
    let w := s.witnessSig n
    let s := s.setAll [(Reg.SCN_SIG_CONTENT.SIG, s.contentSig), (Reg.SCN_SIG_WITNESS.SIG, w), (Reg.SCN_SIG_FRAME.COUNT, n)]
    .next (if arrives then s.setScan { s.scan with received := some w } else s)
  else .next s

/-- The final maximum of a box: a box that meets a repeated row takes the greater of its own and that of the frame shown
before (R67). -/
def State.boxFinal (s : State) (n : Nat) : Nat :=
  let b := s.box n
  let own := Assoc.get 0 s.scan.boxRun n
  if bit b 15 && s.scan.repeats.any (fun r => decide (bits b 32 9 ≤ r ∧ r ≤ bits b 48 9)) then max own (Assoc.get 0 s.scan.boxShown n) else own

/-- The final charge of a row (R370). -/
def State.rowFinal (s : State) (r : Nat) : Nat :=
  let own := Assoc.get 0 s.scan.rowRun r
  if s.scan.repeats.contains r then max own (Assoc.get 0 s.scan.rowShown r) else own

/-- The comparisons of R372: every box against DIM_Q_MAX, and while the limiter is in force every guarded row against
CUTOFF_I_LIMIT. -/
def State.limitCheck (s : State) : State :=
  let blk := s.spBlock
  let q := Block.dimQMax blk
  let boxes := (List.range 128).map (fun n => (n, s.boxFinal n))
  let rows := (List.range 512).map (fun r => (r, s.rowFinal r))
  let s := s.setSp { s.sp with limitDone := true }
  let s := boxes.foldl (fun s x => s.setAll [(Reg.SAF_BOX_MAX.MAX x.1, x.2), (Reg.SAF_BOX_MAX.OVER x.1, b2n (decide (q < x.2)))]) s
  let s := rows.foldl (fun s x => s.set (Reg.SAF_ROW_Q.Q x.1) x.2) s
  let s := match boxes.find? (fun x => decide (q < x.2)) with
    | some x => s.lockoutCause 0x10 x.1 1
    | none => s
  let t := s.timing s.nextBoundary
  match rows.find? (fun x => Block.guarded blk x.1
      && decide (Block.cutoffLimit blk * 65535 * framePeriod t.1 t.2 < 160 * x.2 * 4096 * t.1)) with
  | some x => if s.cutFor then s.lockoutCause 0x11 x.1 1 else s
  | none => s

/-- SP_LIMIT_CHECK (R372): at Sk + 400. -/
def execSpLimitCheck (s : State) : Host.Outcome State Fault Refusal :=
  if s.scan.running && s.scan.inSlot && s.spUp && !s.sp.limitDone then .next (s.until (s.slotAt + 400)).limitCheck else .next s

/-- A commanded change lands for the coming boundary (R375). -/
def State.commandedChange (s : State) : Bool :=
  let n := s.comingCount
  s.inForce.base.edition != s.beam.front.base.edition || s.boxesFor != s.sp.boxShown
    || (match s.comingFrame n with
        | some r => s.link.useCheck != some r.check
        | none => false)

/-- An output mismatch or a stuck output (R376): a CONTAINED fault; a second one within 10 s is a lock-out cause. -/
def State.outputFault (s : State) (stuck inj : Bool) (addr : Nat) : State :=
  let again := match s.sp.lastOutputFault with
    | none => false
    | some t => decide (s.now ≤ t + 1000000000)
  let s := s.setSp { s.sp with lastOutputFault := some s.now }
  let s := s.report ⟨if stuck then Src.scnContentStuck else Src.scnOutputCheck, addr, 1, 4, inj, false⟩
  if again then s.lockoutCause (if stuck then 0x13 else 0x12) addr 1 else s

/-- R375 for the slot that runs: a change that has been shown for two frames without a new content signature is missed. -/
def State.changeCheck (s : State) : State :=
  let sig := s.get Reg.SCN_SIG_CONTENT.SIG
  let same := s.sp.lastSig == some sig
  let s := if same then s else s.setSp { s.sp with misses := 0 }
  let left := s.sp.changes.filter (fun c => sig == c.2)
  let s := s.setSp { s.sp with changes := (left.filter (fun c => c.1 == 0)).map (fun c => (1, c.2)) }
  let s := if left.any (fun c => c.1 != 0) then
      (s.setSp { s.sp with misses := s.sp.misses + 1 }).bump Reg.SAF_CHANGE_MISS_COUNT.COUNT Reg.SAF_STATUS.CNT_SAT
    else s
  if s.sp.misses = 3 then (s.setSp { s.sp with misses := 0 }).outputFault true false (s.get Reg.SCN_FRAME_COUNT.COUNT) else s

/-- A commanded change starts its two frames (R375). -/
def State.changeStart (s : State) : State :=
  match s.sp.lastSig with
  | some f => if s.commandedChange then s.setSp { s.sp with changes := s.sp.changes ++ [(0, f)] } else s
  | none => s

/-- SP_OUTPUT_CHECK (R374 to R376): at Sk + 600. `row` is the first row whose check at the taps differs; only the four rows that the
light frame's number selects are recomputed. The checks pause while scan-out is held and for three frames after a SCAN block reset. An armed CHK1 or CHK2 inverts what the frame's
comparison sees (R424, R541; notes/assumptions/87.md). -/
def execSpOutputCheck (row : Option Nat) (s : State) : Host.Outcome State Fault Refusal :=
  if s.scan.running && s.scan.inSlot && s.spUp then
    let s := s.until (s.slotAt + 600)
    if s.scanHeld ∨ 0 < s.sp.pause ∨ !s.scan.loading then .next s
    else
      let n := s.comingCount
      let sig := s.get Reg.SCN_SIG_CONTENT.SIG
      let inj := s.armed 0x21 || s.armed 0x22
      let s := (s.injectAt 0x21).injectAt 0x22
      let bad := inj || sig != s.contentSig || s.get Reg.SCN_SIG_WITNESS.SIG != s.witnessSig n || s.get Reg.SCN_SIG_FRAME.COUNT != n
      let row := row.filter (fun r => r / 4 == s.get Reg.SCN_FRAME_COUNT.COUNT % 128)
      let s := if bad ∨ row.isSome then
          (s.bump Reg.SAF_OUTPUT_ERR_COUNT.COUNT Reg.SAF_STATUS.CNT_SAT).outputFault false inj (if bad then 0xFFFF else row.getD 0) else s
      let s := s.changeStart.changeCheck
      .next (s.setSp { s.sp with lastSig := some sig, lastFrame := some n })
  else .next s

/-! ### Swap or skip (R55, R62, R63) -/

/-- The frame carries content that was not shown before (02, Underruns and repeats). In the clone modes the master shows the composition
it sent for this boundary (R342). -/
def State.changedFrame (s : State) : Bool :=
  let content := if s.showsClone then (match s.casc.cloneNext with
      | some (f, _) => f == s.comingCount && s.casc.cloneNew
      | none => false)
    else s.contentLands
  s.scan.changed || content || s.wordLands || s.calLands.isSome || s.cutLands.isSome

/-- The cases of R62. -/
def State.frameRepeats (s : State) : Bool :=
  decide (s.scan.row < 512) || s.scan.repeats.contains 511 || !s.scan.reloads.isEmpty || s.scan.convKey != some s.convSource
    || (s.changedFrame && !s.scan.repeats.isEmpty)

/-- A frame repeat (R62, R63): three in a row are a fault whose reaction is a SCAN block reset; shadowed ones do not count. -/
def State.countRepeat (s : State) : State :=
  let frame := s.get Reg.SCN_FRAME_COUNT.COUNT
  let shadowed := !(s.shadowing ⟨Src.scnFrameRepeat, frame, 5, 3, false, false⟩).isEmpty
  let s := (s.bump Reg.SCN_FRAME_REPEAT_COUNT.COUNT Reg.SCN_STATUS.FRAME_REP_SAT).fault Src.scnFrameRepeat frame 5 3
  if shadowed then s
  else
    let run := min 3 (s.get Reg.SCN_STATUS.REPEAT_RUN + 1)
    let s := s.set Reg.SCN_STATUS.REPEAT_RUN run
    if run = 3 then s.fault Src.scnRepeatRun frame 5 3 else s

/-- The decision of R55, with the reaction of the diagnosis unit (R144). The SP's comparisons come before it. -/
def State.decide_ (s : State) : State :=
  let s := if s.spUp && !s.sp.limitDone && s.scan.loading then s.limitCheck else s
  let s := s.reactSlot
  if s.scanHeld ∨ !s.scan.loading then s.setScan { s.scan with decision := some false }
  else if s.frameRepeats then
    let s := s.countRepeat
    s.setScan { s.scan with decision := some false }
  else s.setScan { s.scan with decision := some true }

/-- SWAP_DECISION (R55): at Sk + 4,200. -/
def execSwapDecision (s : State) : Host.Outcome State Fault Refusal :=
  if s.scan.running && s.scan.inSlot && s.scan.decision.isNone then .next (s.until (s.slotAt + 4200)).decide_ else .next s

/-! ### The boundary -/

/-- Every active latch takes its shadow value (R55). -/
def State.swap (s : State) : State :=
  let c := s.scan
  let boxes := (List.range 128).foldl (fun m n => Assoc.set 0 m n (s.boxFinal n)) []
  let rows := (List.range 512).foldl (fun m r => Assoc.set 0 m r (s.rowFinal r)) []
  let s := (List.range 512).foldl (fun s r => s.set (Reg.SCN_ROWCHK_SHOWN.CHK r) (s.get (Reg.SCN_ROWCHK_BUILD.CHK r))) s
  (s.setScan { c with
    activePwm := c.shadowPwm, activeClass := c.shadowClass, changed := false, split := s.flag Reg.SCN_CTRL.SPLIT4
    boxShown := boxes, rowShown := rows }).setAll
    [(Reg.SCN_STATUS.LAST_SWAP, 1), (Reg.SCN_STATUS.REPEAT_RUN, 0)]

/-- Every shadow latch takes its active value again (R55, R68). -/
def State.copyBack (s : State) : State :=
  let s := (List.range 512).foldl (fun s r => s.set (Reg.SCN_ROWCHK_BUILD.CHK r) (s.get (Reg.SCN_ROWCHK_SHOWN.CHK r))) s
  (s.setScan { s.scan with shadowPwm := s.scan.activePwm, shadowClass := s.scan.activeClass }).set Reg.SCN_STATUS.LAST_SWAP 0

/-- The freeze detector (R70), over a slot in which scan-out ran. -/
def State.freezeCheck (s : State) : State :=
  let w := s.scan.witness
  let w := match s.scan.received with
    | some x => (x :: w).take 3
    | none => match w with
      | x :: _ => (x :: w).take 3
      | [] => []
  let s := s.setScan { s.scan with witness := w, received := none }
  match w with
  | [a, b, c] => if a = b ∧ b = c then (s.set Reg.SCN_STATUS.FREEZE 1).fault Src.scnFreeze (s.get Reg.SCN_FRAME_COUNT.COUNT) 5 4 else s
  | _ => s

/-- The compliance report of the frame that ends (R80); `lit`: a string conducted under the controller path. -/
def State.complReport (s : State) (lit : Bool) : State :=
  let strings := s.scan.compl.map (·.1)
  let v := if !lit then 255 else if s.scan.vregMin = 255 then s.free % 255 else s.scan.vregMin
  let s := if lit ∧ s.scan.vregMin = 255 then s.drawn else s
  let s := (List.range 8).foldl (fun s k =>
    s.set (Reg.STR_CMPL_TILE.MAP k) (maskOf ((strings.map stringTile).filterMap (fun t => if t / 32 = k then some (t % 32) else none)))) s
  (s.setScan { s.scan with compl := [], vregMin := 255 }).setAll [(Reg.STR_CMPL_COUNT.COUNT, strings.length), (Reg.STR_VREG_MIN.V, v)]

/-- The MP commits a word with another DROP and VSET. -/
def State.commitHeadroom (s : State) (drop vset : Nat) : State :=
  let w := s.wordNewest
  let s := s.commitWord (powerWord (bits w 0 9) (bits w 9 7) drop vset)
  s.setScan { s.scan with
    sinceDrop := if drop = bits w 16 6 then s.scan.sinceDrop else 0, sinceVset := if vset = bits w 22 10 then s.scan.sinceVset else 0 }

/-- The change of VSET of Table 3-5's third row. -/
def vsetStep (target v : Nat) : Int :=
  let g : Int := (target : Int) - v
  let d := min 33 (max (-7) (Int.tdiv (g * 2) 3))
  if d < 0 ∧ v < target + 20 then 0 else d

/-- The VSET code that R100 asks for: 1.5 V above the largest string forward voltage of the lit limp-home strings in the ageing
record. -/
def State.limpVset (s : State) : Nat :=
  let sum := fun n => (List.range 8).foldl (fun v j => v + match s.cal.vf.find (8 * n + j) with
    | some r => 1500 + 10 * r.vf
    | none => 0) 0
  let top := ((s.cal.vf.map (fun p => stringOf p.1)).eraseDups.filter s.limpLit).foldl (fun m n => max m (sum n)) 0
  if top = 0 then 0 else min 800 ((top + 1500 - 20000 + 14) / 15)

/-- The frame that ends is a shortfall (R92). -/
def State.shortfall (s : State) : Bool := decide (s.get Reg.STR_HEADROOM_CTRL.THRESH ≤ s.get Reg.STR_CMPL_COUNT.COUNT)

/-- The frame counts of R92 after the frame that ends. -/
def State.headroomCount (s : State) : State :=
  s.setScan { s.scan with
    sinceDrop := if s.shortfall then 0 else s.scan.sinceDrop + 1, sinceVset := s.scan.sinceVset + 1
    highRun := if s.shortfall ∧ 24 ≤ bits s.wordNewest 16 6 then s.scan.highRun + 1 else 0 }

/-- DROP and VSET that Table 3-5 asks for after the frame that ends. -/
def State.headroomWant (s : State) : Nat × Nat :=
  let v := s.get Reg.STR_VREG_MIN.V
  let drop := bits s.wordNewest 16 6
  let vset := bits s.wordNewest 22 10
  if s.shortfall then (min 62 (drop + 1), min 800 (vset + s.get Reg.STR_HEADROOM_CTRL.VSTEP))
  else if 0 < drop then (if s.get Reg.STR_HEADROOM_CTRL.RELEASE ≤ s.scan.sinceDrop then drop - 1 else drop, vset)
  else if 40 ≤ s.scan.sinceVset ∧ v ≠ 255 then
    (drop, (min 800 (max 0 ((vset : Int) + vsetStep (s.get Reg.STR_HEADROOM_CTRL.TARGET) v))).toNat)
  else (drop, vset)

/-- The MP's headroom rules on the report of the frame that ends, after the boundary's landings (R92); while the limp plane is engaged
VSET keeps the floor of R100. -/
def State.headroom (s : State) : State :=
  let n := s.get Reg.STR_CMPL_COUNT.COUNT
  let drop := bits s.wordNewest 16 6
  let vset := bits s.wordNewest 22 10
  let s := if s.scan.highRun = 400 then s.fault Src.strVstrLow (s.get Reg.STR_VREG_MIN.V) 2 4 else s
  if !s.mpUp then s
  else
    let want := s.headroomWant
    let v := if s.flag Reg.STR_STATUS.LIMP_ENGAGED then max want.2 s.limpVset else want.2
    let s := if want.1 = drop ∧ v = vset then s else s.commitHeadroom want.1 v
    if n < s.get Reg.STR_HEADROOM_CTRL.THRESH ∨ drop ≠ 0 then s
    else (s.set Reg.STR_STATUS.HEADROOM 1).event 0xF015 ([byte want.1, byte 0] ++ le 2 v ++ le 4 n ++ le 8 s.time)

/-- The per-tile charges of the frame shown from now on: the accumulators of R117 and the tile powers of R473. -/
def State.tileCharges (s : State) : State :=
  let q := s.scan.activePwm.foldl (fun (m : NMap) (p : Nat × Nat) =>
    let t := tileOf p.1
    Assoc.set 0 m t (Assoc.get 0 m t + p.2 * nth 0 kTable (Assoc.get 0 s.scan.activeClass (p.1 / 8)))) []
  let acc := q.foldl (fun (m : NMap) (p : Nat × Nat) => Assoc.set 0 m p.1 (Assoc.get 0 m p.1 + p.2)) s.cal.acc
  let v : Rat := 20 + ((s.get Reg.STR_POWER_LIMIT.VSET : Nat) : Rat) * 15 / 1000
  let mw := fun (x : Nat) => v * 160 / 1000 * ((x : Nat) : Rat) / 65535 * ((s.tickLen : Nat) : Rat) / ((s.period : Nat) : Rat)
  let power := q.foldl (fun (m : Assoc Rat) (p : Nat × Nat) => m.insert p.1 ((m.find p.1).getD 0 + mw p.2)) s.tmp.power
  (s.setCal { s.cal with acc := acc }).setTmp { s.tmp with power := power, frames := s.tmp.frames + 1 }

/-- A lock state of R50, reported when it changes. -/
def State.lockState (s : State) (st : Nat) : State :=
  if s.get Reg.SCN_LOCK_STATUS.STATE = st then s else (s.set Reg.SCN_LOCK_STATUS.STATE st).linkEvent 8

/-- The phase of an aligned boundary at `b` (R50). -/
def State.lockPhase (s : State) (b v n : Nat) : State :=
  match s.scan.lastInput with
  | none => s
  | some last =>
    let goal := lockGoal last (s.get Reg.SCN_LOCK_CTRL.OFFSET) v b 0 n
    let e : Int := (b : Int) - goal
    let good := if e.natAbs ≤ 100 then min 8 (s.scan.lockGood + 1) else 0
    let bad := if 5000 < e.natAbs then min 4 (s.scan.lockBad + 1) else 0
    let s := (s.set Reg.SCN_LOCK_PHASE.ERR (ofSigned 32 e)).setScan { s.scan with lockGood := good, lockBad := bad }
    let st := s.get Reg.SCN_LOCK_STATUS.STATE
    if st ≠ 2 ∧ 8 ≤ good then s.lockState 2 else if st = 2 ∧ 4 ≤ bad then s.lockState 1 else if st = 3 ∨ st = 0 then s.lockState 1 else s

/-- Locked mode at boundary `b` (R48 to R50). -/
def State.lockBoundary (s : State) (b : Nat) : State :=
  if s.follower ∨ !s.flag Reg.SCN_LOCK_CTRL.EN then
    ((s.setScan { s.scan with lockGood := 0, lockBad := 0, aligned := 0 }).set Reg.SCN_LOCK_STATUS.N 0).lockState 0
  else
    let p := framePeriod (s.get Reg.SCN_TICK.TICK) 0
    match s.video15 with
    | none => ((s.setScan { s.scan with lockGood := 0, lockBad := 0, aligned := 0 }).set Reg.SCN_LOCK_STATUS.N 0).lockState 1
    | some v =>
      let n := lockN v p
      if lockInRange v p then
        let s := s.set Reg.SCN_LOCK_STATUS.N n
        if s.scan.aligned ≤ 1 then (s.setScan { s.scan with aligned := n }).lockPhase b v n
        else s.setScan { s.scan with aligned := s.scan.aligned - 1 }
      else ((s.setScan { s.scan with lockGood := 0, lockBad := 0, aligned := 0 }).set Reg.SCN_LOCK_STATUS.N (if n ≤ 63 then n else 0)).lockState 3

/-- LOCK_FRAME_TIMEOUT (R50): no input frame completes within two video periods. -/
def execLockFrameTimeout (s : State) : Host.Outcome State Fault Refusal :=
  match s.scan.lastInput, s.video15 with
  | some last, some v =>
    if s.scan.running && s.flag Reg.SCN_LOCK_CTRL.EN && !s.follower then
      let s := s.until (last + 2 * v / 15)
      .next (((s.setScan { s.scan with inputTimes := [], lastInput := none, video := none, lockGood := 0, lockBad := 0, aligned := 0 }).set Reg.SCN_LOCK_STATUS.N 0).lockState 1)
    else .next s
  | _, _ => .next s

/-- ACTIVE is entered at `b`: the object-list timers start, and margins that had grown before do so afresh (R185, R436). -/
def State.enterActive (s : State) (b : Nat) : State :=
  let s := s.setPower 1
  let s := if s.get Reg.BEAM_STATUS.WATCH = 1 then s.watchFresh else s
  (s.setBeam { s.beam with activeAt := b }).powerEvent 1 1 0 0

/-- READY is reached from ACTIVE once a frame with the module dimmer at 0 is on the array (R36): the dimmer returns (R436). -/
def State.enterReady (s : State) : State :=
  let s := (s.setPower 2).setPwr { s.pwr with entry := none }
  ((((s.setAll [(Reg.PWR_STATE.STEP, 0), (Reg.PWR_STATE.TARGET, 0)]).setDimmer 4096 0).commitWork).powerEvent 1 2 0 0)

/-- Power states at boundary `b` (R326, R436); `active`: a POWER_STATE to ACTIVE lands here; `marked`: the state that a marker names. -/
def State.powerBoundary (s : State) (b : Nat) (active : Bool) (marked : Option Nat) : State :=
  let s := if active || marked.isSome then s.setPwr { s.pwr with activePending := none } else s
  let s := if active then s.enterActive b else s
  let s := match s.pwr.entry with
    | some e =>
      if e.target = 2 ∧ s.beam.dimFade.z = 0 ∧ s.beam.dimFade.level b s.period = 0 ∧ s.scan.activePwm.isEmpty then s.enterReady else s
    | none => s
  match marked with
  | some p =>
    if p = 1 ∧ s.power = 2 then s.enterActive b
    else if p = 2 ∧ s.power = 1 ∧ s.pwr.entry = none ∧ s.scan.activePwm.isEmpty then (s.setPower 2).powerEvent 1 2 0 0
    else s
  | none => s

/-- A stop without fade is complete at the boundary at which its weight lands (R480). -/
def State.stopBoundary (s : State) : State :=
  if s.tmp.hardStop ∧ s.get Reg.TMP_STATUS.STATE = 2 ∧ s.beam.front.stop.target = 4096 then
    (s.set Reg.TMP_STATUS.STATE 3).setTmp { s.tmp with hardStop := false }
  else s

/-- The windows of SCAN_RESET and MAP_OUT (Table 13-4): `ran` when scan-out ran in the frame that ends. A window that opens at this
boundary counts from the next one. -/
def State.windowsBoundary (s : State) (ran : Bool) : State :=
  let ws := s.flt.windows.filterMap (fun (w : Window) =>
    if w.reaction = 5 then none
    else if w.reaction = 1 ∧ ran ∧ w.opened < s.now then (if w.left ≤ 1 then none else some { w with left := w.left - 1 })
    else some w)
  let closed := s.flt.windows.any (fun w => w.reaction == 1) && !ws.any (fun w => w.reaction == 1)
  let s := (s.setFlt { s.flt with windows := ws }).faultFollow
  if closed then s.set Reg.SCN_STATUS.REPEAT_RUN 0 else s

/-- The BEAM_ mirrors of the commissioned block (R398). -/
def State.beamMirrors (s : State) : State :=
  let b := s.spBlock
  (s.setAll [(Reg.BEAM_WATCH.T1, Block.watchT1 b), (Reg.BEAM_WATCH.T2, Block.watchT2 b), (Reg.BEAM_GROW.RATE, Block.growRate b),
    (Reg.BEAM_GROW.MAX, Block.growMax b), (Reg.BEAM_GROW.WATCH_EN, b2n (Block.watchEn b)), (Reg.BEAM_STALE.PATTERN, Block.stalePattern b),
    (Reg.BEAM_STALE.FADE, Block.staleFade b), (Reg.BEAM_MARK_LIMIT.LIMIT, Block.markLimit b)])

/-- The SCAN block reset has ended by `b`: it lasts at most 1 ms (Table 13-4). -/
def State.resetEnded (s : State) (b : Nat) : Bool :=
  match s.scan.resetAt with
  | none => false
  | some t => decide (t ≤ b) && (decide (t + 100000 ≤ b) || Config.choice 56 t)

/-- The landings of R22: `n` is the number of the frame that begins at `b`. -/
def State.landAll (s : State) (n b : Nat) : State :=
  ((((((s.landFirst b).landWord).landCut).landCal).latchLate.takeUp n b)).cascadeBoundary n

/-- The step of the soft start for the next frame (R94): it advances once a frame loaded with it was swapped, and starts again after a
frame in which no string conducts under the controller path. -/
def State.softNext (s : State) (swapped : Bool) : State :=
  s.setScan { s.scan with soft := if !s.conducts then 1 else if swapped then min 8 (s.scan.soft + 1) else s.scan.soft, lit := s.conducts }

/-- The covering beam ends and the limp plane is released (R99, R360). -/
def State.shutterBoundary (s : State) (swapped : Bool) : State :=
  if s.scanHeld then s
  else
    let s := if s.flag Reg.SAF_STATUS.COVERING && s.allowsButCovering && swapped && !s.scan.activePwm.isEmpty then s.coverEnd else s
    let s := s.setKs { s.ks with keep := false }
    if s.allows then (s.setKs { s.ks with taken := false }).limpDark else s.limpFollow

/-- SP_LIMP is released at the first boundary at which a base is shown again (R377). -/
def State.spBoundary (s : State) : State :=
  let s := if s.flag Reg.SAF_STATUS.SP_LIMP && !s.link.dark && s.beam.front.dimmer.target != 0 then s.spLimp false else s
  s.setSp { s.sp with boxShown := (List.range 128).map s.box, pause := if s.scanHeld then s.sp.pause else s.sp.pause - 1 }

/-- The next frame begins at `b` with its tick length and stretch, and nothing of it is loaded yet; clamped shunts may open again but for
those of strings that the limp plane lights (R76). -/
def State.newFrame (s : State) (b t f : Nat) (loading : Bool) : State :=
  (s.setScan { s.scan with
    frameStart := b, inSlot := false, loading := loading, row := 0, staged := false, rowDone := false, resent := false, sent := false
    repeats := [], reloads := [], convKey := none, convClass := [], convPwm := [], decision := none, received := none
    boxRun := [], rowRun := [], clips := [], clamped := s.scan.clamped.filter (fun p => s.limpLit (stringOf p.1)) }).setAll [(Reg.SCN_LOCK_STATUS.T, t), (Reg.SCN_LOCK_STATUS.F, f),
    (Reg.SCN_FRAME_PERIOD.PERIOD, framePeriod t f), (Reg.SCN_STATUS.HELD, b2n s.scanHeld)]

/-- Swap or copy-back at a boundary (R55, R56, R70), and the count. Answers whether it swapped and whether scan-out ran. -/
def State.turn (s : State) : State × Bool × Bool :=
  let held := s.scanHeld
  let ran := !held && s.scan.loading
  let swapped := ran && s.scan.decision == some true
  let s := s.noteConduct
  let s := s.setSns { s.sns with litBefore := litBinsOf s.scan.activePwm }
  let s := s.setDiag { s.diag with sampled := [] }
  let s := if swapped then s.swap.setScan { s.swap.scan with idle := s.scan.idle.filter (fun x => !x.2) } else s.copyBack
  let s := if held then s.setScan { s.scan with witness := [], received := none } else if ran then s.freezeCheck else s
  (s, swapped, ran)

/-- SCN_FRAME_COUNT moves on (R47, R334). -/
def State.countFrame (s : State) : State :=
  match s.casc.realign with
  | some n => s.set Reg.SCN_FRAME_COUNT.COUNT n
  | none => s.wrapUp Reg.SCN_FRAME_COUNT.COUNT Reg.SCN_STATUS.COUNT_WRAP

/-- A frame composed for `b`: contexts whose position is held at the extrapolation limit, and a run composited live, are counted
(R174, R209). -/
def State.countComposed (s : State) (b : Nat) : State :=
  let t := s.beam.front
  let held := fun (c : Ctx) =>
    (tau c.entry (c.committed.getD s.now) b (s.periodAt b) (s.get Reg.BEAM_CTRL.EXTRAP_MAX)).2 && !(c.entry.velH == 0 && c.entry.velV == 0)
  let s := s.bumpBy Reg.BEAM_EXTRAP_CLIP_COUNT.COUNT Reg.BEAM_STATUS.CNT_SAT (t.ctxs.filter (fun (p : Nat × Ctx) => held p.2)).length
  if !t.run.isEmpty && t.bisque.isNone then s.bump Reg.CMP_LIVE_COUNT.COUNT Reg.CMP_STATUS.CNT_SAT else s

/-- Everything that a boundary brings (R22, R47, R50, R55, R80, R92, R99, R109, R360, R368, R377, R436), in the order of R574: the timing
base, the Kiln Shutter, the SP, the MP, the CP. -/
def State.boundary (s : State) : State :=
  let b := s.nextBoundary
  let s := if s.scan.inSlot then s.boundaryPulse else s.slotStart.boundaryPulse
  let s := if s.scan.decision.isSome then s else s.decide_
  let t := s.timing b
  let mark := s.markedPower
  let active := s.activeLands
  let lit := s.scan.lit
  let changed := s.changedFrame
  let (s, swapped, ran) := s.turn
  let s := s.countFrame
  let n := s.get Reg.SCN_FRAME_COUNT.COUNT
  let s := if s.resetEnded b then s.setScan { s.scan with resetAt := none } else s
  let s := s.windowsBoundary ran
  let s := ((s.complReport lit).headroomCount).landAll n b
  let s := s.setScan { s.scan with changed := changed && !swapped }
  let s := s.newFrame b t.1 t.2 (!s.scanHeld)
  let s := if ran then s.countComposed b else s
  let s := (s.lockBoundary b).tileCharges
  let s := ((s.shutterBoundary swapped).softNext swapped).spBoundary.spFollow
  let s := s.headroom.stopBoundary.powerBoundary b active mark
  let s := s.setCal { s.cal with latched := (List.range 256).foldl (fun m t => Assoc.set 0 m t (s.get (Reg.TMP_TILE.THETA t))) [] }
  let s := if s.com.mirror then { s.beamMirrors.staleRetry with com := { s.com with mirror := false } } else s
  let s := (s.ssdBoundary b).daliBoundary
  (s.writeBoxes s.boxesFor).noteConduct

/-- LIGHT_FRAME_BOUNDARY (R22, R47, R55). -/
def execLightFrameBoundary (s : State) : Host.Outcome State Fault Refusal :=
  if s.scan.running then .next (s.until s.nextBoundary).boundary else .next s

end Sys2Proof.Machine
end

