-- ==== Sys2Proof/Machine/Thermal.lean ====
section
/-! DEFINITION. Temperature and throttling (15_temperature_and_throttling). -/

namespace Sys2Proof.Machine

/-! ### Sweeps (R470 to R473) -/

/-- A temperature in tenths of a degree from a code: -60 °C + code / 16 °C (R470). -/
def codeTenths (code : Nat) : Rat := ((code : Nat) : Rat) * 10 / 16 - 600

/-- The instant at which the next sweep is due (R471). -/
def State.sweepDue (s : State) : Nat :=
  match s.tmp.sweepAt with
  | none => s.now
  | some t => t + (if s.power = 1 then ms 10 else ms 1000)

/-- Sweeps run: in ACTIVE and READY, and before the first boundary of a start or a wake to them. -/
def State.sweeps (s : State) : Bool :=
  s.mpUp && (s.power == 1 || s.power == 2 || (match s.pwr.wake with | some w => w.target != 0 | none => false)) && !s.flag Reg.PWR_STATE.SERVICE

/-- TEMP_SWEEP (R470, R471): the 20 sensors are converted. -/
def execTempSweep (codes : List Nat) (s : State) : Host.Outcome State Fault Refusal :=
  if s.sweeps && s.tmp.codes.isNone then
    let s := s.until s.sweepDue
    let first := s.tmp.sweepAt.isNone
    let s := s.setTmp { s.tmp with
      sweepAt := some s.now, codes := some ((List.range 20).map (fun n => nth 0 codes n % 4096)), sweepTime := s.time
      sweptPower := s.tmp.power, sweptFrames := s.tmp.frames, power := [], frames := 0, evalAt := if first then s.now else s.tmp.evalAt }
    .next ((s.wrapUp Reg.TMP_SWEEP.SEQ Reg.TMP_STATUS.SWEEP_WRAP).bump Reg.TMP_SWEEP_COUNT.COUNT Reg.TMP_STATUS.CNT_SAT)
  else .next s

/-- The THERMAL event (R486). -/
def State.thermalEvent (s : State) (reason detail : Nat) : State :=
  s.event 0xF003 ([byte reason, byte (s.get Reg.TMP_STATUS.STATE), byte (bits s.wordNewest 9 7), byte (s.get Reg.TMP_STATUS.HOT_TILE)]
    ++ le 2 (s.get Reg.TMP_HOT.THETA) ++ le 2 detail ++ le 8 s.time)

/-- A sensor's code of the last sweep. -/
def State.code (s : State) (n : Nat) : Nat := s.get (Reg.TMP_SENSOR.CODE n)

/-- The two sensors of a tile row differ by more than 40.0 °C. -/
def State.rowDiffers (s : State) (row : Nat) : Bool :=
  let a := s.code (2 * row)
  let b := s.code (2 * row + 1)
  decide (640 < max a b - min a b)

/-- A sensor judged after a sweep (R472): `differ` counts its row's consecutive differing sweeps. -/
def State.judgeSensor (s : State) (n : Nat) : State :=
  let extreme := s.code n == 0 || s.code n == 4095
  let dis := decide (n < 16) && decide (3 ≤ nth 0 s.tmp.differ (n / 2))
  let was := s.flag (Reg.TMP_SENSOR.SUSPECT n)
  let good := if extreme || dis then 0 else min 3 (nth 0 s.tmp.good n + 1)
  let s := s.setTmp { s.tmp with good := setNth s.tmp.good n good }
  if extreme || dis then
    let s := s.setAll [(Reg.TMP_SENSOR.SUSPECT n, 1), (Reg.TMP_SENSOR.DISAGREE n, b2n (dis || s.flag (Reg.TMP_SENSOR.DISAGREE n)))]
    if was then s
    else ((s.bump Reg.TMP_SUSPECT_COUNT.COUNT Reg.TMP_STATUS.CNT_SAT).fault Src.tmpSensorDisagree n 2 4).thermalEvent 7 n
  else if was && good == 3 && !s.bst.suspect.contains n then s.setAll [(Reg.TMP_SENSOR.SUSPECT n, 0), (Reg.TMP_SENSOR.DISAGREE n, 0)]
  else s

/-- The sensors judged after a sweep. -/
def State.judgeSensors (s : State) : State :=
  let differ := (List.range 8).map (fun r => if s.rowDiffers r then min 3 (nth 0 s.tmp.differ r + 1) else 0)
  let s := (List.range 20).foldl State.judgeSensor (s.setTmp { s.tmp with differ := differ })
  s.set Reg.TMP_STATUS.SUSPECT_ANY (b2n ((List.range 20).any (fun n => s.flag (Reg.TMP_SENSOR.SUSPECT n))))

/-- The valid readings of a tile row. -/
def State.validCodes (s : State) (row : Nat) : List Nat :=
  [2 * row, 2 * row + 1].filterMap (fun n => if s.flag (Reg.TMP_SENSOR.SUSPECT n) then none else some (s.code n))

/-- The readings that stand for the two sensors of a tile row (R472). -/
def State.rowCodes (s : State) (row : Nat) : Nat × Nat :=
  let a := s.code (2 * row)
  let b := s.code (2 * row + 1)
  let sa := s.flag (Reg.TMP_SENSOR.SUSPECT (2 * row))
  let sb := s.flag (Reg.TMP_SENSOR.SUSPECT (2 * row + 1))
  if !sa && !sb then (a, b)
  else if s.flag (Reg.TMP_SENSOR.DISAGREE (2 * row)) && s.flag (Reg.TMP_SENSOR.DISAGREE (2 * row + 1)) then (max a b, max a b)
  else if sa && sb then
    let l := (if 0 < row then s.validCodes (row - 1) else []) ++ (if row < 7 then s.validCodes (row + 1) else [])
    let m := l.foldl max 0
    if l.isEmpty then (max a b, max a b) else (m, m)
  else if sa then (b, b) else (a, a)

/-- The exact estimate of a tile in tenths of a degree from the readings of its row and its mean power (R473). -/
def tileTenths (codes : Nat × Nat) (x k : Nat) (p : Rat) : Rat :=
  let w := min (max (((x : Rat) * 2 - 15) / 32) 0) 1
  codeTenths codes.1 * (1 - w) + codeTenths codes.2 * w + ((k : Nat) : Rat) / 1000 * p * 10

/-- Rounded to nearest, halves upwards (notes/assumptions/12.md). -/
def roundRat (r : Rat) : Int := (r + 1 / 2).floor

/-- The mean power of a tile between the previous sweep and the last, mW (R473). -/
def State.tilePower (s : State) (t : Nat) : Rat :=
  if s.tmp.sweptFrames = 0 then 0 else (s.tmp.sweptPower.find t).getD 0 / ((s.tmp.sweptFrames : Nat) : Rat)

/-- The estimates published (R473): tile registers, θmax, the hot tile and the rise rate. -/
def State.publish (s : State) (at_ : Nat) : State :=
  let rows := (List.range 8).map s.rowCodes
  let k := s.get Reg.TMP_MODEL.K
  let est := (List.range 256).map (fun t => (s.tilePower t, roundRat (tileTenths (rows.getD (t / 32) (0, 0)) (t % 32) k (s.tilePower t))))
  let s := (est.mapIdx (fun t x => (t, x))).foldl (fun s x =>
    s.setAll [(Reg.TMP_TILE.THETA x.1, ofSigned 16 x.2.2), (Reg.TMP_TILE.PT x.1, min 65535 (roundRat x.2.1).toNat)]) s
  let top := est.foldl (fun (m : Int) x => max m x.2) (-32768)
  let hot := (est.findIdx? (fun x => x.2 == top)).getD 0
  let rate : Rat := match s.tmp.published, s.tmp.lastMax with
    | some t, some m => if t < at_ then ((top - toSigned 16 m : Int) : Rat) * 10 * ((s.period : Nat) : Rat) / (((at_ - t : Nat)) : Rat) else 0
    | _, _ => 0
  (s.setTmp { s.tmp with
    published := some at_, lastMax := some (ofSigned 16 top), codes := none, fast := decide (200 ≤ rate)
    pubTime := s.tmp.sweepTime }).setAll
    [(Reg.TMP_STATUS.HOT_TILE, hot), (Reg.TMP_HOT.THETA, ofSigned 16 top), (Reg.TMP_HOT.RATE, ofSigned 16 (min 32767 (max (-32768) (roundRat rate))))]

/-- The RC oscillator is trimmed when a controller sensor is valid (R459, R475). -/
def State.rcTrim (s : State) : State :=
  if [16, 17, 18, 19].any (fun n => !s.flag (Reg.TMP_SENSOR.SUSPECT n)) then
    ({ s with clk := { s.clk with compAt := some s.now, errBase := s.timeErr, errAt := s.now } }).set Reg.PWR_TIME_STATUS.COMP_FROZEN 0
  else s

/-- Tiles whose estimate has moved by 2.0 °C or more from the temperature of their front table, and of a refused one (R124). -/
def State.movedTiles (s : State) : List Nat :=
  (List.range 256).filter (fun t =>
    let now := toSigned 16 (s.get (Reg.TMP_TILE.THETA t))
    let far := fun (c : Nat) => decide (20 ≤ (now - toSigned 16 c).natAbs)
    far (Assoc.get 0 s.cal.effTheta t) && (match s.cal.refused.find t with
      | some c => far c
      | none => true))

/-- The efficacy tables that follow a sweep (R124): none while a calibration commit waits (R123), nor before the start has made the first
front tables. -/
def State.followEfficacy (s : State) : State :=
  if s.cal.pending.isSome ∨ s.movedTiles = [] ∨ s.phase ≠ .service then s else s.calCommit false s.movedTiles s.movedTiles [] [] [] []

/-! ### Throttling, boost and the orderly stop (R476 to R481) -/

/-- STATE of Table 15-1 outside a stop. -/
def throttleState (limit : Nat) : Nat := if limit < 100 then 1 else 0

/-- A new BUDGET and LIMIT are committed (R477, R478). -/
def State.commitLimit (s : State) (budget limit : Nat) : State :=
  let w := s.wordNewest
  s.commitWord (powerWord budget limit (bits w 16 6) (bits w 22 10))

/-- A running boost ends (R478): BUDGET returns to 300. -/
def State.endBoost (s : State) : State :=
  if s.flag Reg.TMP_STATUS.BOOST then
    (((s.setTmp { s.tmp with boostAt := none, boostEnd := some s.now }).set Reg.TMP_STATUS.BOOST 0).commitLimit 300 (bits s.wordNewest 9 7)).thermalEvent 6 0
  else s

/-- A change of LIMIT by a throttle step or a stop (R477). -/
def State.stepLimit (s : State) (limit : Nat) : State :=
  let old := bits s.wordNewest 9 7
  if limit = old then s
  else
    let s := if limit < old then s.endBoost else s
    let s := s.commitLimit (bits s.wordNewest 0 9) limit
    let s := if s.get Reg.TMP_STATUS.STATE < 2 then s.set Reg.TMP_STATUS.STATE (throttleState limit) else s
    ((s.irq 6).bump Reg.TMP_STEP_COUNT.COUNT Reg.TMP_STATUS.CNT_SAT).thermalEvent (if limit < old then 1 else 2) 0

/-- The MP asks the CP to commit a weight of the stop image; the request waits for a CP that is away (R21, R479). -/
def State.askStop (s : State) (weight fadeMs : Nat) : State :=
  if s.cpUp then (s.setStop weight fadeMs false).commitWork else s.setTmp { s.tmp with asked := some (weight, fadeMs) }

/-- What the MP has asked of the CP meanwhile is committed. -/
def State.stopAsked (s : State) : State :=
  match s.tmp.asked with
  | none => s
  | some (weight, fadeMs) => ((s.setTmp { s.tmp with asked := none }).setStop weight fadeMs false).commitWork

/-- An orderly stop begins (R479), or without fade when the rise is fast (R480). -/
def State.beginStop (s : State) (hard : Bool) : State :=
  let s := (s.endBoost).stepLimit (min (bits s.wordNewest 9 7) (s.get Reg.TMP_POLICY_B.FLOOR))
  let s := (s.askStop 4096 (if hard then 0 else 300)).set Reg.TMP_STATUS.STATE 2
  let s := (s.setTmp { s.tmp with hardStop := hard }).bump Reg.TMP_STOP_COUNT.COUNT Reg.TMP_STATUS.CNT_SAT
  (s.fault Src.tmpOrderlyStop (s.get Reg.TMP_STATUS.HOT_TILE) 2 4).thermalEvent 3 (s.get Reg.TMP_HOT.RATE)

/-- The check for a stop after a sweep in ACTIVE (R479, R480); `fast`: 2.0 °C per light frame or more. -/
def State.checkStop (s : State) : State :=
  let t := toSigned 16 (s.get Reg.TMP_HOT.THETA)
  if s.power = 1 ∧ s.flag Reg.TMP_POLICY_B.STOP_EN ∧ s.get Reg.TMP_STATUS.STATE < 2 ∧ (s.get Reg.TMP_POLICY_S.STOP_T : Int) ≤ t then
    s.beginStop s.tmp.fast
  else s

/-- TILE_ESTIMATE (R472, R473, R475, R479, R480): the sweep's results and the estimates are published between 160 µs and 1 ms
after its start. -/
def execTileEstimate (s : State) : Host.Outcome State Fault Refusal :=
  match s.tmp.codes, s.tmp.sweepAt with
  | some cs, some t =>
    let s := (s.until (t + 16000 + s.free % 84001)).drawn
    let s := (cs.mapIdx (fun n c => (n, c))).foldl (fun s x => s.set (Reg.TMP_SENSOR.CODE x.1) x.2) s
    .next ((((s.judgeSensors.publish t).rcTrim).followEfficacy).checkStop)
  | _, _ => .next s

/-- THROTTLE_EVALUATION (R476, R477, R481): every 200 ms. -/
def execThrottleEvaluation (s : State) : Host.Outcome State Fault Refusal :=
  if s.mpUp && decide (s.power = 1 ∨ s.power = 2) && s.tmp.published.isSome then
    let s := s.until (s.tmp.evalAt + ms 200)
    let s := s.setTmp { s.tmp with evalAt := s.now }
    let t := toSigned 16 (s.get Reg.TMP_HOT.THETA)
    let limit := bits s.wordNewest 9 7
    let low := decide (t < (s.get Reg.TMP_POLICY_T.STEP_LO : Int))
    let s := if 2 ≤ s.get Reg.TMP_STATUS.STATE ∧ low then
        ((s.askStop 0 300).set Reg.TMP_STATUS.STATE (throttleState limit)).thermalEvent 4 0 else s
    if (s.get Reg.TMP_POLICY_T.STEP_HI : Int) < t ∧ s.get Reg.TMP_POLICY_B.FLOOR < limit then .next (s.stepLimit (max 25 (limit - 5)))
    else if low ∧ limit < 100 then .next (s.stepLimit (min 100 (limit + 5)))
    else .next s
  else .next s

/-- BOOST_END (R478): BOOST_MS after the boost landed. -/
def execBoostEnd (s : State) : Host.Outcome State Fault Refusal :=
  match s.tmp.boostAt with
  | none => .next s
  | some t => .next (if s.mpUp then (s.until (t + ms (s.get Reg.TMP_BOOST.BOOST_MS))).endBoost else s)

/-- STOP_FADE_COMPLETE (R479): the stop image is shown in full. -/
def execStopFadeComplete (s : State) : Host.Outcome State Fault Refusal :=
  if s.get Reg.TMP_STATUS.STATE == 2 && s.beam.front.stop.target == 4096 && s.beam.stopFade.level s.scan.frameStart s.period == 4096 then
    .next (s.set Reg.TMP_STATUS.STATE 3)
  else .next s

/-! ### Commands -/

/-- BOOST_LEFT of Table 15-1. -/
def State.boostLeft (s : State) : Nat :=
  if s.flag Reg.TMP_STATUS.BOOST then
    match s.tmp.boostAt with
    | none => s.get Reg.TMP_BOOST.BOOST_MS
    | some t => s.get Reg.TMP_BOOST.BOOST_MS - (s.now - t) / 100000
  else 0

/-- 0x0E00 THERMAL_STATUS (R484). -/
def runThermalStatus (_ : Req) (s : State) : Answer :=
  let suspect := maskOf ((List.range 20).filter (fun n => s.flag (Reg.TMP_SENSOR.SUSPECT n)))
  answer s ([byte (s.get Reg.TMP_STATUS.STATE), byte (s.get Reg.TMP_STATUS.LIMIT), byte (s.get Reg.TMP_STATUS.HOT_TILE),
    byte (s.get Reg.TMP_STATUS.BOOST + 2 * s.get Reg.TMP_POLICY_B.STOP_EN + 4 * s.get Reg.TMP_STATUS.SUSPECT_ANY
      + 8 * b2n (s.get Reg.SAF_KS_STATUS.TEMP_HIGH != 0))]
    ++ le 2 (s.get Reg.TMP_HOT.THETA) ++ le 2 (s.get Reg.TMP_HOT.RATE) ++ le 2 s.boostLeft ++ le 4 suspect
    ++ (List.range 20).flatMap (fun n => le 2 (s.code n)) ++ le 8 s.tmp.pubTime)

def opThermalStatus : Op := ⟨0x0E00, exactly 0, runThermalStatus⟩
def execThermalStatus (r : Req) (s : State) : Host.Outcome State Fault Refusal := .next (s.command opThermalStatus r)

/-- A parameter of Table 15-2 out of range. -/
def thermalBad (p : List Byte) : Bool :=
  let hi := leAt p 0 2
  let lo := leAt p 2 2
  let stop := leAt p 4 2
  let floor := leAt p 8 1
  decide (hi < 1000 ∨ 1300 < hi ∨ lo < 900 ∨ hi < lo + 50 ∨ stop < hi + 50 ∨ 1500 < stop ∨ floor < 25 ∨ 100 < floor ∨ floor % 5 ≠ 0
    ∨ 4 ≤ leAt p 9 1 ∨ leAt p 10 2 < 301 ∨ 400 < leAt p 10 2 ∨ leAt p 12 2 < 100 ∨ 10000 < leAt p 12 2 ∨ leAt p 14 2 < 10
    ∨ 3600 < leAt p 14 2 ∨ 500 < leAt p 16 2 ∨ leAt p 18 2 ≠ 0)

/-- R478: the boost is granted. -/
def State.boostGrants (s : State) : Bool :=
  s.power == 1 && bits s.wordNewest 9 7 == 100 && decide (toSigned 16 (s.get Reg.TMP_HOT.THETA) < 1000) && !s.flag Reg.TMP_STATUS.BOOST
    && (match s.tmp.boostEnd with
      | none => true
      | some t => decide (t + 100000000 * s.get Reg.TMP_BOOST.BOOST_COOL ≤ s.now))

/-- 0x0E01 THERMAL_POLICY (R478, R485). -/
def runThermalPolicy (r : Req) (s : State) : Answer :=
  let p := r.params
  let boost := bit (leAt p 9 1) 1
  if boost ∧ s.flag Reg.TMP_STATUS.BOOST then refuse s Status.busy
  else if boost ∧ !s.boostGrants then refuse s Status.badState
  else if thermalBad p then refuse s Status.badParam
  else
    let s := s.setAll [(Reg.TMP_POLICY_T.STEP_HI, leAt p 0 2), (Reg.TMP_POLICY_T.STEP_LO, leAt p 2 2), (Reg.TMP_POLICY_S.STOP_T, leAt p 4 2),
      (Reg.TMP_POLICY_S.STOP_LEVEL, leAt p 6 2), (Reg.TMP_POLICY_B.FLOOR, leAt p 8 1), (Reg.TMP_POLICY_B.STOP_EN, b2n (bit (leAt p 9 1) 0)),
      (Reg.TMP_POLICY_B.BOOST_BUDGET, leAt p 10 2), (Reg.TMP_BOOST.BOOST_MS, leAt p 12 2), (Reg.TMP_BOOST.BOOST_COOL, leAt p 14 2),
      (Reg.TMP_MODEL.K, leAt p 16 2)]
    if boost then
      accept (((((s.set Reg.TMP_STATUS.BOOST 1).setTmp { s.tmp with boostAt := none }).commitLimit (leAt p 10 2) 100).bump
        Reg.TMP_BOOST_COUNT.COUNT Reg.TMP_STATUS.CNT_SAT).thermalEvent 5 0)
    else accept s

def opThermalPolicy : Op := ⟨0x0E01, exactly 20, runThermalPolicy⟩
def execThermalPolicy (r : Req) (s : State) : Host.Outcome State Fault Refusal := .next (s.command opThermalPolicy r)

end Sys2Proof.Machine
end

