-- ==== Sys2Proof/Machine/FaultRows.lean ====
section
/-! DEFINITION. The rows of the fault collector (13_fault_collection): reports, windows, pulses of FAULT_N, injection, the
persistent log and its export, and the commands of group 0x06; and the rebuilding of SRAM banks (Table 14-6). -/

namespace Sys2Proof.Machine

def State.setBst (s : State) (b : SelfTest) : State := { s with bst := b }
def State.setUpd (s : State) (u : Update) : State := { s with upd := u }
def State.setChk (s : State) (c : Checks) : State := { s with chk := c }

/-! ### Rebuilding a bank (R451, Table 14-6) -/

/-- The defect state of a site in the calibration store. -/
def State.storeState (s : State) (i : Nat) : Nat := bits (s.nvmByte (0x20608000 + 1024 * tileOf i + posOf i / 4)) (2 * (posOf i % 4)) 2

/-- A copy of the defect state written from the calibration store. -/
def State.loadDefects (s : State) (copy : Nat) : State :=
  let bs := (List.range 262144).map (fun k => byte ((List.range 4).foldl (fun v j => v + s.storeState (4 * k + j) * 4 ^ j) 0))
  { s with sram := Memory.store 0 s.sram (defectBase copy) bs }

/-- A copy of the gain sets recomputed from the calibration store (R105, R108). -/
def State.loadGains (s : State) (copy : Nat) : State :=
  let g := (List.range 1048576).map (fun i => (s.siteGains [] [] i).1)
  let sram := [0, 1, 2].foldl (fun m n => Memory.store 0 m (gainBase copy n) (gainCells (g.map (fun l => nth 0 l n)))) s.sram
  { s with sram := sram }

/-- The strings in the map-out mask. -/
def State.maskedStrings (s : State) : List Nat :=
  (s.sram.filter (fun p => decide (0x01C30000 ≤ p.1 ∧ p.1 < 0x01C34000))).flatMap (fun p =>
    ((List.range 8).map (fun k => 8 * (p.1 - 0x01C30000) + k)).filter s.mapped)

/-- The string map-out mask rebuilt from the defect event list and the self-test results (R146, R493), by a calibration commit of the MP
(R25). -/
def State.rebuildMask (s : State) : State :=
  let stuck := (s.cal.events.filter (fun e => e.kind == 3)).map (fun e => e.site / 8)
  let tested := ((s.bst.maps ++ s.bst.session).filter (fun m => m.1 == 1)).map (·.2)
  let want := (stuck ++ tested).eraseDups
  let out := s.maskedStrings
  let change := (want.filter (fun n => !out.contains n)).map (fun n => (n, true)) ++ (out.filter (fun n => !want.contains n)).map (fun n => (n, false))
  ((s.set Reg.DIAG_STROUT_COUNT.COUNT out.length).setCal { s.cal with bistMask := change }).maskCommit

/-- A bank's bytes as nothing has written them. -/
def State.clearBank (s : State) (bank : Nat) : State := { s with sram := Memory.fill 0 s.sram (bank * 2 ^ 20) (2 ^ 20) 0 }

/-- The pattern of a base buffer reloaded from the library (R451); when it cannot be loaded, the base that shows it is DARK
(R447). Answers whether the source was there. -/
def State.reloadBuffer (s : State) (n : Nat) (readable : Bool) : State × Bool :=
  match (s.beam.buffers.find n).join with
  | none => (s, true)
  | some pat =>
    let lost := fun (s : State) (reason : Nat) =>
      let s := s.setBeam { s.beam with buffers := s.beam.buffers.insert n none }
      let shown := s.beam.front.base.source == 0 && s.beam.front.base.pattern == pat
      let s := if shown then (s.selectBase 2 0 0 false).commitWork else s
      s.beamEvent reason 0xFF pat 0
    match Assoc.get none s.lib.patterns pat with
    | none => (lost s 3, false)
    | some e =>
      if !readable then (lost s 3, false)
      else if s.patternGood e then (s.fillBuffer n pat (s.entryBytes 1 e), true)
      else (lost (s.entryFailed 1 pat e) 2, false)

/-- The layer copies that lie in a bank, by every descriptor that names them (R201, R204): layer, descriptor, copy. -/
def State.copiesIn (s : State) (bank : Nat) : List (Nat × Layer × Nat) :=
  (s.everyTables.flatMap (fun t => (List.range 8).flatMap (fun n => [0, 1].map (fun c => (n, t.layer n, c))))).eraseDups.filter (fun x =>
    (x.2.1.source == 2 || x.2.1.source == 3)
      && overlaps (x.2.1.copyAt x.2.2, x.2.1.copyAt x.2.2 + x.2.1.copySize) (bank * 2 ^ 20, (bank + 1) * 2 ^ 20))

/-- Layers with a copy that lies in a bank (R204). -/
def State.layersIn (s : State) (bank : Nat) : List Nat := ((s.copiesIn bank).map (·.1)).eraseDups

/-- Layer buffers of a bank are lost (R204): every copy that lies in it is cleared whole. -/
def State.loseLayers (s : State) (bank : Nat) : State :=
  let cleared := (s.copiesIn bank).foldl (fun s x => s.clearCopy x.2.1 x.2.2) (s.clearBank bank)
  (s.layersIn bank).foldl (fun s n => (s.set (Reg.CMP_LAYER_STATUS.LOST n) 1).fault Src.layerLost n 2 4) cleared

/-- A symbol lay in a bank of the cache: the spec does not say which bank holds it (notes/assumptions/4.md). -/
def symbolIn (bank id : Nat) : Bool := Config.choice 451 (bank * 4096 + id)

/-- Symbols of a bank are lost; those that contexts name are fetched again (R452). -/
def State.loseSymbols (s : State) (bank : Nat) : State :=
  let gone := s.lib.resident.filter (fun (x : Nat × Nat × Nat) => symbolIn bank x.1)
  let keep := s.lib.resident.filter (fun (x : Nat × Nat × Nat) => !symbolIn bank x.1)
  let named := gone.filter (fun (x : Nat × Nat × Nat) => s.pinned.contains x.1)
  let entry := fun (x : Nat × Nat × Nat) => Assoc.get none s.lib.symbols x.1
  let s := named.foldl (fun (s : State) x => s.entryRead 2 x.1 (entry x)) s
  s.setLib { s.lib with resident := keep ++ named.filter (fun x => (entry x).any (s.entryGood 2)) }

/-- The RAM store is emptied (R219). -/
def State.loseStore (s : State) (bank : Nat) : State :=
  let s := s.setLib { s.lib with patterns := [], symbols := [], install := none }
  (s.setAll [(Reg.CMP_LIB_STATUS.PATTERNS, 0), (Reg.CMP_LIB_STATUS.SYMBOLS, 0), (Reg.CMP_LIB_STATUS.INSTALL, 0)]).fault
    Src.ramStoreLost bank 2 4

/-- The content of a bank rebuilt (Table 14-6). Answers whether its source was there. -/
def State.rebuildBank (s : State) (bank : Nat) (readable : Bool) : State × Bool :=
  if 32 ≤ bank then (s, true)
  else if bank ≤ 5 then (s.clearBank bank).reloadBuffer (bank / 2) readable
  else if bank ≤ 8 then (s, true)
  else if bank ≤ 11 then (s.loadGains 0, s.cal.bad.isEmpty)
  else if bank ≤ 15 then
    if s.flag Reg.CMP_LIB_STATUS.RAM_STORE then
      if s.lib.patterns.isEmpty && s.lib.symbols.isEmpty then (s, true) else (s.loseStore bank, false)
    else (s.loseSymbols bank, true)
  else if bank ≤ 19 then (s.loseLayers bank, (s.layersIn bank).isEmpty)
  else if bank ≤ 21 then (s, true)
  else if bank = 22 then ((s.loadDefects 0).loadGains 1, s.cal.bad.isEmpty)
  else if bank ≤ 25 then ((s.loadDefects 1).loadGains 1, s.cal.bad.isEmpty)
  else if bank ≤ 27 then (s.clearBank bank, true)
  else if bank = 28 then ((s.clearBank bank).senseLost.rebuildMask, true)
  else if bank = 29 then
    [0, 1, 2].foldl (fun (x : State × Bool) n => let y := x.1.reloadBuffer n readable; (y.1, x.2 && y.2)) (s, true)
  else (s, true)

/-- The bound of a bank's rebuild in base cycles (R451). -/
def State.rebuildBound (s : State) (bank : Nat) : Nat :=
  if bank ≤ 5 ∨ bank = 29 ∨ 32 ≤ bank then ms 60
  else if bank ≤ 8 ∨ (12 ≤ bank ∧ bank ≤ 19) ∨ (26 ≤ bank ∧ bank ≤ 28) then ms 1
  else if bank ≤ 11 ∨ (22 ≤ bank ∧ bank ≤ 25) then ms 40
  else 4 * s.period

/-- A bank's rebuild ends: its content stands, it is no longer rebuilding, and its BANK_REBUILD window closes. -/
def State.endRebuild (s : State) (bank : Nat) (readable : Bool) : State :=
  let s := (s.rebuildBank bank readable).1
  let s := s.setPwr { s.pwr with rebuilding := s.pwr.rebuilding.filter (fun b => b != bank) }
  (s.setFlt { s.flt with windows := s.flt.windows.filter (fun (w : Window) => !(w.reaction == 4 && w.item == bank)) }).faultFollow

/-! ### Reports (R408 to R410, R424) -/

/-- Table 13-2 lists the source. -/
def Src.listed (id : Nat) : Bool :=
  Src.isLockout id && ([0x101, 0x102, 0x103, 0x104, 0x105, 0x106, 0x107, 0x108, 0x110, 0x111, 0x112, 0x113, 0x114, 0x115, 0x116,
    0x117, 0x118].contains id)
  || [0x001, 0x002, 0x003, 0x005, 0x010, 0x011, 0x012, 0x013, 0x014, 0x018, 0x019, 0x01A, 0x041, 0x042, 0x043, 0x061, 0x062,
    0x080, 0x081, 0x082, 0x083, 0x0A0, 0x0A1, 0x0A2, 0x0A3, 0x0C0, 0x0C1, 0x0C2, 0x0C3, 0x0C4, 0x0C5, 0x0C6, 0x0D0, 0x0D1,
    0x0E0, 0x0E1, 0x0E2, 0x0E8, 0x0E9, 0x0EA, 0x140, 0x141, 0x160, 0x161, 0x180, 0x181, 0x182, 0x1A0].contains id

/-- The checker of Table 13-6 whose check a report comes from. -/
def checkerOf (f : FaultIn) : Option Nat :=
  if f.source = Src.sramCorr ∨ f.source = Src.sramUncorr then some (f.addr / 2 ^ 20 % 32)
  else if f.source = Src.coreMemUncorr then (match f.master with | 0 => some 0x26 | 2 => some 0x27 | 1 => some 0x28 | _ => none)
  else if f.source = Src.crossingOverrun then some 0x29
  else none

/-- The source an armed checker of an SRAM bank gives: SRAM_CORR with bit 7 of COUNT set (Table 13-6). -/
def State.injectedSource (s : State) (code source : Nat) : Nat :=
  if code < 32 then (if s.flt.injectSingle then Src.sramCorr else Src.sramUncorr) else source

/-- What the detector itself does beside its report: row sparing (R122), the crossing's sticky bit (R544). -/
def State.detector (s : State) (source addr : Nat) : State :=
  if source = Src.sramUncorr then s.spareRow addr
  else if source = Src.crossingOverrun then s.set Reg.CHK_XING_OVERRUN.MAP (s.get Reg.CHK_XING_OVERRUN.MAP ||| 2 ^ (addr % 16))
  else s

/-- The access type of a report: a refused NVM access is a write (R38). -/
def accessOf (source access : Nat) : Nat := if source = Src.nvmWriteRefused then 1 else access

/-- One report of a detector; CROSSING_OVERRUN is raised once each time its bit sets (R544). -/
def State.takeFaultIn (s : State) (f : FaultIn) : State :=
  let inj := match checkerOf f with | some c => s.armed c | none => false
  let source := if inj then s.injectedSource ((checkerOf f).getD 0) f.source else f.source
  let s := if inj then s.injected else s
  if !Src.listed source then s
  else if source = Src.crossingOverrun ∧ bit (s.get Reg.CHK_XING_OVERRUN.MAP) f.addr then s
  else (s.detector source f.addr).report ⟨source, f.addr, f.master, accessOf source f.access, inj, false⟩

/-- The order of reports of one cycle: higher class first, then lower source ID (R409). -/
def faultBefore (a b : FaultIn) : Bool :=
  decide (Src.cls b.source < Src.cls a.source) || (Src.cls a.source == Src.cls b.source && decide (a.source ≤ b.source))

/-- Reports put in the order of R409. -/
def faultOrder : List FaultIn → List FaultIn
  | [] => []
  | f :: l => (faultOrder l).takeWhile (fun g => faultBefore g f && !faultBefore f g) ++ f :: (faultOrder l).dropWhile (fun g => faultBefore g f && !faultBefore f g)

/-- The detector can report: its domain is up (R407). In SERVICE the CP, the MP, the DMA and the host buses run beside PD0 and PD12. -/
def State.reports (s : State) (f : FaultIn) : Bool :=
  match s.phase with
  | .dark => false
  | .alwaysOn => f.master == 9 || f.master == 15
  | _ =>
    if s.power = 1 ∨ s.power = 2 ∨ s.power = 0 ∨ s.pwr.wake.isSome then true
    else if s.flag Reg.PWR_STATE.SERVICE then [0, 2, 4, 8, 9, 15].contains f.master
    else f.master == 9 || f.master == 15

/-- FAULT_REPORT (R408, R409): the reports of one cycle. -/
def execFaultReport (fs : List FaultIn) (s : State) : Host.Outcome State Fault Refusal :=
  .next ((faultOrder (fs.filter s.reports)).foldl State.takeFaultIn s)

/-! ### Windows and pulses (R415, R421) -/

/-- A window is gone. -/
def State.dropWindow (s : State) (reaction item : Nat) : State :=
  (s.setFlt { s.flt with windows := s.flt.windows.filter (fun (w : Window) => !(w.reaction == reaction && w.item == item)) }).faultFollow

/-- FAULT_N_PULSE_END (R421): a pulse lasts 50 µs to 60 µs, and at least 50 µs high lie before the next. -/
def execFaultNPulseEnd (s : State) : Host.Outcome State Fault Refusal :=
  if s.flag Reg.FLT_STATUS.PULSE_MODE && s.flt.pulses != 0 then
    let s := (s.until (s.flt.pulseAt + us 50 + s.free % (us 10 + 1))).drawn
    .next (s.setFlt { s.flt with pulses := s.flt.pulses - 1, pulseAt := s.now + us 50 }).faultFollow
  else .next s

/-- Pulse mode is entered or left (R421); between pulses the MP keeps the pad high (notes/assumptions/41.md). -/
def State.pulseMode (s : State) (on : Bool) : State :=
  ((s.setFlt { s.flt with pulses := if on then s.flt.pulses else 0 }).setAll
    [(Reg.FLT_STATUS.PULSE_MODE, b2n on), (Reg.FLT_FAULTN.LEVEL, b2n on)]).faultFollow

/-! ### Injection (R424, R431) -/

/-- PWR_BANK_STATE of a bank: 0 off, 1 retention, 2 on. -/
def bankField (n : Nat) : Field := if n < 16 then Reg.PWR_BANK_STATE_LO.BANK n else Reg.PWR_BANK_STATE_HI.BANK (n - 16)

/-- A checker of Table 13-6 lies in a domain or bank that is off. -/
def State.checkerOff (s : State) (code : Nat) : Bool :=
  let off := fun (d : Nat) => !bit (s.get Reg.PWR_DOMAIN.ON) d
  if code < 32 then s.get (bankField code) != 2
  else match code with
    | 0x20 => off 1 | 0x21 => off 3 | 0x22 => off 3 | 0x23 => off 1 | 0x24 => off 10 | 0x25 => off 4 | 0x26 => off 2 | 0x27 => off 1
    | 0x28 => off 3
    | _ => false

def runFaultInject (r : Req) (s : State) : Answer :=
  let p := r.params
  let code := leAt p 0 1
  let count := leAt p 1 1
  if s.checkerOff code then refuse s Status.badState
  else if s.flag Reg.FLT_INJECT.ARMED then refuse s Status.busy
  else if 0x29 < code ∨ count % 16 = 0 ∨ bits count 4 3 ≠ 0 ∨ (128 ≤ count ∧ 32 ≤ code) ∨ leAt p 2 2 ≠ 0 then refuse s Status.badParam
  else
    let s := s.setFlt { s.flt with injectAt := s.now, injectSingle := decide (128 ≤ count), injectUsed := false }
    let s := if 0x20 ≤ code ∧ code < 0x24 then s.set (Reg.CHK_STATUS.INJECT (code - 0x20)) 1 else s
    accept (s.setAll [(Reg.FLT_INJECT.CHECKER, code), (Reg.FLT_INJECT.ARMED, 1), (Reg.FLT_INJECT.REMAIN, count % 16)])

def opFaultInject : Op := ⟨0x0603, exactly 4, runFaultInject⟩
def execFaultInject (r : Req) (s : State) : Host.Outcome State Fault Refusal := .next (s.command opFaultInject r)

/-- INJECT_TIMEOUT (R424): an armed checker that made no check within 1 s is disarmed. -/
def execInjectTimeout (s : State) : Host.Outcome State Fault Refusal :=
  if s.flag Reg.FLT_INJECT.ARMED && !s.flt.injectUsed then
    let s := s.until (s.flt.injectAt + ms 1000)
    let code := s.get Reg.FLT_INJECT.CHECKER
    let s := s.setAll [(Reg.FLT_INJECT.ARMED, 0), (Reg.FLT_INJECT.REMAIN, 0), (Reg.CHK_STATUS.INJECT 0, 0),
      (Reg.CHK_STATUS.INJECT 1, 0), (Reg.CHK_STATUS.INJECT 2, 0), (Reg.CHK_STATUS.INJECT 3, 0)]
    .next (s.fault Src.injectUnused code 2 7)
  else .next s

/-! ### Persistent log and export (R425, R426) -/

/-- NVM address of a persistent record. -/
def plogAddr (pseq : Nat) : Nat := 0x205D8000 + 32 * (pseq % 2048)

/-- A persistent record (R425). -/
def PlogRecord.bytes (r : PlogRecord) : List Byte :=
  let e := r.entry
  let b := e.bytes ++ le 2 e.epoch ++ [byte e.quality, byte 0] ++ le 4 r.pseq ++ le 2 (e.time / 2 ^ 48) ++ le 2 0
  b ++ le 4 (crc32cFold (plogAddr r.pseq) b)

/-- One waiting record written: the first of a block erases the oldest block (R425). -/
def State.plogWriteOne (s : State) (r : PlogRecord) : State :=
  let s := s.wrapUp Reg.FLT_PLOG_SEQ.SEQ Reg.FLT_STATUS.PLOG_WRAP
  let n := s.get Reg.FLT_PLOG_SEQ.SEQ
  let r := { r with pseq := n }
  let fresh := n % 128 == 0
  let base := plogAddr n
  let s := if fresh then s.nvmStore base (List.replicate 4096 0xFF) else s
  let kept := if fresh then s.flt.plog.filter (fun x => x.pseq % 2048 / 128 != n % 2048 / 128) else s.flt.plog
  (s.nvmStore base (r.bytes.map BitVec.toNat)).setFlt { s.flt with plog := r :: kept }

/-- Every waiting record written. -/
def State.plogWrite (s : State) : State :=
  let l := s.flt.plogPending
  l.foldl State.plogWriteOne (s.setFlt { s.flt with plogPending := [] })

/-- PERSISTENT_LOG_WRITE (R425): within 100 ms. -/
def execPersistentLogWrite (s : State) : Host.Outcome State Fault Refusal :=
  if s.flt.plogPending.isEmpty || !s.mpUp then .next s
  else .next ((s.wait (s.free % (ms 100 + 1))).drawn).plogWrite

/-- Records not yet exported, oldest first. -/
def State.unexported (s : State) : List PlogRecord :=
  (s.flt.plog.takeWhile (fun r => r.pseq != s.flt.exported)).reverse

/-- One export entry (R426): at most 512 records; a full container loses its oldest entry. -/
def State.exportOne (s : State) : State :=
  match s.unexported.take 512 with
  | [] => s
  | r :: rest =>
    let bytes := (r :: rest).flatMap PlogRecord.bytes
    let last := (rest.getLast?.getD r).pseq
    let id := s.flt.exportNo % 65536
    let old := s.lib.exports.filter (fun (p : Nat × Option LibEntry) => p.2.isSome)
    let oldest := (old.find? (fun p => p.1 > id)).getD (old.headD (0, none))
    let room := s.findSpace 6 bytes.length
    let s := if old.length < 1024 ∧ room.isSome then s else s.setEntry 6 oldest.1 none
    match s.findSpace 6 bytes.length with
    | none => s
    | some o =>
      let s := (s.storePut 6 o bytes).setEntry 6 id (some ⟨r.pseq, o, bytes.length, crc32cFold (s.storeFold 6 o) bytes⟩)
      s.setFlt { s.flt with exported := last, exportNo := s.flt.exportNo + 1 }

/-- All new records exported, at most four entries of 512 (the ring holds 2,048). -/
def State.exportAll (s : State) : State := if s.flag Reg.CMP_LIB_STATUS.RAM_STORE then s else s.exportOne.exportOne.exportOne.exportOne

/-- FAULT_LOG_EXPORT (R426): once an hour of on-time, or with 512 records waiting. -/
def execFaultLogExport (s : State) : Host.Outcome State Fault Refusal :=
  if s.flag Reg.CMP_LIB_STATUS.RAM_STORE || !s.mpUp then .next s
  else
    let s := if 512 ≤ s.unexported.length then s else s.wait (ms (s.flt.exportOn + 3600000 - s.onMs))
    .next (s.exportAll.setFlt { s.exportAll.flt with exportOn := s.onMs })

/-! ### Commands of group 0x06 (R427 to R432) -/

/-- 0x0600 FAULT_READ_FIRST (Table 13-8). The record does not change but by merging (R412), so its entry's REPEAT stays 0. -/
def runFaultReadFirst (_ : Req) (s : State) : Answer :=
  let unc := le 2 (min 65535 s.flt.uncleared.length)
  if s.flag Reg.FLT_STATUS.FIRST_VALID then
    let g := s.get
    let time := g Reg.FLT_FIRST_TIME_LO.TIME + g Reg.FLT_FIRST_TIME_HI.TIME * 2 ^ 32
    let e : KilnEntry := { seq := g Reg.FLT_FIRST_ID.SEQ, source := g Reg.FLT_FIRST_ID.SOURCE, cls := g Reg.FLT_FIRST_ID.CLASS
                           merged := false, consequential := false, injected := s.flag Reg.FLT_FIRST_INFO.INJECTED
                           restored := s.flag Reg.FLT_FIRST_INFO.RESTORED, standing := s.flag Reg.FLT_FIRST_INFO.STANDING
                           master := g Reg.FLT_FIRST_ID.MASTER, access := g Reg.FLT_FIRST_INFO.ACCESS
                           rep := 0, addr := g Reg.FLT_FIRST_ADDR.ADDRESS, time := time, quality := 0, epoch := 0, slot := 0 }
    answer s ([byte 1, byte (g Reg.FLT_FIRST_INFO.HIGHEST)] ++ e.bytes ++ le 2 (g Reg.FLT_FIRST_INFO.MERGES)
      ++ [byte (g Reg.FLT_FIRST_INFO.REACTION), byte (g Reg.FLT_FIRST_EPOCH.QUALITY)] ++ le 2 (g Reg.FLT_FIRST_EPOCH.EPOCH) ++ unc
      ++ le 8 time)
  else answer s (le 34 0)

def opFaultReadFirst : Op := ⟨0x0600, exactly 0, runFaultReadFirst⟩
def execFaultReadFirst (r : Req) (s : State) : Host.Outcome State Fault Refusal := .next (s.command opFaultReadFirst r)

/-- 0x0601 FAULT_READ_HISTORY (R429). -/
def runFaultReadHistory (r : Req) (s : State) : Answer :=
  let p := r.params
  let log := leAt p 0 1
  let start := leAt p 2 2
  let n := if log = 0 then s.flt.kiln.length else s.flt.plog.length
  if 1 < log ∨ leAt p 1 1 ≠ 0 ∨ (1 ≤ start ∧ n ≤ start) then refuse s Status.badParam
  else
    let es := if log = 0 then ((s.flt.kiln.drop start).take 16).map KilnEntry.bytes else ((s.flt.plog.drop start).take 30).map PlogRecord.bytes
    answer s ([byte es.length, byte log] ++ es.flatten)

def opFaultReadHistory : Op := ⟨0x0601, exactly 4, runFaultReadHistory⟩
def execFaultReadHistory (r : Req) (s : State) : Host.Outcome State Fault Refusal := .next (s.command opFaultReadHistory r)

/-- The condition of a standing fault still holds (R410, R422). -/
def State.stands (s : State) (u : Uncleared) : Bool :=
  if Src.isLockout u.source then s.lockedOut
  else if u.source = Src.refclkMissing then !s.pads.refclk
  else if u.source = Src.spareRowsOut then s.flag Reg.CAL_STATUS.SPARE_ROWS_OUT
  else if u.source = Src.strVstrLow then s.scan.highRun != 0
  else if u.source = Src.calDefectLimit then s.limitRows.contains u.addr || (u.addr == 1 && !s.flag Reg.CAL_STATUS.SHIP_OK)
  else if u.source = Src.diagPadShort then bit (s.get (Reg.DIAG_PAD_SHORT.MAP ((u.addr - 1) / 32))) ((u.addr - 1) % 32)
  else if u.source = Src.updLoaderHold then s.upd.holds.contains u.addr
  else if u.source = Src.updMigrationFailed then s.upd.cores.any (·.migration)
  else false

/-- The sticky bits of a cleared fault's source (R422). -/
def State.clearSticky (s : State) (u : Uncleared) : State :=
  if u.source = Src.scnFreeze then s.set Reg.SCN_STATUS.FREEZE 0
  else if u.source = Src.calDefectLimit then s.set Reg.CAL_STATUS.FIELD_LIMIT 0
  else if u.source = Src.crossingOverrun then
    let off := fun (f : Field) => (f, s.get f - bits (s.get f) (u.addr % 16) 1 * 2 ^ (u.addr % 16))
    s.setAll [off Reg.CHK_XING_OVERRUN.MAP, off Reg.CHK_XING_STALL.MAP]
  else s

/-- The first-fault record emptied. -/
def State.clearFirst (s : State) : State :=
  let s := s.setFlt { s.flt with windows := s.flt.windows.map (fun (w : Window) => { w with first := false }) }
  s.setAll [(Reg.FLT_STATUS.FIRST_VALID, 0), (Reg.FLT_FIRST_ID.SEQ, 0), (Reg.FLT_FIRST_ID.SOURCE, 0), (Reg.FLT_FIRST_ID.CLASS, 0),
    (Reg.FLT_FIRST_ID.MASTER, 0), (Reg.FLT_FIRST_INFO.ACCESS, 0), (Reg.FLT_FIRST_INFO.REACTION, 0), (Reg.FLT_FIRST_INFO.HIGHEST, 0),
    (Reg.FLT_FIRST_INFO.INJECTED, 0), (Reg.FLT_FIRST_INFO.RESTORED, 0), (Reg.FLT_FIRST_INFO.STANDING, 0),
    (Reg.FLT_FIRST_INFO.MERGES, 0), (Reg.FLT_FIRST_ADDR.ADDRESS, 0), (Reg.FLT_FIRST_TIME_LO.TIME, 0),
    (Reg.FLT_FIRST_TIME_HI.TIME, 0), (Reg.FLT_FIRST_EPOCH.EPOCH, 0), (Reg.FLT_FIRST_EPOCH.QUALITY, 0)]

/-- The clearing of R422; what is merged into the first fault goes with it (R415). -/
def State.clearFaults (s : State) (log : Bool) : State :=
  let gone := s.flt.uncleared.filter (fun u => !(Src.standing u.source && s.stands u))
  let kept := s.flt.uncleared.filter (fun u => Src.standing u.source && s.stands u)
  let firstGone := !kept.any (fun u => u.seq == s.get Reg.FLT_FIRST_ID.SEQ)
  let with_ := if firstGone then s.flt.merged else []
  let s := (gone ++ with_).foldl State.clearSticky (s.setFlt { s.flt with uncleared := kept, merged := if firstGone then [] else s.flt.merged })
  let s := s.set Reg.SAF_STATUS.CNT_SAT 0
  let s := if kept.isEmpty then s.clearFirst else s
  let s := if log then (s.setFlt { s.flt with kiln := [] }).setAll [(Reg.FLT_STATUS.KILN_COUNT, 0), (Reg.FLT_STATUS.KILN_HEAD, 0)] else s
  s.faultFollow

/-- 0x0602 FAULT_CLEAR (R422, R430). -/
def runFaultClear (r : Req) (s : State) : Answer :=
  let p := r.params
  let seq := s.get Reg.FLT_FIRST_ID.SEQ
  if s.flag Reg.FLT_STATUS.FIRST_VALID ∧ leAt p 0 2 ≠ seq then ⟨Status.badState, le 2 seq, s⟩
  else if 1 < leAt p 2 1 ∨ leAt p 3 1 ≠ 0 then refuse s Status.badParam
  else
    let s := s.clearFaults (bit (leAt p 2 1) 0)
    answer s (le 2 (min 65535 s.flt.uncleared.length))

def opFaultClear : Op := ⟨0x0602, exactly 4, runFaultClear⟩
def execFaultClear (r : Req) (s : State) : Host.Outcome State Fault Refusal := .next (s.command opFaultClear r)

/-- 0x0604 FAULT_POLICY (R432). -/
def runFaultPolicy (r : Req) (s : State) : Answer :=
  let p := r.params
  let m := leAt p 0 1
  if m = 0 ∨ 3 < m ∨ 7 < leAt p 1 1 ∨ 1 < leAt p 2 1 ∨ leAt p 3 1 ≠ 0 ∨ 511 < leAt p 4 4 then refuse s Status.badParam
  else
    accept (s.setAll [(Reg.FLT_POLICY.FIRST_MIN, m), (Reg.FLT_POLICY.EVENT_CLASSES, leAt p 1 1), (Reg.FLT_POLICY.HOLD, leAt p 2 1),
      (Reg.FLT_IRQ_EN.EN, leAt p 4 4)])

def opFaultPolicy : Op := ⟨0x0604, exactly 8, runFaultPolicy⟩
def execFaultPolicy (r : Req) (s : State) : Host.Outcome State Fault Refusal := .next (s.command opFaultPolicy r)

end Sys2Proof.Machine
end

