-- ==== Sys2Proof/Machine/SelfTest.lean ====
section
/-! DEFINITION. What self-test runs do (16_self_test): items of ABIST, units of LBIST, results, the self-test record. -/

namespace Sys2Proof.Machine

/-! ### Pads (Table 19-3, R149, R559) -/

/-- The net of pads 1 to 148: 0 a signal, 1 GND, PGND and the slug, 2 VANA, 3 VAUX, 4 VCORE, 5 VIO, 6 VSTR. -/
def padNets : List Nat :=
  [1, 0, 0, 1, 0, 0, 1, 0, 0, 1, 0, 0, 1, 0, 0, 1, 0, 0, 1, 2, 2, 1, 0, 0, 1, 3, 0, 0]
  ++ [1, 0, 0, 1, 4, 4, 4, 4, 1, 0, 0, 0, 0, 0, 0, 5, 0, 0, 0, 0, 0, 0, 0, 1, 0, 0, 0, 0, 5, 0, 0, 0, 0, 0, 0, 0, 0, 0, 0, 0, 0, 1, 4, 4, 4, 4]
  ++ [1, 0, 0, 1, 0, 0, 1, 0, 0, 1, 0, 0, 1, 2, 2, 1, 3, 0, 0, 0, 0, 0, 0, 0, 3, 3, 1, 1]
  ++ [1, 4, 4, 1, 1, 6, 6, 1, 1, 1, 6, 6, 1, 1, 1, 6, 6, 1, 1, 1, 6, 6, 1, 1, 1, 6, 6, 1, 1, 1, 6, 6, 1, 1, 1, 6, 6, 1, 1, 1, 6, 6, 1, 4, 4, 1]

/-- Net of a pad. -/
def padNet (n : Nat) : Nat := nth 0 padNets (n - 1)

/-- Nominal level of a supply net in mV (Table 19-6); VSTR is nominal per VTRACK (R90). -/
def State.nominal (s : State) (net : Nat) : Nat :=
  match net with
  | 2 => 1800 | 3 => 3300 | 4 => 800 | 5 => 1800 | 6 => 20000 + 15 * s.get Reg.STR_POWER_LIMIT.VSET | _ => 0

/-- A pair (n, n + 1) is a PAD_SHORT (R149, R559): `x` is its resistance in ohms, or for two supply nets their difference in
mV. A pair of one net is not tested. -/
def State.padShort (s : State) (n x : Nat) : Bool :=
  let a := padNet n
  let b := padNet (n % 148 + 1)
  if a = b ∧ a ≠ 0 then false
  else if a ≠ 0 ∧ b ≠ 0 then
    let d := max (s.nominal a) (s.nominal b) - min (s.nominal a) (s.nominal b)
    decide (x < 100) || (decide (2 * x < d) && Config.choice 559 (s.now * 256 + n))
  else decide (x < 1000) || (decide (x ≤ 100000) && Config.choice 149 (s.now * 256 + n))

/-- A pair touches HPERM_A, HPERM_B, LIMP_A, LIMP_B or SAFE_STATE_N, pads 92 to 96 (Table 12-5, 0x17). -/
def safetyPair (n : Nat) : Bool := decide (91 ≤ n ∧ n ≤ 96)

/-! ### The record (R493, Table 16-4) -/

/-- BST_PORT_OUT and the lanes mapped out follow the map-out list (R244, Table 16-1). -/
def State.portOut (s : State) : State :=
  let pl := maskOf ((List.range 4).filter (fun n => s.mappedBy 3 n))
  let s := s.setAll [(Reg.BST_PORT_OUT.PL_LANES, pl), (Reg.BST_PORT_OUT.PL_PORT, b2n (s.mappedBy 4 0)),
    (Reg.BST_PORT_OUT.CO_LANES, maskOf ((List.range 2).filter (fun n => s.mappedBy 3 (4 + n)))),
    (Reg.BST_PORT_OUT.CO_PORT, b2n (s.mappedBy 4 1))]
  s.set Reg.LNK_STATUS.MAPPED_OUT (s.get Reg.LNK_STATUS.MAPPED_OUT ||| pl)

/-- BST_SHUT_INFO and BST_SHUT_TIME show the stored shutdown result. -/
def State.showShut (s : State) : State :=
  match s.bst.shut with
  | none => s.setAll [(Reg.BST_SHUT_INFO.VERDICT, 0), (Reg.BST_SHUT_INFO.SKIPPED, 0), (Reg.BST_SHUT_INFO.CONSUMED, 0),
      (Reg.BST_SHUT_INFO.VALID, 0), (Reg.BST_SHUT_INFO.QUALITY, 0), (Reg.BST_SHUT_INFO.EPOCH, 0), (Reg.BST_SHUT_TIME_LO.TIME, 0),
      (Reg.BST_SHUT_TIME_HI.TIME, 0)]
  | some t => s.setAll [(Reg.BST_SHUT_INFO.VERDICT, t.verdict), (Reg.BST_SHUT_INFO.SKIPPED, b2n t.skipped),
      (Reg.BST_SHUT_INFO.CONSUMED, b2n s.bst.consumed), (Reg.BST_SHUT_INFO.VALID, 1), (Reg.BST_SHUT_INFO.QUALITY, t.quality),
      (Reg.BST_SHUT_INFO.EPOCH, t.epoch), (Reg.BST_SHUT_TIME_LO.TIME, t.time), (Reg.BST_SHUT_TIME_HI.TIME, t.time / 2 ^ 32)]

/-- The bytes of the self-test record (Table 16-4). -/
def State.recordBytes (s : State) : List Byte :=
  let b := s.bst
  let shut := match b.shut with
    | none => le 32 0
    | some t => [byte t.verdict, byte (b2n t.skipped + 2 * b2n b.consumed + 4), byte t.quality, byte 0] ++ le 2 t.epoch ++ le 2 0
        ++ le 8 t.time ++ (List.range 7).map (fun i => byte (((t.entries.find? (fun e => e.code == i)).map (·.result)).getD 0)) ++ le 9 0
  let head := le 2 1 ++ le 2 b.maps.length ++ le 4 b.seq ++ le 8 0
  let list := b.maps.flatMap (fun m => le 4 (m.1 * 2 ^ 28 + m.2))
  let body := head ++ shut ++ le 208 0 ++ list ++ le (3072 - list.length) 0 ++ le 764 0
  body ++ le 4 (crc32cFold 0x20607000 body)

/-- The self-test record is written (R493). -/
def State.recordWrite (s : State) : State :=
  let s := s.setBst { s.bst with seq := (s.bst.seq + 1) % 2 ^ 32 }
  (s.nvmStore 0x20607000 (s.recordBytes.map BitVec.toNat)).showShut

/-- An element is mapped out: in the list of 768 entries, or for the session only. Answers whether the list overflowed. -/
def State.mapOut (s : State) (kind element : Nat) : State × Bool :=
  if s.mappedBy kind element then (s, false)
  else if s.bst.maps.length < 768 then (s.setBst { s.bst with maps := s.bst.maps ++ [(kind, element)] }, false)
  else (s.setBst { s.bst with session := s.bst.session ++ [(kind, element)] }, true)

/-- Elements mapped out, and whether one overflowed the list. -/
def State.mapOutAll (s : State) (kind : Nat) (es : List Nat) : State × Bool :=
  es.foldl (fun (x : State × Bool) e => let y := x.1.mapOut kind e; (y.1, x.2 || y.2)) (s, false)

/-! ### Runs and results (R490, R495, R501) -/

/-- Bounds of ABIST items (Table 16-1). -/
def abistBound (item : Nat) : Nat := ms (nth 2 [2, 1, 6, 2, 1, 6, 2] item)

/-- Targets and durations of LBIST units (Table 16-5). -/
def lbistTarget (unit_ : Nat) : Nat := nth 0 [65536, 16384, 16384, 32768, 16384] unit_
def lbistLength (unit_ : Nat) : Nat := ms (nth 0 [8, 2, 3, 6, 3] unit_)

/-- A run shown in BST_STATUS. -/
def State.showRun (s : State) : State :=
  match s.bst.run with
  | none => s.setAll [(Reg.BST_STATUS.RUNNING, 0), (Reg.BST_STATUS.ITEM, 0)]
  | some r => s.setAll [(Reg.BST_STATUS.RUNNING, 1), (Reg.BST_STATUS.ENGINE, r.engine), (Reg.BST_STATUS.ITEM, r.left.headD 0),
      (Reg.BST_STATUS.ORIGIN, r.origin)]

/-- The LANE item sets both ports to DISABLED for its duration (R504). -/
def State.laneBegin (s : State) : State :=
  if s.get Reg.LNK_STATUS.STATE = 0 then s else ((s.linkLeave 0).lossCore)

/-- After it the link restarts from DOWN. -/
def State.laneEnd (s : State) : State :=
  if s.flag Reg.SYS_STATE.POWER && bit (s.get Reg.LNK_POLICY.FLAGS) 0 && s.scan.running then s.linkEnable true else s

/-- SCAN_ADDR, BOXMAX and D2D are tested inside one SCAN_RESET that no fault is raised for (R499). -/
def State.testReset (s : State) (left : List Nat) (start : Nat) : State :=
  let units := left.filter (fun u => decide (2 ≤ u))
  let len := (units.map lbistLength).sum
  let s := (s.scanReset).resetCrossings [6, 7, 8, 9]
  let s := s.setScan { s.scan with resetAt := some (start + len) }
  if s.flt.windows.any (fun w => w.reaction == 1) then s
  else s.setFlt { s.flt with windows := s.flt.windows ++ [⟨1, 0, false, s.now, 3⟩] }

/-- What beginning an item or unit does. -/
def State.beginItem (s : State) (engine origin : Nat) (left : List Nat) (first : Bool) (start : Nat) : State :=
  match engine, left with
  | 0, 0 :: _ => s.laneBegin
  | 1, u :: _ => if origin = 1 ∧ 2 ≤ u ∧ first then s.testReset left start else s
  | _, _ => s

/-- A run starts `delay` base cycles from now. -/
def State.startTest (s : State) (engine origin : Nat) (items : List Nat) (clear : Bool) (delay : Nat) : State :=
  let s := s.setBst { s.bst with run := some ⟨engine, origin, items, clear, s.now + delay, [], false, false⟩ }
  (s.showRun).beginItem engine origin items true (s.now + delay)

/-- The verdict of a run (R490): codes of Table 16-3. -/
def verdictOf (es : List TestEntry) (overflow : Bool) : Nat :=
  if overflow || es.any (fun e => e.result == 2) then 2
  else if es.any (fun e => e.result == 5) then 3
  else if es.any (fun e => e.result == 4) then 4
  else 1

/-- The SELFTEST event (R507). -/
def State.selfTestEvent (s : State) (reason origin verdict fails : Nat) : State :=
  s.event 0xF005 ([byte reason, byte origin, byte verdict, byte 0] ++ le 4 fails ++ le 8 s.time)

/-- The result of a run that has ended. -/
def State.resultOf (s : State) (r : TestRun) : TestResult :=
  ⟨r.origin, verdictOf r.done r.overflow, r.skipped, r.overflow, false, s.epoch, s.time, s.quality, r.done⟩

/-- New failed elements of all items, or failed units (R507). -/
def failsOf (r : TestRun) : Nat :=
  if r.engine = 0 then (r.done.map (·.fails)).sum else (r.done.filter (fun e => e.result == 2 || e.result == 5)).length

/-- A run has ended: results, counters, record and event. -/
def State.endTest (s : State) (r : TestRun) : State :=
  let t := s.resultOf r
  let s := (s.setBst { s.bst with run := none }).showRun
  let res := fun i => ((r.done.find? (fun e => e.code == i)).map (·.result)).getD 0
  if r.engine = 0 then
    let s := (s.bump Reg.BST_ABIST_COUNT.COUNT Reg.BST_STATUS.CNT_SAT).setBst { (s.bump Reg.BST_ABIST_COUNT.COUNT Reg.BST_STATUS.CNT_SAT).bst with abist := some t }
    let s := s.setAll ((List.range 7).map (fun i => (Reg.BST_ABIST_RESULT.ITEM i, res i)))
    let s := s.setAll [(Reg.BST_ABIST_RESULT.VERDICT, t.verdict), (Reg.BST_ABIST_RESULT.ORIGIN, r.origin)]
    let s := s.recordWrite
    if r.origin = 2 then (s.setBst { s.bst with held := some t }).selfTestEvent 3 2 t.verdict (failsOf r)
    else s.selfTestEvent 1 r.origin t.verdict (failsOf r)
  else
    let s := (s.bump Reg.BST_LBIST_COUNT.COUNT Reg.BST_STATUS.CNT_SAT).setBst { (s.bump Reg.BST_LBIST_COUNT.COUNT Reg.BST_STATUS.CNT_SAT).bst with lbist := some t }
    let s := s.setAll ((List.range 5).map (fun i => (Reg.BST_LBIST_RESULT.UNIT i, res i)))
    let s := s.setAll [(Reg.BST_LBIST_RESULT.VERDICT, t.verdict), (Reg.BST_LBIST_RESULT.ORIGIN, r.origin)]
    s.selfTestEvent 2 r.origin t.verdict (failsOf r)

/-- One item or unit has ended: counters and faults of R491, the next one, or the end. Answers whether the run has ended. -/
def State.nextItem (s : State) (r : TestRun) (e : TestEntry) (skipped overflow : Bool) : State × Bool :=
  let s := if e.result = 2 then s.bump Reg.BST_FAIL_COUNT.COUNT Reg.BST_STATUS.CNT_SAT
    else if e.result = 5 then s.bump Reg.BST_INCOMPLETE_COUNT.COUNT Reg.BST_STATUS.CNT_SAT else s
  let s := if r.engine = 0 then
      (if e.result = 2 ∧ e.code ≤ 4 then s.fault Src.bstAbistFail (e.code * 2 ^ 24 + e.data % 2 ^ 24) 2 4
       else if e.result = 5 then s.fault Src.bstAbistIncomplete e.code 2 4 else s)
    else s
  let r := { r with left := r.left.tail, startAt := s.now, done := r.done ++ [e], skipped := r.skipped || skipped
                    overflow := r.overflow || overflow }
  match r.left with
  | [] => (s.endTest r, true)
  | _ => (((s.setBst { s.bst with run := some r }).showRun).beginItem r.engine r.origin r.left
      (decide (e.code < 2)) s.now, false)

/-- A request or a wake stops an ABIST within 1 ms: the running item and those after it end ABORTED (R504). -/
def State.stopAbist (s : State) : State :=
  match s.bst.run with
  | none => s
  | some r =>
    if r.engine = 0 then
      let s := if r.left.headD 9 = 0 then s.laneEnd else s
      let s := s.endTest { r with left := [], done := r.done ++ r.left.map (fun i => ⟨i, 4, 0, 0, 0⟩) }
      if r.origin = 1 then s.pulseMode false else s
    else s

/-- A shutdown test's result is discarded (R440). -/
def State.dropShutdownTest (s : State) : State := s.stopAbist.setBst { s.stopAbist.bst with held := none }

/-- The held shutdown result is stored in the record (R502). -/
def State.storeShutdown (s : State) : State :=
  match s.bst.held with
  | none => s
  | some t => (s.setBst { s.bst with shut := some t, consumed := false, held := none }).recordWrite

/-- The stored shutdown result is consumed (R502, R503). -/
def State.consumeShut (s : State) : State :=
  match s.bst.shut with
  | none => s
  | some _ => (s.setBst { s.bst with consumed := true }).recordWrite

/-! ### ABIST items (R488 to R492) -/

/-- The kind of the map-out list that an item's elements take, if any. -/
def itemKind (item : Nat) : Option Nat :=
  match item with
  | 0 => some 3 | 2 => some 1 | 3 => some 2 | _ => none

/-- The map-out entry of a lane reading (8 × port + lane; lane 4 the clock lane): a lane by its number, or a port. -/
def laneEntry (e : Nat) : Nat × Nat := if e % 8 = 4 then (4, e / 8) else (3, 4 * (e / 8) + e % 8)

/-- A reading fails (Table 16-2, R148, R149). LANE: the lowest figure of merit; REF, SENSE: deviation in 0.1 %; DAC:
deviation in percent of the accuracy of Table 3-2; TEMP: difference from the median in 0.1 °C; ISOL: current in 0.1 µA;
PAD: as `padShort`. -/
def State.readingFails (s : State) (item e x : Nat) : Bool :=
  let key := (8 * s.now + item) * 2 ^ 24 + e
  match item with
  | 0 => decide (x < 64) || (decide (x < 128) && Config.choice 489 key)
  | 1 => band 489 key 20 41 x
  | 2 => band 489 key 100 151 x
  | 3 => band 489 key 50 101 x
  | 4 => band 489 key 30 61 x
  | 5 => band 148 key 4 51 x
  | _ => s.padShort e x

/-- An element is already mapped out and is tested again only with CLEAR_MAP (R492). -/
def State.itemMapped (s : State) (item e : Nat) : Bool :=
  match item with
  | 0 => s.mappedBy (laneEntry e).1 (laneEntry e).2
  | 2 => s.mappedBy 1 e
  | 3 => s.mappedBy 2 e
  | _ => false

/-- An element is left out because the limp plane lights it (R490). -/
def State.itemLit (s : State) (item e : Nat) : Bool :=
  match item with
  | 2 => s.limpLit e
  | 3 => s.flag Reg.STR_STATUS.LIMP_ENGAGED && Block.limpBin s.ksBlock (e % 256) (e / 256)
  | 5 => s.limpLit (stringOf (e / 2))
  | _ => false

/-- The elements left out of an item (R490). -/
def State.itemSkips (s : State) (item : Nat) : Nat :=
  let bins := if s.flag Reg.STR_STATUS.LIMP_ENGAGED then Block.litBins s.ksBlock else 0
  match item with
  | 2 => 8 * bins
  | 3 => bins
  | 4 =>
    let limp := s.flag Reg.STR_STATUS.LIMP_ENGAGED || (match s.ks.lastLimp with | none => false | some t => decide (s.now ≤ t + ms 10))
    if s.conductedWithin (ms 10) || limp then 20 else 0
  | 5 => 8 * bins
  | _ => 0

/-- The tile moves to its passing reference nearest nominal, or none passes (R121). -/
def State.refFails (s : State) (readings : List (Nat × Nat)) (t : Nat) : State :=
  let sel := bits (s.get (Reg.CAL_REF_SEL.SEL (t / 16))) (2 * (t % 16)) 2
  let dev := fun k => ((readings.find? (fun p => p.1 == 4 * t + k)).map (·.2)).getD 0
  let bad := fun k => readings.any (fun p => p.1 == 4 * t + k) && s.readingFails 1 (4 * t + k) (dev k)
  let ok := (List.range 4).filter (fun k => !bad k)
  if !bad sel then s
  else
    match ok with
    | [] => s.fault Src.calRefNone t 2 4
    | k :: ks => s.setCal { s.cal with refMove := s.cal.refMove.insert t (ks.foldl (fun a b => if dev b < dev a then b else a) k) }

/-- Map-outs and releases of strings, which the MP commits: at once while the module is in service, else with the mask that the start
rebuilds (R25). -/
def State.wantMask (s : State) (l : List (Nat × Bool)) : State :=
  let s := s.setCal { s.cal with bistMask := l.foldl (fun (m : Assoc Bool) p => m.insert p.1 p.2) s.cal.bistMask }
  if s.phase = .service then s.maskCommit else s

/-- A sensor that fails the TEMP item is suspect under R472. -/
def State.suspectSensor (s : State) (n : Nat) : State :=
  if s.flag (Reg.TMP_SENSOR.SUSPECT n) then s
  else
    let s := s.setAll [(Reg.TMP_SENSOR.SUSPECT n, 1), (Reg.TMP_STATUS.SUSPECT_ANY, 1)]
    ((s.bump Reg.TMP_SUSPECT_COUNT.COUNT Reg.TMP_STATUS.CNT_SAT).fault Src.tmpSensorDisagree n 2 4).thermalEvent 7 n

/-- What failing elements bring (Table 16-1). Answers whether the map-out list overflowed. -/
def State.treat (s : State) (item : Nat) (readings : List (Nat × Nat)) (fails : List Nat) : State × Bool :=
  match item with
  | 0 =>
    let x := fails.foldl (fun (x : State × Bool) e => let y := x.1.mapOut (laneEntry e).1 (laneEntry e).2; (y.1, x.2 || y.2)) (s, false)
    (x.1.portOut, x.2)
  | 1 => ((fails.map (· / 4)).eraseDups.foldl (fun s t => s.refFails readings t) (s.setCal { s.cal with refDev := readings }), false)
  | 2 =>
    let x := s.mapOutAll 1 fails
    (x.1.wantMask (fails.map (fun n => (n, true))), x.2)
  | 3 => s.mapOutAll 2 fails
  | 4 => (fails.foldl State.suspectSensor s, false)
  | 5 => (fails.foldl (fun s e => s.setDiag { s.diag with pending := s.diag.pending ++ [⟨e / 2, 4, e % 2 == 1, 2⟩] }) s, false)
  | _ =>
    (fails.foldl (fun s n =>
      let f := Reg.DIAG_PAD_SHORT.MAP ((n - 1) / 32)
      let s := (s.set f (s.get f ||| 2 ^ ((n - 1) % 32))).fault Src.diagPadShort n 2 4
      if safetyPair n then s.lockoutCause 0x17 n 1 else s) s, false)

/-- What passing elements bring: pads' bits and suspect sensors clear; CLEAR_MAP releases what was tested again and passes: strings and
bins with the MP's next calibration commit, lanes at the next training (R422, R492). -/
def State.release (s : State) (item : Nat) (clear : Bool) (fails : List Nat) : State :=
  let keep := fun (m : Nat × Nat) =>
    if item = 0 then !(m.1 == 3 || m.1 == 4) || fails.any (fun e => laneEntry e == m)
    else match itemKind item with | some k => m.1 != k || fails.contains m.2 || s.itemLit item m.2 | none => true
  let freed := if clear then (s.bst.maps ++ s.bst.session).filter (fun m => !keep m) else []
  let s := s.setBst { s.bst with
    maps := s.bst.maps.filter (fun m => !freed.contains m), session := s.bst.session.filter (fun m => !freed.contains m)
    released := s.bst.released ++ freed.filter (fun m => m.1 == 2 || m.1 == 3) }
  let s := if item = 2 ∨ item = 3 then s.wantMask ((freed.filter (fun m => m.1 == 1)).map (fun m => (m.2, false))) else s
  match item with
  | 0 => if clear then s.portOut else s
  | 4 =>
    let s := (s.bst.suspect.filter (fun n => !fails.contains n)).foldl (fun s n =>
      s.setAll [(Reg.TMP_SENSOR.SUSPECT n, 0), (Reg.TMP_SENSOR.DISAGREE n, 0)]) s
    s.setBst { s.bst with suspect := fails }
  | 6 =>
    (List.range 148).foldl (fun s k =>
      if fails.contains (k + 1) then s
      else let f := Reg.DIAG_PAD_SHORT.MAP (k / 32); s.set f (s.get f - bits (s.get f) (k % 32) 1 * 2 ^ (k % 32))) s
  | _ => s

/-- ADDRESS of an element (R491). -/
def elementAddr (item e : Nat) : Nat := if item = 0 then 4 * (e / 8) + e % 8 else e

/-- An item judged from its readings (elements not listed are clearly good); `vstr` is the VSTR reading in mV at its start
(R490). Answers its entry, whether elements were skipped, and whether the list overflowed. -/
def State.judgeItem (s : State) (item : Nat) (clear : Bool) (readings : List (Nat × Nat)) (vstr : Nat) : State × TestEntry × Bool × Bool :=
  let skips := s.itemSkips item
  if item = 2 ∧ vstr < 20000 then (s, ⟨item, 5, 0, 0, 0⟩, false, false)
  else if item = 4 ∧ skips ≠ 0 then (s, ⟨item, 3, 0, 20, 0⟩, true, false)
  else
    let tested := readings.filter (fun p => !s.itemLit item p.1 && (clear || !s.itemMapped item p.1))
    let fails := (tested.filter (fun p => s.readingFails item p.1 p.2)).map (·.1)
    let new := fails.filter (fun e => !s.itemMapped item e)
    let x := s.treat item tested fails
    let s := x.1.release item clear fails
    let first := fails.tail.foldl min (fails.headD 0)
    let result := if !fails.isEmpty then 2 else if skips ≠ 0 then 3 else 1
    (s, ⟨item, result, new.length, skips, elementAddr item first⟩, skips != 0, x.2)

/-! ### LBIST units (R495 to R497) -/

/-- A unit judged: patterns run, signature, and whether the state shifted back matched its check (R497). -/
def State.judgeUnit (s : State) (origin unit_ patterns signature : Nat) (restored : Bool) : TestEntry :=
  let compares := origin != 0 || unit_ == 1
  let result := if patterns < lbistTarget unit_ then 5
    else if signature % 2 ^ 64 ≠ nth 0 s.id.lbistRefs unit_ ∨ (compares ∧ !restored) then 2 else 1
  ⟨unit_, result, b2n (result != 1), patterns, signature % 2 ^ 64⟩

/-- BST_LBIST_SIGu and BST_LBIST_PATu. -/
def State.showUnit (s : State) (e : TestEntry) : State :=
  s.setAll [(Reg.BST_LBIST_SIG_LO.SIG e.code, e.data), (Reg.BST_LBIST_SIG_HI.SIG e.code, e.data / 2 ^ 32),
    (Reg.BST_LBIST_PAT.COUNT e.code, e.skipPat)]

end Sys2Proof.Machine
end

