-- ==== Sys2Proof/Machine/Images.lean ====
section
/-! DEFINITION. The image state words, the images and the archive (17_firmware_update: R509 to R512, R521, R529). Cores are
numbered as in Table 17-1: 0 CP, 1 MP, 2 SP. -/

namespace Sys2Proof.Machine

/-- What firmware update keeps of a core. -/
def State.core (s : State) (c : Nat) : CoreImage := s.upd.cores.getD c (CoreImage.delivered_ c)

/-- It, replaced. -/
def State.setCore (s : State) (c : Nat) (x : CoreImage) : State :=
  s.setUpd { s.upd with cores := (List.range 3).map (fun k => if k = c then x else s.core k) }

/-- First and last-plus-one address of an image region (Table 1-8). -/
def imageRegion (c : Nat) : Nat × Nat :=
  match c with
  | 0 => (0x20040000, 0x20340000) | 1 => (0x20340000, 0x20440000) | _ => (0x20440000, 0x20540000)

/-- Greatest IMAGE_SIZE of a core (R509). -/
def imageLimit (c : Nat) : Nat := if c = 0 then 786432 else 393216

/-- `n` bytes of the NVM. -/
def State.nvmBytes (s : State) (a n : Nat) : List Byte := (List.range n).map (fun i => byte (s.nvmByte (a + i)))

/-! ### Headers (Table 17-1, R510) -/

namespace Header
def target (h : List Byte) : Nat := leAt h 6 1
def hwMask (h : List Byte) : Nat := leAt h 8 4
def version (h : List Byte) : Nat := leAt h 12 4
def rollback (h : List Byte) : Nat := leAt h 16 1
def format (h : List Byte) : Nat := leAt h 18 2
def size (h : List Byte) : Nat := leAt h 20 4
def digest (h : List Byte) : List Byte := (h.drop 32).take 32
def key (h : List Byte) : List Byte := (h.drop 64).take 64
def signature (h : List Byte) : List Byte := (h.drop 192).take 64
/-- The reserved fields are zero. -/
def reservedZero (h : List Byte) : Bool :=
  leAt h 7 1 == 0 && leAt h 17 1 == 0 && leAt h 24 8 == 0 && leAt h 128 64 == 0 && hwMask h < 2 ^ 18
end Header

/-- The header of the image as delivered, whose fields notes/assumptions/1.md names. -/
def deliveredHeader (c : Nat) : List Byte :=
  le 4 0x50554B46 ++ le 2 1 ++ [byte c, byte 0] ++ le 4 0x3FFFF ++ le 4 0 ++ [byte 0, byte 0] ++ le 2 1 ++ le 4 (imageLimit c) ++ le 8 0
    ++ le 32 (c + 1) ++ le 192 0

/-- HW_MASK names this variant and this controller die revision. -/
def State.hwOk (s : State) (h : List Byte) : Bool :=
  bit (Header.hwMask h) s.id.variant.code && bit (Header.hwMask h) (2 + s.id.dieRevs % 256)

/-- KEY matches the firmware key hash; SIGNATURE verifies. -/
def State.keyOk (s : State) (h : List Byte) : Bool := Config.sha256 (Header.key h) == s.id.updKeyHash
def State.signed (h : List Byte) : Bool := Config.ecdsaGood (Header.key h) (Config.sha256 (h.take 192)) (Header.signature h)

/-- The OTP level of a core. -/
def State.otpLevel (s : State) (c : Nat) : Nat := s.id.otpLevels.getD c 0

/-- It, raised to a level. -/
def State.setOtpLevel (s : State) (c v : Nat) : State :=
  { s with id := { s.id with otpLevels := (List.range 3).map (fun k => if k = c then v else s.otpLevel k) } }

/-- A header is acceptable (R510). -/
def State.headerOk (s : State) (h : List Byte) : Bool :=
  s.keyOk h && State.signed h && decide (s.otpLevel (Header.target h) ≤ Header.rollback h) && s.hwOk h

/-- The state of a core's image as commands judge it: an image for which the loader holds although its word says FIRED is unusable and counts
as CONFIRMED (R512). -/
def State.imageState (s : State) (c : Nat) : Nat := if s.upd.holds.contains c && (s.core c).state == 3 then 4 else (s.core c).state

/-- The header in a region, and its image. -/
def State.imageHeader (s : State) (c : Nat) : List Byte :=
  if (s.core c).delivered then deliveredHeader c else s.nvmBytes (imageRegion c).1 256
def State.imageBytes (s : State) (c : Nat) : List Byte := s.nvmBytes ((imageRegion c).1 + 256) (min (Header.size (s.imageHeader c)) (imageLimit c))

/-- The image in the region passes R510 and its DIGEST. -/
def State.imageOk (s : State) (c : Nat) : Bool :=
  let h := s.imageHeader c
  if (s.core c).delivered then decide (s.otpLevel c ≤ Header.rollback h)
  else s.headerOk h && Header.target h == c && decide (1 ≤ Header.size h ∧ Header.size h ≤ imageLimit c)
    && Config.sha256 (s.imageBytes c) == Header.digest h

/-! ### The archive (R525, R529) -/

/-- External flash is fitted. -/
def State.flashFitted (s : State) : Bool := !s.lib.devices.isEmpty

/-- The archive entry of a core. -/
def State.archiveEntry (s : State) (c : Nat) : Option LibEntry := (s.lib.archive.find c).join

/-- The bytes of an archive entry. -/
def State.archiveBytes (s : State) (e : LibEntry) : List Byte := s.storeBytes 3 e.offset e.length

/-- The header of an archived image. -/
def State.archiveHeader (s : State) (c : Nat) : List Byte :=
  match s.archiveEntry c with
  | none => []
  | some e => if (s.core c).archived then deliveredHeader c else (s.archiveBytes e).take 256

/-- The archive entry is read: a failing check counts (R214). -/
def State.archiveRead (s : State) (c : Nat) : State := s.entryRead 3 c (s.archiveEntry c)

/-- The archive entry passes its entry check, R510 and the OTP level (R525). -/
def State.archiveOk (s : State) (c : Nat) : Bool :=
  match s.archiveEntry c with
  | none => false
  | some e =>
    let h := s.archiveHeader c
    s.entryGood 3 e && Header.target h == c
      && decide (s.otpLevel c ≤ Header.rollback h) && ((s.core c).archived || s.headerOk h)

/-! ### The image state word (R511) -/

/-- Seconds of window time counted (R521): only while PD1 is powered. -/
def State.windowTime (s : State) (c : Nat) : Nat :=
  let x := s.core c
  let on := bit (s.get Reg.PWR_DOMAIN.ON) 1 && s.phase != .dark && s.phase != .alwaysOn
  if x.state = 3 then x.onTime + (if on then s.now - x.countedAt else 0) else x.onTime

/-- UPD_WINDOWc.LEFT: seconds left in the confirm window, 0 unless FIRED. -/
def State.windowLeft (s : State) (c : Nat) : Nat :=
  if (s.core c).state = 3 then s.get Reg.UPD_CTRL.CONFIRM_WINDOW * 60 - s.windowTime c / 100000000 else 0

/-- UPD_COREc, UPD_NVM_VERc and UPD_ARC_VERc show the word in force, the archive and the OTP level. -/
def State.showCore (s : State) (c : Nat) : State :=
  let x := s.core c
  s.setAll [(Reg.UPD_CORE.STATE c, x.state), (Reg.UPD_CORE.ATTEMPTS c, x.attempts), (Reg.UPD_CORE.EXPIRED c, b2n x.expired),
    (Reg.UPD_CORE.MIGRATION_FAILED c, b2n x.migration), (Reg.UPD_CORE.ARCHIVE c, b2n (s.archiveEntry c).isSome),
    (Reg.UPD_CORE.OTP_ROLLBACK c, s.otpLevel c), (Reg.UPD_NVM_VER.VERSION c, x.version),
    (Reg.UPD_ARC_VER.VERSION c, leAt (s.archiveHeader c) 12 4)]

/-- The bytes of an image state word copy at an address. -/
def CoreImage.bytes (x : CoreImage) (addr : Nat) : List Byte :=
  let b := le 4 x.seq ++ [byte x.state, byte x.attempts, byte (b2n x.expired + 2 * b2n x.migration), byte 0] ++ le 4 x.version
    ++ [byte x.rollback] ++ le 3 0 ++ x.digest.take 32 ++ le (32 - (x.digest.take 32).length) 0 ++ le 4 x.onSaved ++ le 8 0
  b ++ le 4 (crc32cFold addr b)

/-- The word changed: the other copy is written with SEQ one higher. -/
def State.writeWord (s : State) (c : Nat) (x : CoreImage) : State :=
  let x := { x with seq := (x.seq + 1) % 2 ^ 32 }
  let addr := 0x205D0000 + 0x1000 * c + 0x800 * (x.seq % 2)
  ((s.setCore c x).nvmStore addr ((x.bytes addr).map BitVec.toNat)).showCore c

/-- ON_TIME written to the word of every FIRED core (R521). -/
def State.writeOnTime (s : State) : State :=
  [0, 1, 2].foldl (fun (s : State) c =>
    let x := s.core c
    if x.state = 3 then s.writeWord c { x with onTime := s.windowTime c, onSaved := s.windowTime c / 100000000, countedAt := s.now } else s) s

/-- Window time counted up to now, before PD1 is switched off; and the counting begun again. -/
def State.stopWindow (s : State) : State :=
  s.setUpd { s.upd with cores := s.upd.cores.mapIdx (fun c x => { x with onTime := s.windowTime c, countedAt := s.now }) }
def State.startWindow (s : State) : State :=
  s.setUpd { s.upd with cores := s.upd.cores.map (fun (x : CoreImage) => { x with countedAt := s.now }) }

/-- The UPDATE event (R532). -/
def State.updateEvent (s : State) (reason c result : Nat) : State :=
  s.event 0xF006 ([byte reason, byte c, byte (s.core c).state, byte 0] ++ le 2 result ++ le 2 0 ++ le 4 (s.core c).version ++ le 8 s.time)

end Sys2Proof.Machine
end

