-- ==== Sys2Proof/Machine/Power.lean ====
section
/-! DEFINITION. Power states, resets, supplies and time (14_power_states_wake_and_time; R12, R563, R567). -/

namespace Sys2Proof.Machine

/-! ### Words, settings and the retention image (R449, R465) -/

/-- The fields of the register at an address, if the family has one there. -/
def RegFamily.fieldsAt (f : RegFamily) (a : Nat) : Option (List Field) :=
  if f.base ≤ a ∧ (a - f.base) % max f.stride 1 = 0 ∧ (a - f.base) / max f.stride 1 < max f.count 1 then
    some (f.fields.map (fun x => { x with addr := x.addr + (a - f.base) }))
  else none

/-- The fields of the register at an address; `none` for an address not listed. -/
def regFields (a : Nat) : Option (List Field) := regTable.findSome? (fun f => f.fieldsAt a)

/-- The word of a register as `State.regs` holds it. -/
def State.regWord (s : State) (a : Nat) : Nat := s.word ((regFields a).getD [])

/-- The words of the retention image (R449): first address and number of words. -/
def retentionRuns : List (Nat × Nat) :=
  [(0x4000000C, 2), (0x40000020, 5), (0x40200004, 1), (0x40300000, 1), (0x40300008, 4), (0x40300040, 1), (0x40300048, 4),
   (0x40300080, 1), (0x40300088, 4), (0x403000C0, 1), (0x403000C8, 4), (0x40400004, 2), (0x40400040, 14), (0x40500004, 3),
   (0x40500040, 6), (0x40600000, 3), (0x40600014, 4), (0x40700000, 1), (0x40700008, 2), (0x40700014, 2), (0x40700020, 2),
   (0x40700040, 8), (0x40800000, 2), (0x4080000C, 1), (0x40800018, 1), (0x40800020, 4), (0x4080003C, 2)]
  ++ [(0x40900000, 1), (0x40900008, 1), (0x40900024, 1), (0x4090002C, 3), (0x40A00000, 1), (0x40A00040, 8), (0x40B00000, 1),
   (0x40B00008, 10), (0x40B10000, 4), (0x40B10020, 8), (0x40C00060, 6), (0x40E00000, 1), (0x40F00000, 1), (0x41000000, 5),
   (0x41000018, 2), (0x41000040, 21)]

/-- The addresses of the retention list, in rising order. -/
def retentionWords : List Nat := retentionRuns.flatMap (fun r => (List.range r.2).map (fun i => r.1 + 4 * i))

/-- The register retention image saved (R449, Table 14-5). -/
def State.saveImage (s : State) (retain : Nat) : State :=
  let image := retentionWords.flatMap (fun a => le 4 a ++ le 4 (s.regWord a))
  let head := le 4 retentionWords.length ++ le 4 1 ++ le 4 retain ++ le 4 s.pwr.vflag ++ le 4 (crc32cFold 0x10000000 image)
  ({ s with aon := Memory.writeN 0 (Memory.writeN 0 s.aon 0x10000000 image) 0x10004000 head }).set Reg.PWR_RET_COUNT.COUNT
    retentionWords.length

/-- The image and the retention CRCs discarded (R440). -/
def State.discardImage (s : State) : State :=
  ({ s with aon := Assoc.clearRange (Assoc.clearRange s.aon 0x10000000 0x10004000) 0x10004000 0x10004100 }).set Reg.PWR_RET_COUNT.COUNT 0

/-- The registers of the settings record: wake configuration, fault policy, link policy, cascade mode, sensing and thermal
policies, self-test and update control, host buses (R157, R260, R321, R353, R432, R465, R485, R508, R533). -/
def settingsAddr (a : Nat) : Bool :=
  [0x40100004, 0x40100008, 0x40200004, 0x40200008, 0x40400004, 0x40400008, 0x40500004, 0x40500008, 0x4050000C, 0x40B10000,
   0x40B10004, 0x40B10008, 0x40B1000C, 0x40D00008, 0x40D0000C, 0x40D00010, 0x40D00014, 0x40D00018, 0x40E00000, 0x40F00000,
   0x41000000, 0x41000004, 0x41000008, 0x4100000C, 0x41000010, 0x41000018, 0x4100001C].contains a
  || (decide (0x40B10020 ≤ a) && decide (a < 0x40B10040))

/-- The registers whose reset value is "From NVM": they come back at the next start. -/
def nvmAddr (a : Nat) : Bool :=
  [0x40000008, 0x40A00008, 0x40A0000C, 0x40A00010, 0x40A00014, 0x40A00018, 0x40A0001C, 0x40A00020, 0x40A00024, 0x40A0002C,
   0x40A00030, 0x40A00034, 0x40A00038, Reg.SAF_COMMISSION_COUNT.COUNT.addr, Reg.SAF_LOCKOUT_COUNT.COUNT.addr, Reg.FLT_PLOG_SEQ.SEQ.addr,
   0x40E00010, 0x40E00014, 0x40E00018, 0x40E0001C, Reg.UPD_ACTIVATE_COUNT.COUNT.addr, Reg.UPD_AUTO_FALLBACK_COUNT.COUNT.addr].contains a
  || (decide (0x40A00060 ≤ a) && decide (a < 0x40A000A0))

/-- The settings record and the "From NVM" values: as the registers hold them, or as they were written until the loader has read
them after a loss of VAUX. -/
def State.settings (s : State) : Settings :=
  let keep := fun (p : Nat × Nat) =>
    settingsAddr (p.1 / 32) || nvmAddr (p.1 / 32) || p.1 == Reg.SAF_STATUS.COMMISSIONED.key
      || (decide ((Reg.SAF_SP_DIGEST.BYTES 0).addr ≤ p.1 / 32) && decide (p.1 / 32 < (Reg.SAF_SP_DIGEST.BYTES 0).addr + 32))
  if s.clk.epochDone then ⟨s.regs.filter keep, if s.beam.front.map.isSome then s.beam.front.map else s.saved.map, true⟩ else s.saved

/-- The settings record restored into the registers (R449, R456). -/
def State.restoreSettings (s : State) : State :=
  let s := { s with regs := s.saved.regs.foldl (fun m p => Assoc.set 0 m p.1 p.2) s.regs }
  if s.saved.written then s else s.set Reg.SYS_NODE_TAG.TAG (s.id.serial % 2 ^ 32)

/-- What is loaded from NVM at the first start after VAUX came; lock-outs entered before it are counted on. -/
def State.loadNvm (s : State) : State :=
  if s.clk.epochDone then s
  else
    let n := s.get Reg.SAF_LOCKOUT_COUNT.COUNT
    s.restoreSettings.bumpBy Reg.SAF_LOCKOUT_COUNT.COUNT Reg.SAF_STATUS.CNT_SAT n

/-! ### Resets (R456, Table 14-8) -/

/-- The power limit word at its reset values (R477). -/
def State.resetWord (s : State) : State :=
  s.setAll [(Reg.STR_POWER_LIMIT.BUDGET, 300), (Reg.STR_POWER_LIMIT.LIMIT, 100), (Reg.STR_POWER_LIMIT.DROP, 0),
    (Reg.STR_POWER_LIMIT.VSET, 300), (Reg.STR_POWER_PENDING.BUDGET, 300), (Reg.STR_POWER_PENDING.LIMIT, 100),
    (Reg.STR_POWER_PENDING.DROP, 0), (Reg.STR_POWER_PENDING.VSET, 300), (Reg.STR_STATUS.PENDING, 0), (Reg.STR_STATUS.HEADROOM, 0),
    (Reg.TMP_STATUS.STATE, 0), (Reg.TMP_STATUS.BOOST, 0)]

/-- The registers that mirror what a reset has emptied: beam, link, scan-out, libraries, calibration, tests, protocol. -/
def State.mirrorsReset (s : State) : State :=
  let s := (s.showMap none).setAll [(Reg.BEAM_STATUS.SOURCE, 2), (Reg.BEAM_STATUS.WATCH, 0), (Reg.BEAM_STATUS.LOADING, 0),
    (Reg.BEAM_STATUS.QUEUED, 0), (Reg.BEAM_STATUS.XFADE, 0), (Reg.BEAM_STATUS.BANK, 0), (Reg.BEAM_LIST_SEQ.PENDING, 0),
    (Reg.CMP_STATUS.LIVE, 0), (Reg.CMP_STATUS.FRONT, 0),
    (Reg.CMP_LIB_STATUS.INSTALL, 0), (Reg.CAL_STATUS.STATE, 0), (Reg.UPD_SESSION.STATE, 0), (Reg.UPD_SESSION.TARGET, 255),
    (Reg.UPD_SESSION.NEXT_SEQ, 0), (Reg.UPD_RECEIVED.BYTES, 0), (Reg.SAF_STATUS.SP_LIMP, 0), (Reg.SAF_STATUS.SP_CONFIRMED, 0),
    (Reg.SAF_STATUS.MAP_MATCH, 0), (Reg.SAF_STATUS.CONFIG_OK, 0), (Reg.LNK_STATUS.STATE, 0), (Reg.LNK_STATUS.INPUT, 0),
    (Reg.LNK_STATUS.GEN, 0), (Reg.LNK_STATUS.LANES, 0), (Reg.LNK_STATUS.LOCK, 0), (Reg.LNK_STATUS.BC_OK, 0),
    (Reg.LNK_PARTNER.VALID, 0), (Reg.CAS_MEMBER.P 1, 0), (Reg.CAS_MEMBER.P 2, 0), (Reg.CAS_MEMBER.P 3, 0),
    (Reg.SCN_LOCK_STATUS.STATE, 0)]
  let s := s.stagesDropped.senseLost
  s.setAll [(Reg.FLT_INJECT.ARMED, 0), (Reg.FLT_INJECT.REMAIN, 0), (Reg.PWR_MEAS_CTRL.BUSY, 0)]

/-- Every SRAM bank powers up; those that were off take their row mappings (R122). -/
def State.banksUp (s : State) : State :=
  let off := (List.range 32).filter (fun n => s.get (bankField n) == 0)
  (off.foldl State.rowsUp s).setAll ((List.range 32).map (fun n => (bankField n, 2)))

/-- The power registers of a module that starts: READY is its state to come (R434, Table 14-14). -/
def State.powerReset (s : State) : State :=
  ((s.setPower 2).setAll [(Reg.PWR_STATE.STEP, 0), (Reg.PWR_STATE.WAKE, 0), (Reg.PWR_STATE.SERVICE, 0), (Reg.PWR_STATE.TARGET, 0),
    (Reg.PWR_STATE.SHUTDOWN, 0), (Reg.PWR_DOMAIN.ON, 0x1FFF)]).banksUp

/-- Power fails, or a reset falls, while calibration blocks are written: those already written stand, one may be caught in any of its three
steps, and the rest keep their old content (R105). A run so cut gives INCOMPLETE_WRITE (R127); a run still RUNNING or WAITING, which has
written nothing, does not (DESIGN CHOICE, notes/assumptions/16.md). -/
def State.cutWrites (s : State) : State :=
  match s.cal.writing with
  | none => s
  | some c =>
    let l := s.changedBlocks c
    let n := s.free % (4 * l.length + 1)
    let s := ((l.take (n / 4)).foldl (fun (s : State) p => s.writeBlock p.1 p.2) s).drawn
    let s := match (l.drop (n / 4)).head? with
      | some p => if n % 4 = 0 then s else (s.cutBlock p.1 p.2 (n % 4) (s.free % (p.2.length + 1))).drawn
      | none => s
    s.setCal { s.cal with writing := none, incomplete := s.cal.incomplete || c.run }

/-- A reset falls into the writes of a commissioning: once the SP's store holds the new block they go on after the next start; before,
and for a digest alone, the earlier copies stay (R395). -/
def State.cutCommission (s : State) : State :=
  match s.com.writing with
  | none => s
  | some (new, _) =>
    let goesOn := new.isSome && s.free % 2 == 0
    { s.drawn with com := { s.com with writing := if goesOn then s.com.writing else none } }

/-- Everything the controller die and the backplane digital logic lose at a reset (Table 14-8), cores and memories included;
the Kiln Shutter, always-on memory, the fault collector, the latches SEL and BYP, and the registers stay. -/
def State.loseController (s : State) : State :=
  let s := s.cutWrites.cutCommission.countOn
  let s := { s with
    sram := [], rings := [], latches := [], phase := .alwaysOn, cpUp := false, mpUp := false, spUp := false
    id := { s.id with lifecycle := s.id.nextLifecycle }
    proto := Proto.initial, beam := Beam.initial, link := Link.initial, casc := Cascade.initial
    bus := { Buses.initial with dali := s.bus.dali }, diag := Diag.initial, sns := { Sensing.initial with config := s.sns.config }, tmp := Thermal.initial
    sp := SafetyCore.initial, com := { s.com with staged := none }, pwr := s.freshPower, chk := ⟨[], [], 0⟩
    scan := { Scan.initial with sel := s.scan.sel, byp := s.scan.byp }
    lib := { s.lib with install := none, resident := [], raised := [], legacyWaiting := none }
    bst := { s.bst with run := none, abist := none, lbist := none, held := none, session := [] }
    upd := { s.upd with
      header := [], lastChunk := none, again := false, restart := none, holds := [], activated := none
      cores := s.upd.cores.map (fun (x : CoreImage) => { x with running := [], onTime := x.onSaved * 100000000 }) } }
  s.setCal { s.cal with run := none, pending := none, writing := none, latched := [], acc := [], followTiles := [], moved := []
                        followAt := none, vf := [], effTheta := [], refused := [], bistMask := [] }

/-- A reset of the controller as a VCORE reset makes it (R456); `cause` of SYS_RESET_CAUSE. -/
def State.controllerReset (s : State) (cause : Nat) : State :=
  let s := { s with saved := s.settings }
  let s := s.permitFall
  let s := s.loseController
  let s := ((s.resetRegs 0x40300000 0x40300108).resetRegs 0x40300110 0x40400000).resetRegs 0x40F00010 0x40F00060
  let s := ((s.resetWord).mirrorsReset).powerReset
  let s := s.setFlt { s.flt with windows := s.flt.windows.filter (fun (w : Window) => w.reaction == 6) }
  (s.setAll [(Reg.SYS_RESET_CAUSE.CAUSE, cause), (Reg.SYS_RESET_CAUSE.COUNT, min 65535 (s.get Reg.SYS_RESET_CAUSE.COUNT + 1))]).judge

/-- A loss of VAUX: everything but the non-volatile memories is lost (Table 14-8, R462, R563). -/
def State.vauxReset (s : State) : State :=
  let keep := s.settings
  let f := s.flt
  let s := s.loseController
  { s with
    regs := [], aon := [], saved := keep, phase := .dark
    clk := { start := s.now, offset := 0, timeSet := false, compAt := none, errBase := 0, errAt := s.now, alarm := 0
             epochStored := s.clk.epochStored, epochDone := false }
    flt := { Collector.initial with plog := f.plog, exported := f.exported, exportNo := f.exportNo, exportOn := f.exportOn }
    ks := Shutter.initial s.ks.copy0 s.ks.copy1, scan := Scan.initial
    locks := { s.locks with aon := none }, cal := { s.cal with et := s.cal.etRecord, rowsIn := s.cal.rowMap } }

/-- RESET_N_LOW (R567): low for some base cycles; 1 µs or less never resets, 10 µs or more always does. The module leaves reset
1 ms after the rise. -/
def execResetNLow (duration : Nat) (s : State) : Host.Outcome State Fault Refusal :=
  if s.phase = .dark then .next (s.wait duration)
  else if band 567 s.now 100 1000 duration then
    let s := (s.wait duration).controllerReset 1
    .next (s.setPwr { s.pwr with heldUntil := s.now + ms 1 })
  else .next (s.wait duration)

/-! ### Supplies (R455, Table 14-7) -/

/-- A level judged against a band: always at or below `yes`, never above `no`. -/
def lowBand (rule key yes no mv : Nat) : Bool :=
  if mv ≤ yes then true else if no < mv then false else Config.choice rule key

/-- Warning and reset bands of a supply in mV: 1 VCORE, 2 VANA, 3 VAUX. -/
def warnBand (supply : Nat) : Nat × Nat := match supply with | 1 => (750, 770) | 2 => (1680, 1720) | _ => (3010, 3090)
def resetBand (supply : Nat) : Nat × Nat := match supply with | 1 => (720, 740) | 2 => (1600, 1640) | _ => (2810, 2890)

/-- A supply stands at a level. -/
def State.setSupply (s : State) (supply mv : Nat) : State :=
  { s with pads := match supply with
      | 1 => { s.pads with vcore := mv }
      | 2 => { s.pads with vana := mv }
      | 3 => { s.pads with vaux := mv }
      | _ => { s.pads with vstr := mv } }

def State.supply (s : State) (supply : Nat) : Nat :=
  match supply with | 1 => s.pads.vcore | 2 => s.pads.vana | 3 => s.pads.vaux | _ => s.pads.vstr

/-- SUPPLY_WARNING (R455): a supply held at a level for 2 µs. -/
def execSupplyWarning (supply mv : Nat) (s : State) : Host.Outcome State Fault Refusal :=
  let known := decide (1 ≤ supply ∧ supply ≤ 3) && s.phase != .dark
  let s := (if known then s.setSupply supply mv else s).wait (us 2)
  let now := s.get Reg.PWR_SUPPLY.WARN_NOW
  if known && lowBand 455 (s.now * 8 + supply) (warnBand supply).1 (warnBand supply).2 mv && !bit now (supply - 1) then
    let s := s.setAll [(Reg.PWR_SUPPLY.WARN_NOW, now ||| 2 ^ (supply - 1)),
      (Reg.PWR_SUPPLY.WARN_SEEN, s.get Reg.PWR_SUPPLY.WARN_SEEN ||| 2 ^ (supply - 1))]
    .next ((s.irq 5).powerEvent 4 s.power supply mv)
  else .next s

/-- SUPPLY_WARNING_CLEAR (R455): the supply has stayed above the upper edge of its warning band for 1 ms. -/
def execSupplyWarningClear (supply mv : Nat) (s : State) : Host.Outcome State Fault Refusal :=
  let now := s.get Reg.PWR_SUPPLY.WARN_NOW
  if 1 ≤ supply ∧ supply ≤ 3 ∧ s.phase ≠ .dark ∧ bit now (supply - 1) ∧ (warnBand supply).2 < mv then
    let s := (s.setSupply supply mv).wait (ms 1)
    .next ((s.set Reg.PWR_SUPPLY.WARN_NOW (now - 2 ^ (supply - 1))).powerEvent 5 s.power supply mv)
  else .next s

/-- SUPPLY_MONITOR_RESET (R455, R456): a supply held in its reset band for 2 µs resets its domains; they are held until the
supply has been above its warning band for 1 ms. -/
def execSupplyMonitorReset (supply mv : Nat) (s : State) : Host.Outcome State Fault Refusal :=
  let known := decide (1 ≤ supply ∧ supply ≤ 3) && s.phase != .dark
  let s := (if known then s.setSupply supply mv else s).wait (us 2)
  if known && lowBand 456 (s.now * 8 + supply) (resetBand supply).1 (resetBand supply).2 mv then
    if supply = 3 then
      let s := s.vauxReset.set Reg.SYS_RESET_CAUSE.CAUSE 4
      .next (s.setPwr { s.pwr with heldReset := 3 })
    else
      let s := s.controllerReset (supply + 1)
      .next (s.setPwr { s.pwr with heldReset := supply, heldUntil := s.now + ms 1 })
  else .next s

/-- VAUX_LOSS (R563, R462, Table 14-8): VAUX falls to nothing. -/
def execVauxLoss (s : State) : Host.Outcome State Fault Refusal :=
  if s.phase = .dark then .next s else .next (s.setSupply 3 0).vauxReset

/-- PWR_MEAS_CTRL written with START (R457). -/
def State.measStart (s : State) : State := (s.set Reg.PWR_MEAS_CTRL.BUSY 1).setPwr { s.pwr with measAt := s.now }

/-- MEAS_DONE (R457): the conversion completes within 20 µs; VSTR is measured only while PD11 is powered. -/
def execMeasDone (mv : Nat) (s : State) : Host.Outcome State Fault Refusal :=
  if s.flag Reg.PWR_MEAS_CTRL.BUSY then
    let s := (s.until (s.pwr.measAt + s.free % (us 20 + 1))).drawn
    let n := s.get Reg.PWR_MEAS_CTRL.SUPPLY
    .next (s.setAll [(Reg.PWR_MEAS_CTRL.BUSY, 0), (Reg.PWR_MEAS_RESULT.MV, min 65535 mv), (Reg.PWR_MEAS_RESULT.SUPPLY, n),
      (Reg.PWR_MEAS_RESULT.VALID, b2n (n != 0 || bit (s.get Reg.PWR_DOMAIN.ON) 11))])
  else .next s

/-! ### Time (R458 to R462, R466, R467) -/

/-- A change of source: the error bound grows by 61 µs (R460). -/
def State.sourceChange (s : State) (crystal : Bool) : State :=
  let e := min 0xFFFFFFFF (s.timeErr + 61)
  let s := { s with clk := { s.clk with errBase := e, errAt := s.now } }
  (s.setAll [(Reg.PWR_TIME_STATUS.XTAL, b2n crystal), (Reg.PWR_TIME_STATUS.SRC_CHANGE, 1)]).powerEvent 6 s.power 0 0

/-- XTAL_STOP (R461): a gap without a crystal edge, in RC periods: two or less never, four or more always. -/
def execXtalStop (gap : Nat) (s : State) : Host.Outcome State Fault Refusal :=
  if s.phase ≠ .dark ∧ s.flag Reg.PWR_TIME_STATUS.XTAL ∧ band 461 s.now 2 4 gap then
    .next ((s.sourceChange false).bump Reg.PWR_XTAL_LOSS_COUNT.COUNT Reg.PWR_STATE.CNT_SAT)
  else .next s

/-- XTAL_RETURN (R461): 1,024 consecutive good crystal cycles (31.25 ms). -/
def execXtalReturn (s : State) : Host.Outcome State Fault Refusal :=
  if s.phase ≠ .dark ∧ !s.flag Reg.PWR_TIME_STATUS.XTAL then .next ((s.wait 3125000).sourceChange true) else .next s

/-- Compensation is frozen: no temperature reading arrives (R459). -/
def State.compFrozen (s : State) : Bool := s.power == 3 || s.power == 4

/-- 0x0702 TIME_GET (R466). -/
def runTimeGet (_ : Req) (s : State) : Answer :=
  answer s ([byte s.quality, byte (s.get Reg.PWR_TIME_STATUS.XTAL + 2 * s.get Reg.PWR_TIME_STATUS.SRC_CHANGE + 4 * b2n s.compFrozen)]
    ++ le 2 s.epoch ++ le 2 0 ++ le 8 s.time ++ le 4 s.timeErr)

def opTimeGet : Op := ⟨0x0702, exactly 0, runTimeGet⟩
def execTimeGet (r : Req) (s : State) : Host.Outcome State Fault Refusal := .next (s.command opTimeGet r)

/-- 0x0703 TIME_SET (R467): OFFSET is set so that TIME applies at the next tick. -/
def runTimeSet (r : Req) (s : State) : Answer :=
  let p := r.params
  let t := leAt p 0 8
  let setEpoch := bit (leAt p 10 1) 0
  if s.quality ≠ 3 ∧ (t < s.time ∨ setEpoch ∨ 1 < leAt p 10 1 ∨ leAt p 11 1 ≠ 0) then refuse s Status.badParam
  else
    let offset := (t + 2 ^ 64 - (s.ticks + 1) * 15625 / 512 % 2 ^ 64) % 2 ^ 64
    let s' := { s with clk := { s.clk with offset := offset, timeSet := true, errBase := leAt p 12 4, errAt := s.now } }
    accept (if setEpoch ∧ s.quality = 3 then s'.set Reg.PWR_TIME_STATUS.EPOCH (leAt p 8 2) else s')

def opTimeSet : Op := ⟨0x0703, exactly 16, runTimeSet⟩
def execTimeSet (r : Req) (s : State) : Host.Outcome State Fault Refusal := .next (s.command opTimeSet r)

/-- 0x0701 WAKE_CONFIG (R465). -/
def runWakeConfig (r : Req) (s : State) : Answer :=
  let p := r.params
  let sources := leAt p 0 1
  let idle := leAt p 6 2
  if (bit sources 3 ∧ s.id.variant = .aw) ∨ (bit sources 4 ∧ !s.follower) ∨ 31 < sources ∨ 127 < leAt p 1 1
      ∨ 2 < leAt p 2 1 ∨ 2 < leAt p 3 1 ∨ 2 < leAt p 4 1 ∨ 2 < leAt p 5 1 ∨ idle < 100 ∨ 60000 < idle then refuse s Status.badParam
  else
    let s := { s with clk := { s.clk with alarm := leAt p 8 8 } }
    accept (s.setAll [(Reg.PWR_WAKE_CFG.SOURCES, sources), (Reg.PWR_WAKE_CFG.WAKE_ADDR, leAt p 1 1), (Reg.PWR_WAKE_CFG.SERVICE_IDLE, idle),
      (Reg.PWR_WAKE_TARGET.SPI, leAt p 2 1), (Reg.PWR_WAKE_TARGET.ALARM, leAt p 3 1), (Reg.PWR_WAKE_TARGET.INPUTS, leAt p 4 1),
      (Reg.PWR_WAKE_TARGET.DALI, leAt p 5 1), (Reg.PWR_ALARM_LO.ALARM, leAt p 8 4), (Reg.PWR_ALARM_HI.ALARM, leAt p 12 4)])

def opWakeConfig : Op := ⟨0x0701, exactly 16, runWakeConfig⟩
def execWakeConfig (r : Req) (s : State) : Host.Outcome State Fault Refusal := .next (s.command opWakeConfig r)

/-! ### PERMIT (R358) -/

/-- The power state lets PERMIT be high: ACTIVE or READY, no entry at step 3 or beyond; on a wake beyond SERVICE the SP raises
it once it has resumed (Table 14-4). -/
def State.powerPermits (s : State) : Bool :=
  match s.pwr.entry with
  | some e => decide (e.origin = 1 ∨ e.origin = 2) && decide (s.get Reg.PWR_STATE.STEP < 3)
  | none => s.power == 1 || s.power == 2 || (match s.pwr.wake with | some w => w.target != 0 | none => false)

/-- A core that restarts by an activation or a fallback, a reset of scope MODULE, or an LBIST by command keeps PERMIT low. -/
def State.stopDue (s : State) : Bool :=
  (match s.upd.restart with | some (c, _) => c == 2 | none => false)
    || (match s.proto.resetDue with | some (scope, _) => scope == 0 | none => false)
    || (match s.bst.run with | some r => r.engine == 1 && r.origin == 1 | none => false)

/-- The conditions under which the SP holds PERMIT high (R358, R395). -/
def State.permitOk (s : State) : Bool :=
  s.spUp && s.configGood && !s.lockedOut && s.powerPermits && !s.stopDue && s.com.writing.isNone

/-! ### Entry and its abandonment (R437 to R442) -/

/-- The time the entry's fade has run until d = 0 is shown, or until the frame that runs (R440). -/
def State.fadeRun (s : State) (fadeMs : Nat) : Nat :=
  let f := s.beam.dimFade
  let p := s.period
  if f.z ≠ 0 ∨ p = 0 then 0
  else min (ms fadeMs) (min (s.scan.frameStart - f.b0) ((f.len - p + p - 1) / p * p))

/-- The dimmer commanded back to 4,096, and committed. -/
def State.undoFade (s : State) (fadeMs : Nat) : State := ((s.setDimmer 4096 (s.fadeRun fadeMs)).commitWork)

/-- An entry ends without its target: the state before it is in force again (R440). -/
def State.abandonEntry (s : State) : State :=
  match s.pwr.entry with
  | none => s
  | some e =>
    let step := s.get Reg.PWR_STATE.STEP
    let s := (s.wait (s.free % (ms 1 + 1))).drawn
    let s := if e.testing then s.dropShutdownTest else s
    let s := if 4 ≤ step then s.discardImage else s
    let s := if 4 ≤ step ∧ e.shutdownTest then s.consumeShut else s
    let s := s.setPwr { s.pwr with entry := none }
    let s := (s.setPower e.origin).setAll [(Reg.PWR_STATE.STEP, 0), (Reg.PWR_STATE.TARGET, 0)]
    let s := if 3 ≤ step ∧ s.permitOk then s.permitRise else s
    let s := if 2 ≤ step ∧ e.origin ≤ 2 then s.undoFade e.fadeMs else s
    (s.powerEvent 2 e.origin step 0).bump Reg.PWR_ABANDON_COUNT.COUNT Reg.PWR_STATE.CNT_SAT

/-- A wake begins from STANDBY or SLEEP (R443 to R446): PD1 and PD2 alone for SERVICE. -/
def State.beginWake (s : State) (source target origin : Nat) : State :=
  let on := if target = 0 then 0x1007 else 0x1FFF
  let again := s.flag Reg.PWR_STATE.SERVICE
  let s := s.setAll [(Reg.PWR_WAKE_CAUSE.CAUSE, source), (Reg.PWR_STATE.WAKE, 1), (Reg.PWR_STATE.SHUTDOWN, 0),
    (Reg.PWR_STATE.SERVICE, 0), (Reg.PWR_DOMAIN.ON, on)]
  let s := if source = 3 then s else s.set Reg.PWR_WAKE_CAUSE.INPUTS 0
  let s := if target = 0 then s else (s.setPower 0).banksUp
  let s := s.setPwr { s.pwr with wake := some ⟨source, target, origin, s.now, false⟩, wakeAfter := none }
  let s := (s.setTmp { s.tmp with sweepAt := none, codes := none, published := none, power := [], frames := 0, sweptPower := [], sweptFrames := 0 }).startWindow
  let s := if origin = 4 ∧ !again then { s with phase := .loader, mpUp := true } else s
  let s := if origin = 4 ∧ again then { s with phase := .lbist } else s
  (s.powerEvent 3 origin source 0).bump Reg.PWR_WAKE_COUNT.COUNT Reg.PWR_STATE.CNT_SAT

/-- A wake that runs takes the higher target; domains that SERVICE left off are powered. -/
def State.raiseWake (s : State) (w : Wake) (target : Nat) : State :=
  if target ≤ w.target then s
  else
    let s := s.setPwr { s.pwr with wake := some { w with target := target } }
    ((s.setPower 0).set Reg.PWR_DOMAIN.ON 0x1FFF).banksUp

/-- A wake event of Table 14-3, or a POWER_STATE to ACTIVE or READY (source 6), with its target: 0 SERVICE, 1 READY, 2 ACTIVE. -/
def State.wakeEvent (s : State) (source target : Nat) : State :=
  match s.pwr.entry, s.pwr.wake with
  | some e, _ =>
    if e.target = 2 then s
    else if 5 ≤ s.get Reg.PWR_STATE.STEP then
      match s.pwr.wakeAfter with
      | some (src, t) => s.setPwr { s.pwr with wakeAfter := some (src, max t target) }
      | none => s.setPwr { s.pwr with wakeAfter := some (source, target) }
    else
      let s := s.abandonEntry
      if 3 ≤ e.origin then s.beginWake source target e.origin
      else if target = 2 ∧ e.origin = 2 then s.setPwr { s.pwr with activePending := some s.now }
      else s
  | none, some w => s.raiseWake w target
  | none, none =>
    if s.flag Reg.PWR_STATE.SERVICE then (if target = 0 then s else s.beginWake source target s.pwr.serviceFrom)
    else if s.power = 3 ∨ s.power = 4 then s.beginWake source target s.power
    else s

/-- A source of Table 14-3 when it is enabled. -/
def State.wakeSource (s : State) (source : Nat) : State :=
  let target := match source with
    | 1 => s.get Reg.PWR_WAKE_TARGET.SPI
    | 2 => s.get Reg.PWR_WAKE_TARGET.ALARM
    | 3 => s.get Reg.PWR_WAKE_TARGET.INPUTS
    | 4 => s.get Reg.PWR_WAKE_TARGET.DALI
    | _ => 1
  if bit (s.get Reg.PWR_WAKE_CFG.SOURCES) (source - 1) then s.wakeEvent source target else s

/-- The orderly stop ends with a request for READY, STANDBY, SLEEP or SHUTDOWN (R481). -/
def State.endStop (s : State) : State :=
  if 2 ≤ s.get Reg.TMP_STATUS.STATE then
    (((s.setStop 0 0 false).set Reg.TMP_STATUS.STATE (throttleState (bits s.wordNewest 9 7))).setTmp { s.tmp with hardStop := false })
  else s

/-- An entry begins at step 1 (R437); a running calibration is aborted first (R126). -/
def State.beginEntry (s : State) (target : Nat) (test : Bool) (fadeMs retain : Nat) : State :=
  let origin := s.power
  let s := (s.abortCal).endStop
  let e : Entry := ⟨target, test, fadeMs, retain, origin, s.now, false, 0⟩
  let s := s.setPwr { s.pwr with entry := some e, activePending := none }
  (s.setPower 0).setAll [(Reg.PWR_STATE.STEP, 1), (Reg.PWR_STATE.TARGET, target)]

/-- READY from ACTIVE: only the fade of entry step 2 (R436). -/
def State.beginReady (s : State) (fadeMs : Nat) : State :=
  let s := s.endStop
  let e : Entry := ⟨2, false, fadeMs, 0, 1, s.now, false, 0⟩
  let s := (s.setPwr { s.pwr with entry := some e }).setAll [(Reg.PWR_STATE.STEP, 2), (Reg.PWR_STATE.TARGET, 2)]
  (s.setDimmer 0 (ms fadeMs)).commitWork

/-- ACTIVE during the fade to READY: the fade is undone (notes/assumptions/42.md). -/
def State.undoReady (s : State) (fadeMs : Nat) : State :=
  let s := (s.setPwr { s.pwr with entry := none }).setAll [(Reg.PWR_STATE.STEP, 0), (Reg.PWR_STATE.TARGET, 0)]
  ((s.undoFade fadeMs).powerEvent 2 1 2 0).bump Reg.PWR_ABANDON_COUNT.COUNT Reg.PWR_STATE.CNT_SAT

/-- The state asked for is in force. -/
def State.inForceAlready (s : State) (t : Nat) : Bool :=
  s.pwr.entry.isNone && s.pwr.wake.isNone && (s.power == t || (t == 5 && s.power == 4 && s.flag Reg.PWR_STATE.SHUTDOWN))

/-- What an accepted POWER_STATE does; a running ABIST by command is stopped first (R504). -/
def State.powerAct (s : State) (p : List Byte) : State :=
  let t := leAt p 0 1
  let s := s.stopAbist
  match s.pwr.entry with
  | some e =>
    if e.target = 2 then (if t = 1 then s.undoReady e.fadeMs else s) else s.wakeEvent 6 (2 - (t - 1))
  | none =>
    if s.flag Reg.PWR_STATE.SERVICE then s.wakeEvent 6 (if t = 1 then 2 else 1)
    else if t = 1 then s.setPwr { s.pwr with activePending := some s.now }
    else if t = 2 then s.beginReady (leAt p 2 2)
    else s.beginEntry t (bit (leAt p 1 1) 0) (leAt p 2 2) (leAt p 4 4)

/-- An accepted POWER_STATE waits for the end of a running LBIST (R504). -/
def State.powerRequest (s : State) (p : List Byte) : State :=
  match s.bst.run with
  | some r => if r.engine = 1 then s.setPwr { s.pwr with waiting := some p } else s.powerAct p
  | none => s.powerAct p

/-- A firmware update that makes POWER_STATE busy: a session, a target in GREEN or VERIFIED, a restart (R464, R517). -/
def State.updateBusy (s : State) : Bool :=
  s.get Reg.UPD_SESSION.STATE != 0 || s.upd.restart.isSome
    || [0, 1, 2].any (fun c => (s.core c).state == 1 || (s.core c).state == 2)

/-- 0x0700 POWER_STATE (R464). -/
def runPowerState (r : Req) (s : State) : Answer :=
  let p := r.params
  let t := leAt p 0 1
  let step := s.get Reg.PWR_STATE.STEP
  let low := s.power == 3 || s.power == 4
  if ((decide (1 ≤ step ∧ step ≤ 4) && decide (t ≠ 1 ∧ t ≠ 2))
      || (low && decide (3 ≤ t ∧ t ≤ 5) && !s.inForceAlready t)) then refuse s Status.badState
  else if 5 ≤ step ∨ s.pwr.wake.isSome ∨ s.com.writing.isSome ∨ s.lib.install.isSome ∨ s.updateBusy then refuse s Status.busy
  else if t = 0 ∨ 5 < t ∨ 1 < leAt p 1 1 ∨ (leAt p 1 1 = 1 ∧ t ≠ 5) ∨ 10000 < leAt p 2 2 then refuse s Status.badParam
  else if t = 1 ∧ s.upd.cores.any (·.migration) then refuse s Status.migrationFailed
  else
    let s' := if r.target = 0 then s.cascadeForward (packetOf { r with target := 0x0F } s.tag 0x0700 s.now) r.ring 0x0F else s
    if s.inForceAlready t then accept s'
    else
      let ok := decide (t = 1) && (s.power == 2 || (s.power == 1 && s.pwr.entry.isSome))
      let s' := s'.powerRequest p
      if ok then accept s' else pend s'

def opPowerState : Op := ⟨0x0700, exactly 8, runPowerState⟩
def execPowerState (r : Req) (s : State) : Host.Outcome State Fault Refusal := .next (s.command opPowerState r)

/-- WRITE_REG as the CP executes it (R320, R502): 0xA5A5 to register 4 asks for SHUTDOWN with SHUTDOWN_TEST and FADE_MS 0. -/
def State.legacySetReg (s : State) (reg value : Nat) : State :=
  if reg = 4 ∧ value = 0xA5A5 then (runPowerState ⟨5, 0, false, 0, [byte 5, byte 1] ++ le 6 0, 0⟩ s).state else s

/-- LEGACY_WRITE_REG (R320). -/
def execLegacyWriteReg (reg value : Nat) (s : State) : Host.Outcome State Fault Refusal :=
  .next (s.legacyRun [] (legacyFrame 3 reg 1 [value]) (fun s => s.legacySetReg reg value))

/-- The banks that an entry retains: BANK_RETAIN for STANDBY, those of the last STANDBY when SERVICE returns to it, none otherwise. -/
def State.retainMask (s : State) (e : Entry) : Nat :=
  if e.target ≠ 3 then 0 else if 3 ≤ e.origin then s.get Reg.PWR_RET_MASK.MASK else e.retain

/-- A later entry step begins. -/
def State.entryStep (s : State) (n : Nat) : State :=
  match s.pwr.entry with
  | none => s
  | some e => (s.setPwr { s.pwr with entry := some { e with stepAt := s.now } }).set Reg.PWR_STATE.STEP n

/-- Step 3 begins: the SP drops PERMIT (R437). -/
def State.beginSave (s : State) : State :=
  let s := s.permitFall
  match s.pwr.entry with
  | none => s
  | some e => (s.setPwr { s.pwr with entry := some { e with stepAt := s.now, testing := false, permitFell := s.now } }).set Reg.PWR_STATE.STEP 3

/-- ENTRY_QUIESCE_DONE (R437, R438): within 5 ms the packets executing complete, and the fade is committed. -/
def execEntryQuiesceDone (s : State) : Host.Outcome State Fault Refusal :=
  match s.pwr.entry with
  | some e =>
    if s.get Reg.PWR_STATE.STEP = 1 then
      let s := (s.until (e.stepAt + s.free % (ms 5 + 1))).drawn
      .next (((s.setDimmer 0 (ms e.fadeMs)).commitWork).entryStep 2)
    else .next s
  | none => .next s

/-- d = 0 is shown, or scan-out is held dark by lock-out (R438). -/
def State.dimmed (s : State) : Bool :=
  s.lockedOut || (s.beam.dimFade.z == 0 && s.beam.dimFade.level s.scan.frameStart s.period == 0)

/-- ENTRY_FADE_DONE (R438): d = 0 is shown and no string has conducted for 12 ms; the shutdown test or step 3 follows. -/
def execEntryFadeDone (s : State) : Host.Outcome State Fault Refusal :=
  match s.pwr.entry with
  | some e =>
    if s.get Reg.PWR_STATE.STEP = 2 ∧ e.target ≠ 2 ∧ !e.testing ∧ s.dimmed ∧ !s.conducts then
      let s := match s.ks.lastConduct with | some t => s.until (t + ms 12) | none => s
      if e.shutdownTest then
        let s := s.setPwr { s.pwr with entry := some { e with testing := true } }
        .next (s.startTest 0 2 (List.range 7) false 0)
      else .next s.beginSave
    else .next s
  | none => .next s

/-- SHUTDOWN_TEST_DONE (R502): the result is held for step 3. -/
def execShutdownTestDone (s : State) : Host.Outcome State Fault Refusal :=
  match s.pwr.entry with
  | some e => if e.testing ∧ s.bst.run.isNone ∧ s.bst.held.isSome then .next s.beginSave else .next s
  | none => .next s

/-- The NVM writes of step 3: lock-out record, persistent log, calibration blocks, Et, self-test record, fault log export. -/
def State.pendingWrites (s : State) : State :=
  let s := s.plogWrite.writeOnTime
  let s := s.completeCal.recordEt
  let s := if s.lockedOut then { s with locks := ⟨some s.lockRecord, some s.lockRecord, some s.lockRecord⟩ } else s
  let s := { s with saved := s.settings }
  (s.storeShutdown.exportAll).setFlt { s.storeShutdown.exportAll.flt with exportOn := s.onMs }

/-- ENTRY_SAVE_DONE (R437, R449): step 3 ends within 200 ms. -/
def execEntrySaveDone (s : State) : Host.Outcome State Fault Refusal :=
  match s.pwr.entry with
  | some e =>
    if s.get Reg.PWR_STATE.STEP = 3 then
      let s := (s.until (e.stepAt + s.free % (ms 200 + 1))).drawn
      .next ((s.pendingWrites.saveImage (s.retainMask e)).entryStep 4)
    else .next s
  | none => .next s

/-- Commits of meeting places 1 to 3, or the cut-off limiter's, still wait (R28, R437). -/
def State.commitsWait (s : State) : Bool :=
  s.beam.waiting.isSome || s.scan.wordAt.isSome || s.cal.pending.isSome || s.sp.cutPending.isSome

/-- The retention CRCs (R450): of each retained bank; those of the core memories, whose content the spec does not give, are
free. -/
def State.retentionCrcs (s : State) (retain : Nat) : State :=
  let banks := (List.range 32).filter (fun n => bit retain n)
  let put := fun (m : Memory) n => Memory.writeN 0 m (0x10004020 + 4 * n) (le 4 (crc32cFold n (s.sramRun (n * 2 ^ 20) (2 ^ 20))))
  let aon := banks.foldl put s.aon
  let core := fun (s : State) k => ({ s with aon := Memory.writeN 0 s.aon (0x100040A0 + 4 * k) (le 4 (s.free % 2 ^ 32)) }).drawn
  [0, 1, 2].foldl core { s with aon := aon }

/-- ENTRY_CHECK_DONE (R437, R439, R450): step 4 ends 2.2 ms after the last commit has landed, and not before 2.5 ms after
PERMIT fell; the blocks of a calibration commit that landed in it are written (notes/assumptions/72.md); the POWER event is placed. -/
def execEntryCheckDone (s : State) : Host.Outcome State Fault Refusal :=
  match s.pwr.entry with
  | some e =>
    if s.get Reg.PWR_STATE.STEP = 4 ∧ !s.commitsWait then
      let s := (s.wait (s.free % (us 2200 + 1))).drawn.completeCal
      let s := if e.target = 3 ∧ e.origin ≤ 2 then s.retentionCrcs e.retain else s
      let s := s.until (e.permitFell + us 2500)
      let state := if e.target = 3 then 3 else 4
      .next ((s.powerEvent (if 3 ≤ e.origin then 9 else 1) state 0 0).entryStep 5)
    else .next s
  | none => .next s

/-- What PD1 to PD11 lose when they are switched off: cores stop, boundaries stop, latches but SEL and BYP are cleared, the
links are down. -/
def State.domainsOff (s : State) : State :=
  let s := { (s.stopWindow.linkEnable false) with cpUp := false, mpUp := false, spUp := false }
  let s := s.setScan { s.scan with
    running := false, inSlot := false, loading := false, row := 0, staged := false, rowDone := false, resent := false, sent := false, repeats := []
    reloads := [], convKey := none, decision := none, shadowPwm := [], shadowClass := [], activePwm := [], activeClass := []
    clamped := [], idle := [], convClass := [], convPwm := [], boxRun := [], rowRun := [], witness := [], received := none, resetAt := none }
  ((s.set Reg.HST_T1S_STATUS.COORD 0).setDiag Diag.initial).senseLost.crossingsOff 0xFFE

/-- SRAM, rings and core memories are lost in SLEEP; the beam and layers are as R196 and R447 say afterwards. -/
def State.sleepLoses (s : State) : State :=
  let s := { s with sram := [], rings := [], saved := s.settings }
  let s := { s with proto := { Proto.initial with evSeq := s.proto.evSeq, held := s.proto.held } }
  let keepBase := s.beam.front.base
  let s := (s.setBeam { Beam.initial with editions := s.beam.editions + 1, oldBase := keepBase }).stagesDropped
  let s := s.setLib { s.lib with install := none, resident := [], legacyWaiting := none }
  let s := s.setUpd { s.upd with cores := s.upd.cores.map (fun (x : CoreImage) => { x with running := [] }) }
  (s.setSp { SafetyCore.initial with hperm := s.sp.hperm, limp := s.sp.limp })

/-- Banks in retention or off after step 5 (R450); those off lose their content. -/
def State.banksOff (s : State) (retain : Nat) : State :=
  let off := (List.range 32).filter (fun n => !bit retain n)
  let s := off.foldl State.clearBank s
  s.setAll ((List.range 32).map (fun n => (bankField n, b2n (bit retain n))))

/-- ENTRY_SWITCH (R437, R439, R441, R442): steps 5 and 6, once every reply ring is empty or 10 ms after step 4. -/
def execEntrySwitch (s : State) : Host.Outcome State Fault Refusal :=
  match s.pwr.entry with
  | some e =>
    if s.get Reg.PWR_STATE.STEP = 5 then
      let empty := (List.range 8).all (fun n => (s.ring (8 + n)).isEmpty)
      let s := if empty then s else s.until (e.stepAt + ms 10)
      let s := (s.wait (s.free % (us 700 + 1))).drawn
      let retain := s.retainMask e
      let s := s.domainsOff
      let s := if e.target = 3 then s else s.sleepLoses
      let s := s.banksOff retain
      let mem := (if retain % 65536 = 0 then 0 else 0x80) + (if retain / 65536 = 0 then 0 else 0x100)
      let s := s.setAll [(Reg.PWR_DOMAIN.ON, 0x1001 + mem), (Reg.PWR_STATE.STEP, 0), (Reg.PWR_STATE.TARGET, 0),
        (Reg.PWR_STATE.SERVICE, 0), (Reg.PWR_STATE.SHUTDOWN, b2n (e.target == 5)),
        (Reg.PWR_RET_MASK.MASK, if e.target = 3 then retain else s.get Reg.PWR_RET_MASK.MASK)]
      let s := (s.setPower (if e.target = 3 then 3 else 4)).setPwr { s.pwr with entry := none, rebuilding := [] }
      match s.pwr.wakeAfter with
      | some (src, t) => .next (s.beginWake src t (if e.target = 3 then 3 else 4))
      | none => .next s
    else .next s
  | none => .next s

/-! ### Wakes (R443 to R446) -/

/-- SPI_WAKE_MATCH (R444): the first byte of a transaction; bits [7:1] carry the address. -/
def execSpiWakeMatch (first : Nat) (s : State) : Host.Outcome State Fault Refusal :=
  if s.phase ≠ .dark ∧ bits first 1 7 = s.get Reg.PWR_WAKE_CFG.WAKE_ADDR then .next (s.wakeSource 1) else .next s

/-- The first tick count at which TIME is at or past a value. -/
def State.tickFor (s : State) (t : Nat) : Nat :=
  if t ≤ s.clk.offset then 0 else ((t - s.clk.offset) * 512 + 15624) / 15625

/-- ALARM_FIRE (R444): the first slow-clock tick at which the elapsed time is at or past ALARM. -/
def execAlarmFire (s : State) : Host.Outcome State Fault Refusal :=
  if s.phase = .dark ∨ s.clk.alarm = 0 then .next s
  else
    let k := max (s.ticks + 1) (s.tickFor s.clk.alarm)
    let s := s.until (s.clk.start + (k * 390625 + 127) / 128)
    let s := { s with clk := { s.clk with alarm := 0 } }
    let s := s.setAll [(Reg.PWR_ALARM_LO.ALARM, 0), (Reg.PWR_ALARM_HI.ALARM, 0)]
    let low := s.pwr.entry.any (fun e => e.target != 2) || s.pwr.wake.isSome || s.power == 3 || s.power == 4
    if low then .next (s.wakeSource 2) else .next (s.powerEvent 7 s.power 0 0)

/-- DALI_WAKE (R316): the start of a DALI frame; its two bytes are executed after the wake if they are a command. -/
def execDaliWake (addr data : Nat) (s : State) : Host.Outcome State Fault Refusal :=
  if s.id.variant = .iw ∧ (s.power = 3 ∨ s.power = 4) ∧ s.pwr.wake.isNone ∧ bit (s.get Reg.PWR_WAKE_CFG.SOURCES) 3 then
    .next ((s.wakeSource 4).setPwr { (s.wakeSource 4).pwr with daliFrame := some (addr, data) })
  else .next (if s.id.variant = .iw ∧ s.pwr.entry.isSome then s.wakeSource 4 else s)

/-- CASCADE_CLOCK_WAKE (R326): a clock returns on PL_CKP/PL_CKN of a follower. -/
def execCascadeClockWake (s : State) : Host.Outcome State Fault Refusal :=
  if s.follower ∧ s.phase ≠ .dark then .next (s.wakeSource 5) else .next s

/-- Reset values of settings that depend on the variant (Tables 10-9 and 14-13). -/
def State.variantValues (s : State) : State :=
  if s.id.variant = .iw then s.setAll [(Reg.HST_CTRL.CAN_EN, 0), (Reg.HST_CTRL.DALI_EN, 1), (Reg.PWR_WAKE_CFG.SOURCES, 0x0F)] else s

/-- The cascade wake source, whose reset value depends on the role (Table 14-13). -/
def State.roleValue (s : State) : State :=
  if s.follower then s.set Reg.PWR_WAKE_CFG.SOURCES (s.get Reg.PWR_WAKE_CFG.SOURCES ||| 16) else s

/-- The reset value of SYS_EVENT_ROUTE in a module of this variant and role (Table 9-17). -/
def State.routeReset (s : State) : Nat := if s.follower then 0x10 else if s.id.variant = .iw then 5 else 7

/-- The registers of PD1 to PD11 take their reset values, those of the variant and role, and the settings record is restored: the image
failed (R449). -/
def State.imageLost (s : State) : State :=
  let s := { s with saved := s.settings }
  let keep := fun (p : Nat × Nat) =>
    let a := p.1 / 32
    (decide (0x40100000 ≤ a) && decide (a < 0x40300000)) || (decide (0x40C00000 ≤ a) && decide (a < 0x40D00000))
  let s := ({ s with regs := s.regs.filter keep }).set Reg.SYS_EVENT_ROUTE.ROUTE s.routeReset
  s.restoreSettings.vtrackFollow.fault Src.retentionDefaults 0x100 2 4

/-- Cores resume from retention; one whose memory failed restarts from its image, and the CP then frees every context (R452). -/
def State.resumeCores (s : State) (bad : Nat) (safety : Bool) : State :=
  let s := s.setUpd { s.upd with cores := s.upd.cores.mapIdx (fun c x => if bit bad c && (safety || c != 2) then { x with running := [] } else x) }
  let s := if bit bad 0 then
      let s := s.cpRestart
      s.setBeam { s.beam with front := { s.beam.front with ctxs := [] }, work := { s.beam.work with ctxs := [] }, fades := [] }
    else ({ s with cpUp := true }).placeHeld
  let s := { s with mpUp := !bit bad 1 }
  if safety then (if bit bad 2 then s.setSp { s.sp with coverageOk := false } else { s with spUp := true }) else s

/-- An invalid bank (R451): RETENTION_REBUILT when its source is there, RETENTION_DEFAULTS otherwise; its rebuild starts. -/
def State.invalidBank (s : State) (readable : Bool) (n : Nat) : State :=
  let there := (s.rebuildBank n readable).2
  let s := s.bump Reg.PWR_REBUILD_COUNT.COUNT Reg.PWR_STATE.CNT_SAT
  (s.fault (if there then Src.retentionRebuilt else Src.retentionDefaults) n 2 4).bankRebuild n

/-- RETENTION_CHECK (R449 to R451): on a wake from STANDBY. `crc`: banks whose CRC differs; `vflag`: groups whose
retention-voltage flag is set; `image`: the register image fails its check; `cores`: CP, MP, SP memories that fail;
`readable`: the library can be read. -/
def execRetentionCheck (crc vflag : Nat) (image : Bool) (cores : Nat) (readable : Bool) (s : State) : Host.Outcome State Fault Refusal :=
  match s.pwr.wake with
  | none => .next s
  | some w =>
    if w.origin ≠ 3 ∨ w.checked then .next s
    else
      let first := !s.mpUp
      let s := s.until (w.startAt + (if w.target = 0 then us 800 else us 2900))
      let mask := s.get Reg.PWR_RET_MASK.MASK
      let bad := (List.range 32).filter (fun n => bit mask n && (bit crc n || bit vflag (n / 4)))
      let s := if image ∧ first then s.imageLost else s
      let s := if first then s.setAll [(Reg.PWR_RET_INFO.IMAGE_BAD, b2n image), (Reg.PWR_RET_INFO.CORE_BAD, cores % 8)] else s
      let s := if first then s.resumeCores cores (w.target != 0) else { s with spUp := true }
      if w.target = 0 then .next s
      else
        let s := s.setPwr { s.pwr with wake := some { w with checked := true }, vflag := vflag % 256 }
        let s := s.setAll [(Reg.PWR_RET_RESULT.INVALID, maskOf bad), (Reg.PWR_RET_INFO.VFLAG, vflag)]
        let s := bad.foldl (fun s n => s.invalidBank readable n) s
        let s := ((List.range 32).filter (fun n => !bit mask n)).foldl State.bankRebuild s
        .next (if bad.isEmpty then s else s.powerEvent 8 3 bad.length (maskOf bad))

/-- BANK_REBUILD_DONE (R451, Table 14-6): a bank's rebuild ends within its bound. -/
def execBankRebuildDone (bank : Nat) (readable : Bool) (s : State) : Host.Outcome State Fault Refusal :=
  if s.pwr.rebuilding.contains bank then
    .next (((s.wait (s.free % (s.rebuildBound bank + 1))).drawn).endRebuild bank readable)
  else .next s

/-- SERVICE_IDLE_EXPIRY (R445): no packet for SERVICE_IDLE; entry steps 3 to 6 return to the state left. -/
def execServiceIdleExpiry (s : State) : Host.Outcome State Fault Refusal :=
  if s.flag Reg.PWR_STATE.SERVICE ∧ s.pwr.entry.isNone then
    let s := s.until (s.pwr.servicePacket + ms (s.get Reg.PWR_WAKE_CFG.SERVICE_IDLE))
    let o := s.pwr.serviceFrom
    let e : Entry := ⟨o, false, 0, 0, o, s.now, false, 0⟩
    .next ((s.setPwr { s.pwr with entry := some e }).setPower 0 |>.setAll [(Reg.PWR_STATE.STEP, 3), (Reg.PWR_STATE.TARGET, 0)])
  else .next s

/-! ### On-demand domain wake (R453, R454) -/

/-- A bank (0 to 31) or PD4 (36) is off. -/
def State.isOff (s : State) (code : Nat) : Bool :=
  if code < 32 then s.get (bankField code) != 2 else code == 36 && !bit (s.get Reg.PWR_DOMAIN.ON) 4

/-- The MP's switching, in ACTIVE and READY. -/
def State.switch (s : State) (code : Nat) (on : Bool) : State :=
  if code < 32 then s.set (bankField code) (if on then 2 else 0)
  else
    let d := s.get Reg.PWR_DOMAIN.ON
    if on then s.pd4On else (s.set Reg.PWR_DOMAIN.ON (d - bits d 4 1 * 0x10)).crossingsOff 0x10

/-- No area of a bank is in use. -/
def State.bankIdle (s : State) (bank : Nat) : Bool :=
  if bank ≤ 5 then (s.beam.buffers.find (bank / 2)).join.isNone && s.beam.linkBuffer != some (bank / 2)
    && !s.link.ready.any (fun r => r.buffer == bank / 2) && s.link.rx.isNone
  else if bank ≤ 11 then false
  else if bank ≤ 15 then !s.flag Reg.CMP_LIB_STATUS.RAM_STORE && s.lib.resident.isEmpty
  else if bank ≤ 19 then (s.layersIn bank).isEmpty
  else if bank ≤ 21 then s.beam.front.bisque != some 0 && s.beam.buildAt.isNone
  else if bank ≤ 29 then false
  else s.beam.front.bisque != some 1 && s.beam.buildAt.isNone

/-- DOMAIN_SWITCH_OFF (R453): PD4 while the link and the cascade port are disabled, or a bank with no area in use. -/
def execDomainSwitchOff (code : Nat) (s : State) : Host.Outcome State Fault Refusal :=
  let idle := if code < 32 then s.bankIdle code
    else code == 36 && s.get Reg.LNK_STATUS.STATE == 0 && !s.flag Reg.SCN_CTRL.CASC_TX_EN
  if s.mpUp ∧ (s.power = 1 ∨ s.power = 2) ∧ idle ∧ !s.isOff code then
    .next ((if code < 32 then s.clearBank code else s).switch code false)
  else .next s

/-- ONDEMAND_WAKE_DONE (R453): an access powers a domain within 40 µs or a bank within 120 µs, and proceeds. -/
def execOndemandWakeDone (code : Nat) (s : State) : Host.Outcome State Fault Refusal :=
  if (s.power = 1 ∨ s.power = 2) ∧ s.isOff code then
    let s := (s.wait (s.free % (us (if code < 32 then 120 else 40) + 1))).drawn
    .next ((s.switch code true).bump Reg.PWR_ONDEMAND_COUNT.COUNT Reg.PWR_STATE.CNT_SAT)
  else .next s

/-- ONDEMAND_WAKE_TIMEOUT (R453, R454): an access of a master (Table 13-1) at an address stalled for some base cycles; 500 µs or less
never ends in error, 510 µs always does. One of the SP never stalls: it is refused at once. -/
def execOndemandWakeTimeout (code addr master access stalled : Nat) (s : State) : Host.Outcome State Fault Refusal :=
  if (s.power = 1 ∨ s.power = 2) ∧ s.isOff code then
    if master = 1 then .next (s.fault Src.busError addr 1 access)
    else if band 453 s.now (us 500) (us 510) stalled then .next ((s.wait stalled).fault Src.wakeTimeout addr master access)
    else .next s
  else .next s

end Sys2Proof.Machine
end

