-- ==== Sys2Proof/Machine/SelfTestRows.lean ====
section
/-! DEFINITION. The rows of self-test (16_self_test). -/

namespace Sys2Proof.Machine

/-! ### Logic self-test (R494 to R501) -/

/-- LBIST runs at this start (Table 16-6). -/
def State.lbistAllowed (s : State) : Bool :=
  match s.id.lifecycle with
  | .returned => false
  | .manufacture => s.flag Reg.BST_CTRL.STARTUP_LBIST_EN
  | _ => true

/-- STARTUP_LBIST (R501): the five units in order, or none where Table 16-6 allows none. -/
def execStartupLbist (s : State) : Host.Outcome State Fault Refusal :=
  if s.phase = .lbist ∧ s.bst.run.isNone then
    if s.lbistAllowed then .next (s.startTest 1 0 (List.range 5) false (us 500))
    else .next { s with phase := .spStart, sp := { s.sp with lbistOk := true } }
  else .next s

/-- The end of an LBIST run: at start the SP boots next, or is held in reset by the MP (R378); by command PERMIT rises again
and a waiting POWER_STATE proceeds (R499, R504). -/
def State.lbistEnd (s : State) (origin : Nat) (good : Bool) : State :=
  if origin = 0 then
    { s with phase := if good then .spStart else if s.pwr.wake.isSome then .cpBoot else .abist, sp := { s.sp with lbistOk := good, halted := !good } }
  else
    let s := s.setSp { s.sp with lbistOk := s.sp.lbistOk && good }
    let s := s.pulseMode false
    let s := if s.permitOk then s.permitRise else s
    match s.pwr.waiting with
    | some p => (s.setPwr { s.pwr with waiting := none }).powerAct p
    | none => s

/-- LBIST_UNIT_COMPLETE (R495 to R497): patterns run, signature, and whether the saved state came back whole. A unit below its
target is stopped at twice its duration. -/
def execLbistUnitComplete (patterns signature : Nat) (restored : Bool) (s : State) : Host.Outcome State Fault Refusal :=
  match s.bst.run with
  | none => .next s
  | some r =>
    match r.engine, r.left with
    | 1, u :: _ =>
      let e := s.judgeUnit r.origin u patterns signature restored
      let s := s.until (r.startAt + (if e.result = 5 then 2 * lbistLength u else lbistLength u))
      let s := s.showUnit e
      let s := if e.result = 1 then s else s.lockoutCause 0x16 u 2
      let x := s.nextItem r e false false
      let s := x.1.judge
      if x.2 then .next (s.lbistEnd r.origin ((r.done ++ [e]).all (fun (t : TestEntry) => t.result == 1))) else .next s
    | _, _ => .next s

/-! ### Analogue self-test (R488 to R493, R503) -/

/-- Bytes of the calibration backup, of an address of the calibration store. -/
def State.backupBytes (s : State) (e : LibEntry) (a n : Nat) : List Nat :=
  (Memory.readN 0xFF s.flash (s.storePlace 4 (e.offset + (a - 0x20600000))) n).map BitVec.toNat

/-- The calibration backup, when its entry passes its check (R106, R214). -/
def State.goodBackup (s : State) : Option LibEntry := s.backupEntry.filter (s.entryGood 4)

/-- What the bytes of a self-test record say (Table 16-4). -/
def State.takeRecord (s : State) (b : List Byte) : State :=
  let flags := leAt b 17 1
  let shut : TestResult := { origin := 2, verdict := leAt b 16 1, skipped := bit flags 0, overflow := false, reused := false
                             epoch := leAt b 20 2, time := leAt b 24 8, quality := leAt b 18 1
                             entries := (List.range 7).map (fun i => ⟨i, leAt b (32 + i) 1, 0, 0, 0⟩) }
  s.setBst { s.bst with
    maps := (List.range (min 768 (leAt b 2 2))).map (fun i => let w := leAt b (256 + 4 * i) 4; (w / 2 ^ 28, w % 2 ^ 28))
    shut := if bit flags 2 then some shut else none, consumed := bit flags 1, seq := leAt b 4 4 }

/-- The self-test record could not be read: it is restored from the backup (R105, R106), or where it has none an empty one is used
(R493). -/
def State.recordLost (s : State) : State :=
  match (if s.flashFitted then s.goodBackup else none) with
  | some e =>
    let b := s.backupBytes e 0x20607000 4096
    (s.nvmStore 0x20607000 b).takeRecord (b.map byte)
  | none =>
    ((s.setBst { s.bst with maps := [], shut := none, consumed := false, lost := true }).fault Src.calBlockDefault 0x300 2 4).recordWrite

/-- The start-up ABIST is skipped on the stored shutdown result (R503). -/
def State.abistReused (s : State) : Bool :=
  s.flag Reg.BST_CTRL.REUSE_EN && (s.id.lifecycle == .field || s.id.lifecycle == .service) && !s.bst.lost
    && (match s.bst.shut with
      | none => false
      | some t => !s.bst.consumed && !t.skipped && t.verdict == 1 && t.epoch == s.epoch && s.quality != 3
          && decide (s.time - t.time < 86400000000))

/-- STARTUP_ABIST (R503): `readable` when the self-test record can be read. Areas and lanes follow the record (R493), and the mask when the
start rebuilds it. -/
def execStartupAbist (readable : Bool) (s : State) : Host.Outcome State Fault Refusal :=
  if s.phase = .abist ∧ s.bst.run.isNone then
    let s := if readable then s.setBst { s.bst with lost := false } else s.recordLost
    let s := s.portOut.showShut
    if s.abistReused then
      let s := (s.consumeShut).bump Reg.BST_REUSE_COUNT.COUNT Reg.BST_STATUS.CNT_SAT
      let shut := s.bst.shut.map (fun t => { t with reused := true })
      let s := s.setBst { s.bst with shut := shut, abist := shut }
      .next ({ s with phase := .cpBoot }.selfTestEvent 4 0 1 0)
    else .next (s.startTest 0 0 (List.range 7) false 0)
  else .next s

/-- The end of an ABIST run: the CP boots next at start; a BIST_RUN leaves pulse mode; a shutdown test holds its result. -/
def State.abistEnd (s : State) (origin : Nat) : State :=
  match origin with
  | 0 => { s with phase := .cpBoot }
  | 1 => s.pulseMode false
  | _ => s

/-- After the LANE item: the delay t0 is calibrated, and the link restarts (R245, R504). -/
def State.laneDone (s : State) (item : Nat) : State :=
  if item = 0 then ((s.setLink { s.link with t0 := s.free }).drawn).laneEnd else s

/-- ABIST_ITEM_COMPLETE (R488 to R492): the readings of the elements that do not read clearly good, and VSTR in mV. -/
def execAbistItemComplete (readings : List (Nat × Nat)) (vstr : Nat) (s : State) : Host.Outcome State Fault Refusal :=
  match s.bst.run with
  | none => .next s
  | some r =>
    match r.engine, r.left with
    | 0, i :: _ =>
      let s := (s.until (r.startAt + s.free % (abistBound i + 1))).drawn
      let (s, e, skipped, overflow) := s.judgeItem i r.clear readings vstr
      let x := (s.laneDone i).nextItem r e skipped overflow
      if x.2 then .next (x.1.abistEnd r.origin) else .next x.1
    | _, _ => .next s

/-- ABIST_ITEM_TIMEOUT (R488): an item still running at twice its bound is INCOMPLETE. -/
def execAbistItemTimeout (s : State) : Host.Outcome State Fault Refusal :=
  match s.bst.run with
  | none => .next s
  | some r =>
    match r.engine, r.left with
    | 0, i :: _ =>
      let s := s.until (r.startAt + 2 * abistBound i)
      let x := (if i = 0 then s.laneEnd else s).nextItem r ⟨i, 5, 0, 0, 0⟩ false false
      if x.2 then .next (x.1.abistEnd r.origin) else .next x.1
    | _, _ => .next s

/-! ### Commands of group 0x09 (R505, R506) -/

/-- 0x0900 BIST_RUN (R505). -/
def runBistRun (r : Req) (s : State) : Answer :=
  let p := r.params
  let engine := leAt p 0 1
  let clear := bit (leAt p 1 1) 0
  let items := leAt p 2 2
  let n := if engine = 0 then 7 else 5
  if (engine = 1 ∨ clear) ∧ s.id.lifecycle = .field then refuse s Status.notPermitted
  else if s.power ≠ 2 ∨ s.pwr.entry.isSome then refuse s Status.badState
  else if s.bst.run.isSome ∨ s.calBusy ∨ s.com.writing.isSome ∨ 5 ≤ s.get Reg.UPD_SESSION.STATE then refuse s Status.busy
  else if 1 < engine ∨ items = 0 ∨ 2 ^ n ≤ items ∨ (clear ∧ engine = 1) ∨ 1 < leAt p 1 1 ∨ leAt p 4 4 ≠ 0 then refuse s Status.badParam
  else
    let list := (List.range n).filter (fun i => bit items i)
    let s := s.pulseMode true
    if engine = 0 then pend (s.startTest 0 1 list clear 0)
    else pend (s.permitFall.startTest 1 1 list false (ms 2))

def opBistRun : Op := ⟨0x0900, exactly 8, runBistRun⟩
def execBistRun (r : Req) (s : State) : Host.Outcome State Fault Refusal := .next (s.command opBistRun r)

/-- One entry of the reply (Table 16-10). -/
def TestEntry.bytes (e : TestEntry) (abist : Bool) : List Byte :=
  [byte e.code, byte e.result] ++ le 2 e.fails ++ le 4 e.skipPat ++ le 8 (if abist then e.data % 2 ^ 32 else e.data)

/-- The reply of a result (Table 16-10); without one, ORIGIN 3 and zeros. -/
def resultBytes (engine : Nat) (t : Option TestResult) (consumed : Bool) : List Byte :=
  let n := if engine = 0 then 7 else 5
  match t with
  | none => [byte engine, byte 3] ++ le (16 + 16 * n) 0
  | some t =>
    [byte engine, byte t.origin, byte t.verdict, byte (b2n t.skipped + 2 * b2n consumed + 4 * b2n t.overflow + 8 * b2n t.reused)]
      ++ le 2 t.epoch ++ le 8 t.time ++ [byte t.quality, byte 0] ++ le 2 n
      ++ (List.range n).flatMap (fun i => ((t.entries.find? (fun (e : TestEntry) => e.code == i)).getD ⟨i, 0, 0, 0, 0⟩).bytes (engine == 0))

/-- 0x0901 BIST_RESULT (R506). -/
def runBistResult (r : Req) (s : State) : Answer :=
  let sel := leAt r.params 0 1
  if 2 < sel ∨ leAt r.params 1 3 ≠ 0 then refuse s Status.badParam
  else match sel with
    | 0 => answer s (resultBytes 0 s.bst.abist false)
    | 1 => answer s (resultBytes 1 s.bst.lbist false)
    | _ => answer s (resultBytes 0 s.bst.shut s.bst.consumed)

def opBistResult : Op := ⟨0x0901, exactly 4, runBistResult⟩
def execBistResult (r : Req) (s : State) : Host.Outcome State Fault Refusal := .next (s.command opBistResult r)

end Sys2Proof.Machine
end

