-- ==== Sys2Proof/Machine/Update.lean ====
section
/-! DEFINITION. Firmware update: download, activation, boots of images, confirmation and fallback (17_firmware_update); the
end of reaction windows, CORE_RESTART among them (R415). -/

namespace Sys2Proof.Machine

/-! ### Archive and region -/

/-- The image in the region of a core written to its archive entry (R513, R529); `none` when no place is free. -/
def State.archiveImage (s : State) (c : Nat) : Option State :=
  let bs := s.imageHeader c ++ s.imageBytes c
  match s.findSpace 3 bs.length with
  | none => none
  | some o =>
    let s' := (s.storePut 3 o bs).setEntry 3 c (some ⟨Header.version (s.imageHeader c), o, bs.length, crc32cFold (s.storeFold 3 o) bs⟩)
    some (s'.setCore c { s'.core c with archived := (s.core c).delivered })

/-- An image region erased, with a header at offset 0. -/
def State.eraseRegion (s : State) (c : Nat) (h : List Byte) : State :=
  let r := imageRegion c
  ({ s with nvm := Assoc.clearRange s.nvm r.1 r.2 }).nvmStore r.1 (h.map BitVec.toNat)

/-- The word GREEN for a header (R513, R525). -/
def State.writeGreen (s : State) (c : Nat) (h : List Byte) : State :=
  s.writeWord c { s.core c with
    state := 1, attempts := 0, expired := false, migration := false, version := Header.version h, rollback := Header.rollback h
    digest := Header.digest h, onSaved := 0, onTime := 0, countedAt := s.now }

/-- The settings registers as the settings record holds them. -/
def State.settingsRegs (s : State) : NMap := s.regs.filter (fun p => settingsAddr (p.1 / 32))

/-- The settings slot in force becomes the preserved record (R523). -/
def State.preserve (s : State) : State :=
  s.setUpd { s.upd with kept := s.settingsRegs, keptMap := s.settings.map, cores := s.upd.cores.map (fun (x : CoreImage) => { x with preserved := x.section_ }) }

/-- The settings record holds this field map, and every table shows it. -/
def State.settleMap (s : State) (m : Option FieldMap) : State :=
  let put := fun (t : Tables) => { t with map := m }
  let s := s.setBeam { s.beam with
    front := put s.beam.front, work := put s.beam.work, waiting := s.beam.waiting.map (fun p => (put p.1, p.2)) }
  ({ s with saved := { s.saved with map := m } }).showMap m

/-- The settings registers hold these fields and otherwise their reset values. -/
def State.settleRegs (s : State) (l : NMap) : State :=
  let others := s.regs.filter (fun p => !settingsAddr (p.1 / 32))
  { s with regs := l.foldl (fun (m : NMap) (p : Nat × Nat) => Assoc.set 0 m p.1 p.2) others }

/-- The slot written since is erased: the preserved record is in force again (R525). -/
def State.unpreserve (s : State) : State :=
  let s := (s.settleRegs s.upd.kept).settleMap s.upd.keptMap
  s.setUpd { s.upd with cores := s.upd.cores.map (fun (x : CoreImage) => { x with section_ := x.preserved }) }

/-- Steps 1 and 2 of a fallback (R525). -/
def State.fallbackBegin (s : State) (c : Nat) : State :=
  let s := s.writeGreen c (s.archiveHeader c)
  if s.upd.lastTarget = some c then s.unpreserve else s

/-- Steps 3 to 5 of a fallback; the digest of the copied image is checked. -/
def State.fallbackCopy (s : State) (c : Nat) : State × Bool :=
  match s.archiveEntry c with
  | none => (s, false)
  | some e =>
    let bs := s.archiveBytes e
    let s := s.eraseRegion c bs
    let s := s.setCore c { s.core c with delivered := (s.core c).archived }
    if (s.core c).archived || (Config.sha256 (bs.drop 256) == Header.digest bs) then
      (s.writeWord c { s.core c with state := 4, attempts := 0 }, true)
    else (s, false)

/-- An automatic fallback made by the loader (R512, R520, R521, R528): the spec gives no bound for the copy. -/
def State.autoRestore (s : State) (c : Nat) : State :=
  let s := ((s.wait s.free).drawn.fallbackBegin c).fallbackCopy c |>.1
  let s := (s.updateEvent 6 c 0).bump Reg.UPD_AUTO_FALLBACK_COUNT.COUNT Reg.UPD_FLAGS.CNT_SAT
  s.fault Src.updAutoFallback c 2 4

/-! ### Boots (R520, R523, R524) -/

/-- ATTEMPTS of a FIRED image is raised, or its archive is restored (R520, R521). -/
def State.countBoot (s : State) (c : Nat) : State :=
  let x := s.core c
  let s := if x.state = 3 ∧ (3 ≤ x.attempts ∨ x.expired) then s.archiveRead c else s
  if x.state ≠ 3 then s
  else if (3 ≤ x.attempts ∨ x.expired) ∧ s.archiveOk c then s.autoRestore c
  else s.writeWord c { x with attempts := min 255 (x.attempts + 1) }

/-- The image cannot read its section (R524): it runs on default settings in READY. Every setting the spec names is kept by the MP, so the
sections of the CP and the SP hold nothing that the model has (notes/assumptions/51.md). -/
def State.migrationFailed (s : State) (c format : Nat) : State :=
  let s := if c = 1 then ((s.settleRegs []).variantValues.roleValue).settleMap none else s
  let s := s.writeWord c { s.core c with migration := true }
  let s := (s.fault Src.updMigrationFailed format 2 4).updateEvent 7 c 0
  if s.power = 1 ∧ s.phase = .service then s.beginReady 0 else s

/-- The image reads its section of the settings record, at its first FIRED boot from the preserved record, and converts it
(R523). -/
def State.migrate (s : State) (c : Nat) (first convertible : Bool) : State :=
  let x := s.core c
  let source := if first then x.preserved else x.section_
  if !first && source == x.format && convertible then s
  else if convertible ∧ source ≤ x.format then
    let s := s.setCore c { x with section_ := x.format }
    if x.migration then s.writeWord c { s.core c with migration := false } else s
  else s.migrationFailed c source

/-- The image of a core is copied to the core's memory and started (R509, R520); `convertible`: its settings section passes its
check and can be converted. -/
def State.bootImage (s : State) (c : Nat) (convertible : Bool) : State :=
  let s := s.countBoot c
  let x := s.core c
  let s := s.setCore c { x with running := x.digest, format := Header.format (s.imageHeader c) }
  let s := s.set (Reg.UPD_RUN_VER.VERSION c) x.version
  let s := if c = 2 then s.setSp { s.sp with digest := x.digest, coverageOk := false } else s
  let s := s.migrate c (x.state == 3 && x.attempts == 1) convertible
  if s.upd.activated = some c then
    let s := s.setUpd { s.upd with activated := none }
    (s.freshNonce.setAll [(Reg.SYS_RESET_CAUSE.CAUSE, 7), (Reg.SYS_RESET_CAUSE.COUNT, min 65535 (s.get Reg.SYS_RESET_CAUSE.COUNT + 1))]).updateEvent 3 c 0
  else s

/-- A core runs: a CP places the events held meanwhile, an MP ends pulse mode. -/
def State.coreUp (s : State) (c : Nat) : State :=
  match c with
  | 0 => ({ s with cpUp := true }).placeHeld.stopAsked
  | 1 => ({ s with mpUp := true }).pulseMode false
  | 2 => { s with spUp := true }
  | _ => s

/-- A core runs. -/
def State.isUp (s : State) (c : Nat) : Bool := match c with | 0 => s.cpUp | 1 => s.mpUp | _ => s.spUp

/-- The pause of Table 17-3 begins: the object-list timers, the front tables and commits made go on (R518). -/
def State.beginPause (s : State) (c : Nat) : State :=
  match c with
  | 0 => let rings := s.rings; { s.cpRestart with rings := rings }
  | 1 => ({ s with mpUp := false }).pulseMode true
  | 2 => ({ s.permitFall with spUp := false }).spFollow
  | _ => s

/-- The target core restarts from NVM by an activation or a fallback; in loader mode the hold ends and the start goes on from
the loader checks (R518, R525). -/
def State.restartCore (s : State) (c : Nat) (fallback : Bool) : State :=
  if s.phase = .loaderHold then
    let holds := s.upd.holds.filter (fun k => k != c)
    let s := (s.setUpd { s.upd with holds := holds }).setAll [(Reg.UPD_SESSION.STATE, 0), (Reg.UPD_SESSION.TARGET, 255)]
    if holds.isEmpty then { s with phase := .loader } else s
  else
    let s := s.setUpd { s.upd with restart := some (c, fallback), since := s.now }
    (s.beginPause c).setAll [(Reg.UPD_SESSION.STATE, 5), (Reg.UPD_SESSION.TARGET, c)]

/-- A core is to be started from its image: its memory was lost, or the start has come so far. Until the MP image is started, the MP
runs the resident loader. -/
def State.bootDue (s : State) (c : Nat) : Bool :=
  (s.core c).running.isEmpty && (!s.isUp c || (c == 1 && s.phase != .service)) && !(c == 2 && s.sp.halted)
    && (match s.phase with
        | .service => bit (s.get Reg.PWR_DOMAIN.ON) (match c with | 0 => 2 | 1 => 1 | _ => 3)
        | .lbist => c == 1
        | .spStart => c != 0
        | .abist => c == 1
        | .cpBoot => c != 2
        | _ => false)

/-- IMAGE_BOOT (R520): a core is started from its NVM image, by an activation or a fallback within the pause of Table 17-3, at a
start, or after the loss of its memory. -/
def execImageBoot (core : Nat) (convertible : Bool) (s : State) : Host.Outcome State Fault Refusal :=
  let pause := nth 0 [ms 150, ms 80, ms 200] core
  if s.phase = .service ∧ (s.upd.restart.map (·.1)) = some core then
    let s := (s.until (s.upd.since + (if core = 2 then ms 2 else 0) + s.free % (pause + 1))).drawn
    let s := (s.setUpd { s.upd with restart := none }).setAll [(Reg.UPD_SESSION.STATE, 0), (Reg.UPD_SESSION.TARGET, 255)]
    .next ((s.coreUp core).bootImage core convertible).spFollow
  else if core < 3 ∧ s.bootDue core then
    let s := s.bootImage core convertible
    match s.phase with
    | .service => .next ((((s.wait (s.free % (pause + 1))).drawn).coreUp core).spFollow)
    | .spStart => .next (if core = 2 then { s with spUp := true } else s).spFollow
    | _ => .next s
  else .next s

/-! ### The loader (R512, R517, R522, R528) -/

/-- What the loader finds of a core: a bootable image, an archive to restore, or a hold. -/
inductive LoaderVerdict where
  | boots | restores | holds
deriving DecidableEq, Repr

def State.loaderVerdict (s : State) (c : Nat) : LoaderVerdict :=
  let st := (s.core c).state
  if st ≤ 2 then (if s.follower && s.archiveOk c then .restores else .holds)
  else if s.imageOk c then .boots
  else if s.archiveOk c then .restores else .holds

/-- The loader checks one core; a CONFIRMED image raises its OTP level if a power failure kept it from rising. -/
def State.loaderCore (s : State) (c : Nat) : State :=
  match s.loaderVerdict c with
  | .boots =>
    let x := s.core c
    if x.state = 4 ∧ s.otpLevel c < x.rollback then
      (s.setOtpLevel c x.rollback).showCore c
    else s
  | .restores => s.autoRestore c
  | .holds =>
    let s := if s.follower || decide (2 < (s.core c).state) then s.archiveRead c else s
    s.setUpd { s.upd with holds := s.upd.holds ++ [c] }

/-- LOADER_IMAGE_CHECK (R512): the image state words and the digests are checked, within 20 ms (Table 1-10, Table 14-4). -/
def execLoaderImageCheck (s : State) : Host.Outcome State Fault Refusal :=
  if s.phase = .loader then
    let s := (s.wait (s.free % (ms 20 + 1))).drawn
    let s := [0, 1, 2].foldl State.showCore s
    let s := [0, 1, 2].foldl State.loaderCore (s.setUpd { s.upd with holds := [] })
    if s.upd.holds.isEmpty then
      match s.pwr.wake with
      | some w => .next { s with phase := if w.target = 0 then .cpBoot else .lbist }
      | none => .next { s with phase := .lbist }
    else
      let s := ({ s with phase := .loaderHold }).pulseMode true
      .next (s.upd.holds.foldl (fun s c => s.fault Src.updLoaderHold c 2 4) s)
  else .next s

/-! ### The end of reaction windows (R415, Table 13-4) -/

/-- A core runs again after CORE_RESTART (R288, R517, R520); a target in GREEN or VERIFIED starts the module in loader mode. -/
def State.coreBack (s : State) (m : Nat) : State :=
  let c := if m = 2 then 1 else m
  if m = 1 then s
  else if (s.core c).state = 1 ∨ (s.core c).state = 2 then s.controllerReset (s.get Reg.SYS_RESET_CAUSE.CAUSE)
  else if s.isUp c then s
  else (s.bootImage c true).coreUp c

/-- REACTION_WINDOW_CLOSE (R415, Table 13-4). SCAN_RESET and MAP_OUT close at boundaries. -/
def execReactionWindowClose (reaction item : Nat) (s : State) : Host.Outcome State Fault Refusal :=
  match s.flt.windows.find? (fun w => w.reaction == reaction && w.item == item) with
  | none => .next s
  | some w =>
    match reaction with
    | 2 =>
      let s := if s.get Reg.LNK_STATUS.INPUT = 2 then s else s.until (w.opened + ms 250)
      .next (s.dropWindow 2 item)
    | 3 =>
      let bound := match item with | 0 => ms 150 | 2 => ms 80 | _ => ms 20
      let s := (s.until (w.opened + s.free % (bound + 1))).drawn
      .next ((s.coreBack item).dropWindow 3 item)
    | 4 =>
      let s := (s.until (w.opened + s.free % (s.rebuildBound item + 1))).drawn
      .next (s.endRebuild item true)
    | 6 =>
      let bound := if s.get Reg.SAF_LOCKOUT.CHANNEL = 2 then ms 10 else 2 * s.period + ms 1
      let s := (s.until (w.opened + s.free % (bound + 1) + ms 10)).drawn
      .next (s.dropWindow 6 item)
    | _ => .next s

/-! ### Sessions (R513 to R516, R531) -/

/-- The first failing header check of R514, by its REASON. -/
def State.headerReason (s : State) (h : List Byte) : Option Nat :=
  let t := Header.target h
  if leAt h 0 4 ≠ 0x50554B46 ∨ leAt h 4 2 ≠ 1 ∨ !Header.reservedZero h then some 1
  else if 2 < t then some 2
  else if !s.hwOk h then some 3
  else if Header.size h = 0 ∨ imageLimit t < Header.size h then some 4
  else if !s.keyOk h then some 5
  else if !State.signed h then some 6
  else if Header.rollback h < s.otpLevel t then some 7
  else if Header.format h < (s.core t).section_ then some 8
  else none

/-- An activation or a fallback runs. -/
def State.restarting (s : State) : Bool := s.upd.restart.isSome || decide (5 ≤ s.get Reg.UPD_SESSION.STATE)

/-- 0x0A00 UPDATE_BEGIN. -/
def runUpdateBegin (r : Req) (s : State) : Answer :=
  let h := r.params
  let t := Header.target h
  let ses := s.get Reg.UPD_SESSION.STATE
  let state := s.imageState
  if [0, 1, 2].any (fun c => c != t && decide (1 ≤ state c ∧ state c ≤ 3)) || (decide (t < 3) && state t == 3) then refuse s Status.badState
  else if (1 ≤ ses ∧ ses ≤ 3) ∨ s.restarting then refuse s Status.busy
  else match s.headerReason h with
    | some n => ⟨Status.headerRejected, [byte n], s⟩
    | none =>
      let again := state t == 1 || state t == 2
      let s := if again then s else s.preserve
      let s := s.setUpd { s.upd with header := h, lastChunk := none, again := again, lastTarget := some t, since := s.now }
      pend (s.setAll [(Reg.UPD_SESSION.TARGET, t), (Reg.UPD_SESSION.STATE, 1), (Reg.UPD_SESSION.NEXT_SEQ, 0), (Reg.UPD_RECEIVED.BYTES, 0)])

def opUpdateBegin : Op := ⟨0x0A00, exactly 256, runUpdateBegin⟩
def execUpdateBegin (r : Req) (s : State) : Host.Outcome State Fault Refusal := .next (s.command opUpdateBegin r)

/-- The session ends. -/
def State.endSession (s : State) : State := s.setAll [(Reg.UPD_SESSION.STATE, 0), (Reg.UPD_SESSION.TARGET, 255)]

/-- UPDATE_PREPARE_DONE (R513): within 2 s plus 3 ms for each KiB archived; `written`: the archive write succeeded. -/
def execUpdatePrepareDone (written : Bool) (s : State) : Host.Outcome State Fault Refusal :=
  if s.get Reg.UPD_SESSION.STATE = 1 ∧ s.mpUp then
    let h := s.upd.header
    let t := Header.target h
    let archives := !s.upd.again && s.imageState t == 4 && s.flashFitted && !s.ramStore
    let kib := if archives then (256 + (s.imageBytes t).length + 1023) / 1024 else 0
    let s := (s.until (s.upd.since + s.free % (ms 2000 + ms 3 * kib + 1))).drawn
    match (if archives then (if written then s.archiveImage t else none) else some s) with
    | none => .next ((s.endSession).updateEvent 9 t Status.imageInvalid)
    | some s =>
      let s := (s.setCore t { s.core t with delivered := false }).writeGreen t h
      .next ((((s.eraseRegion t h).showCore t).set Reg.UPD_SESSION.STATE 2).updateEvent 1 t 0)
  else .next s

/-- The length of a chunk of the session's image (R515). -/
def chunkLength (size seq : Nat) : Nat := min 1008 (size - 1008 * seq)

/-- 0x0A01 UPDATE_DATA: CHK3 checks the chunk; armed for injection, it finds a mismatch (R541). -/
def runUpdateData (r : Req) (s : State) : Answer :=
  let seq := leAt r.params 0 2
  let crc := leAt r.params 2 4
  let bs := r.params.drop 6
  let h := s.upd.header
  let next := s.get Reg.UPD_SESSION.NEXT_SEQ
  if s.get Reg.UPD_SESSION.STATE ≠ 2 then refuse s Status.badState
  else if s.upd.lastChunk = some (seq, crc) ∧ crc32cFold (1008 * seq) bs = crc then accept s
  else if seq ≠ next ∨ bs.length ≠ chunkLength (Header.size h) seq ∨ crc32cFold (1008 * seq) bs ≠ crc ∨ s.armed 0x23 then
    ⟨Status.badParam, le 2 next, (s.injectAt 0x23).bump Reg.UPD_CHUNK_ERR_COUNT.COUNT Reg.UPD_FLAGS.CNT_SAT⟩
  else
    let s := s.nvmStore ((imageRegion (Header.target h)).1 + 256 + 1008 * seq) (bs.map BitVec.toNat)
    let s := s.setUpd { s.upd with lastChunk := some (seq, crc) }
    accept (s.setAll [(Reg.UPD_SESSION.NEXT_SEQ, next + 1), (Reg.UPD_RECEIVED.BYTES, s.get Reg.UPD_RECEIVED.BYTES + bs.length)])

def opUpdateData : Op := ⟨0x0A01, fun p => decide (7 ≤ p.length ∧ p.length ≤ 1014), runUpdateData⟩
def execUpdateData (r : Req) (s : State) : Host.Outcome State Fault Refusal := .next (s.command opUpdateData r)

/-- 0x0A02 UPDATE_VERIFY. -/
def runUpdateVerify (r : Req) (s : State) : Answer :=
  let t := leAt r.params 0 1
  if 2 < t then refuse s Status.badParam
  else if s.get Reg.UPD_SESSION.STATE ≠ 2 ∨ s.get Reg.UPD_SESSION.TARGET ≠ t ∨ s.get Reg.UPD_RECEIVED.BYTES ≠ Header.size s.upd.header then
    refuse s Status.badState
  else if leAt r.params 1 3 ≠ 0 then refuse s Status.badParam
  else pend ((s.setUpd { s.upd with since := s.now }).set Reg.UPD_SESSION.STATE 3)

def opUpdateVerify : Op := ⟨0x0A02, exactly 4, runUpdateVerify⟩
def execUpdateVerify (r : Req) (s : State) : Host.Outcome State Fault Refusal := .next (s.command opUpdateVerify r)

/-- UPDATE_VERIFY_DONE (R516): within 400 ms; a failure leaves the session ready for another UPDATE_VERIFY. -/
def execUpdateVerifyDone (s : State) : Host.Outcome State Fault Refusal :=
  if s.get Reg.UPD_SESSION.STATE = 3 ∧ s.mpUp then
    let t := Header.target s.upd.header
    let s := (s.until (s.upd.since + s.free % (ms 400 + 1))).drawn
    if s.imageOk t then .next (((s.writeWord t { s.core t with state := 2 }).set Reg.UPD_SESSION.STATE 4).updateEvent 2 t 0)
    else .next ((s.set Reg.UPD_SESSION.STATE 2).updateEvent 9 t Status.imageInvalid)
  else .next s

/-- An activation or a fallback of the SP needs darkness, or ACCEPT_LIMP (R519). -/
def State.spLitBar (s : State) (t flags : Nat) : Bool := t == 2 && !bit flags 0 && s.conductedWithin (ms 10)

/-- 0x0A03 UPDATE_ACTIVATE. -/
def runUpdateActivate (r : Req) (s : State) : Answer :=
  let t := leAt r.params 0 1
  let flags := leAt r.params 1 1
  if 2 < t then refuse s Status.badParam
  else if (s.core t).state ≠ 2 ∨ s.spLitBar t flags then refuse s Status.badState
  else if s.restarting then refuse s Status.busy
  else if 1 < flags ∨ leAt r.params 2 2 ≠ 0 then refuse s Status.badParam
  else
    let s := s.writeWord t { s.core t with state := 3, attempts := 0, onSaved := 0, onTime := 0, countedAt := s.now }
    let s := (s.setUpd { s.upd with activated := some t }).bump Reg.UPD_ACTIVATE_COUNT.COUNT Reg.UPD_FLAGS.CNT_SAT
    pend (s.restartCore t false)

def opUpdateActivate : Op := ⟨0x0A03, exactly 4, runUpdateActivate⟩
def execUpdateActivate (r : Req) (s : State) : Host.Outcome State Fault Refusal := .next (s.command opUpdateActivate r)

/-- 0x0A04 UPDATE_CONFIRM (R522, R524). -/
def runUpdateConfirm (r : Req) (s : State) : Answer :=
  let t := leAt r.params 0 1
  let flags := leAt r.params 1 1
  let x := s.core t
  if 2 < t then refuse s Status.badParam
  else if s.imageState t ≠ 3 ∨ (x.expired ∧ (s.archiveEntry t).isSome) then refuse s Status.badState
  else if 1 < flags ∨ leAt r.params 2 2 ≠ 0 then refuse s Status.badParam
  else if x.migration ∧ !bit flags 0 then refuse s Status.migrationFailed
  else
    let s := s.writeWord t { x with state := 4, migration := false, section_ := if x.migration then x.format else x.section_ }
    let s := s.setOtpLevel t (max (s.otpLevel t) x.rollback)
    accept ((s.showCore t).updateEvent 4 t 0)

def opUpdateConfirm : Op := ⟨0x0A04, exactly 4, runUpdateConfirm⟩
def execUpdateConfirm (r : Req) (s : State) : Host.Outcome State Fault Refusal := .next (s.command opUpdateConfirm r)

/-- 0x0A05 UPDATE_FALLBACK (R525); it ends a session that receives. -/
def runUpdateFallback (r : Req) (s : State) : Answer :=
  let t := leAt r.params 0 1
  let flags := leAt r.params 1 1
  let ses := s.get Reg.UPD_SESSION.STATE
  if 2 < t then refuse s Status.badParam
  else if s.spLitBar t flags then refuse s Status.badState
  else if ses = 1 ∨ ses = 3 ∨ s.restarting then refuse s Status.busy
  else if 1 < flags ∨ leAt r.params 2 2 ≠ 0 then refuse s Status.badParam
  else if !s.archiveOk t then refuse (s.archiveRead t) Status.fallbackUnavailable
  else
    let s := (s.setUpd { s.upd with since := s.now, lastChunk := none }).fallbackBegin t
    pend (s.setAll [(Reg.UPD_SESSION.TARGET, t), (Reg.UPD_SESSION.STATE, 6)])

def opUpdateFallback : Op := ⟨0x0A05, exactly 4, runUpdateFallback⟩
def execUpdateFallback (r : Req) (s : State) : Host.Outcome State Fault Refusal := .next (s.command opUpdateFallback r)

/-- FALLBACK_COMPLETE (R525): steps 3 to 6. -/
def execFallbackComplete (s : State) : Host.Outcome State Fault Refusal :=
  if s.get Reg.UPD_SESSION.STATE = 6 ∧ s.mpUp then
    let t := s.get Reg.UPD_SESSION.TARGET
    match s.fallbackCopy t with
    | (s, true) => .next ((s.updateEvent 5 t 0).restartCore t true)
    | (s, false) => .next ((s.endSession).updateEvent 9 t Status.imageInvalid)
  else .next s

/-- Flags of a core in the UPDATE_STATUS reply (Table 17-6). -/
def State.coreFlags (s : State) (c : Nat) : Nat :=
  let x := s.core c
  b2n x.expired + 2 * b2n x.migration + 4 * b2n (s.archiveEntry c).isSome + 8 * b2n (!x.running.isEmpty && x.running != x.digest)

/-- 0x0A06 UPDATE_STATUS (R531, Table 17-6). -/
def runUpdateStatus (_ : Req) (s : State) : Answer :=
  let core := fun c =>
    let x := s.core c
    [byte x.state, byte x.attempts, byte (s.coreFlags c), byte (s.otpLevel c)] ++ le 4 x.version ++ le 4 (s.get (Reg.UPD_RUN_VER.VERSION c))
      ++ le 4 (leAt (s.archiveHeader c) 12 4) ++ le 4 (s.windowLeft c) ++ le 4 0
  answer s ([byte (s.get Reg.UPD_SESSION.TARGET), byte (s.get Reg.UPD_SESSION.STATE)] ++ le 4 (s.get Reg.UPD_RECEIVED.BYTES)
    ++ le 2 (s.get Reg.UPD_SESSION.NEXT_SEQ) ++ le 2 0 ++ core 0 ++ core 1 ++ core 2)

def opUpdateStatus : Op := ⟨0x0A06, exactly 0, runUpdateStatus⟩
def execUpdateStatus (r : Req) (s : State) : Host.Outcome State Fault Refusal := .next (s.command opUpdateStatus r)

/-! ### The confirm window (R521) -/

/-- Window time is being counted: PD1 is powered and the MP runs. -/
def State.windowRuns (s : State) (c : Nat) : Bool := decide (c < 3) && (s.core c).state == 3 && s.mpUp

/-- CONFIRM_WINDOW_EXPIRY. -/
def execConfirmWindowExpiry (core : Nat) (s : State) : Host.Outcome State Fault Refusal :=
  if s.windowRuns core && !(s.core core).expired then
    let len := s.get Reg.UPD_CTRL.CONFIRM_WINDOW * 6000000000
    let s := s.wait (len - s.windowTime core)
    .next ((s.writeWord core { s.core core with expired := true }).updateEvent 8 core 0)
  else .next s

/-- ON_TIME_WRITE: 60 s after the last write the MP writes ON_TIME. -/
def execOnTimeWrite (s : State) : Host.Outcome State Fault Refusal :=
  match [0, 1, 2].find? s.windowRuns with
  | some c => .next (s.until ((s.core c).countedAt + 6000000000)).writeOnTime
  | none => .next s

end Sys2Proof.Machine
end

