-- ==== Sys2Proof/Machine/SafetyRows.lean ====
section
/-! DEFINITION. The rows of the safety functions (12_safety_functions): inputs, heartbeat, guard, comparators, lock-out,
commissioning. -/

namespace Sys2Proof.Machine

/-! ### PERMIT and heartbeat (R358, R360, R362) -/

/-- PERMIT_RISE: the SP raises PERMIT when its conditions hold. -/
def execPermitRise (s : State) : Host.Outcome State Fault Refusal :=
  .next (if s.permitOk then s.permitRise else s)

/-- PERMIT_FALL: the SP drops PERMIT when a condition fails. -/
def execPermitFall (s : State) : Host.Outcome State Fault Refusal :=
  .next (if s.permitOk then s else s.permitFall)

/-- A heartbeat fault, which is a lock-out cause. -/
def State.heartbeatFault (s : State) : State := (s.set Reg.SAF_KS_STATUS.HB_FAULT 1).lockoutCause 2 Reg.SAF_HB.INTERVAL.addr 9

/-- An interval of base cycles is a heartbeat fault (R362). -/
def heartbeatBad (key interval : Nat) : Bool :=
  if interval < 130000 ∨ 270000 < interval then true
  else if 150000 ≤ interval ∧ interval ≤ 250000 then false
  else Config.choice 362 key

/-- HEARTBEAT_TOGGLE (R359, R362): the SP toggles `interval` base cycles after its last toggle; the Kiln Shutter measures with
its own oscillator, 8 MHz ±5 %. -/
def execHeartbeatToggle (interval : Nat) (s : State) : Host.Outcome State Fault Refusal :=
  if s.spUp && s.sp.coverageOk then
    match s.flag Reg.SAF_STATUS.PERMIT, s.ks.lastToggle with
    | true, some t =>
      let s := s.until (t + interval)
      let n := interval * 76 / 1000 + s.free % (interval * 8 / 1000 + 1)
      let s := (s.drawn.setKs { s.ks with lastToggle := some s.now, toggled := true }).set Reg.SAF_HB.INTERVAL (min 65535 n)
      .next (if heartbeatBad s.now interval then s.heartbeatFault else s.judge)
    | true, none => .next (s.setKs { s.ks with lastToggle := some s.now, toggled := true }).judge
    | false, _ => .next s
  else .next s

/-- HEARTBEAT_TIMEOUT (R362): PERMIT stays high without a toggle for more than 2.5 ms, at the latest for 2.7 ms. -/
def execHeartbeatTimeout (s : State) : Host.Outcome State Fault Refusal :=
  if s.flag Reg.SAF_STATUS.PERMIT then
    let from_ := s.ks.lastToggle.getD s.ks.permitRose
    .next ((s.until (from_ + 250001 + s.free % 20000)).drawn.heartbeatFault)
  else .next s

/-- COVERING_TIMEOUT (R360): 10 s after PERMIT has risen again. -/
def execCoveringTimeout (s : State) : Host.Outcome State Fault Refusal :=
  if s.flag Reg.SAF_STATUS.COVERING && s.flag Reg.SAF_STATUS.PERMIT then .next ((s.until (s.ks.permitRose + ms 10000)).coverEnd)
  else .next s

/-! ### Dual-channel inputs (R379 to R383) -/

/-- Channels 1 A and 2 B; pairs 0 HPERM and 1 LIMP. -/
def State.pairView (s : State) (channel pair : Nat) : PairView :=
  match channel, pair with
  | 1, 0 => s.sp.hperm | 1, _ => s.sp.limp | _, 0 => s.ks.hperm | _, _ => s.ks.limp

def State.setPairView (s : State) (channel pair : Nat) (v : PairView) : State :=
  match channel, pair with
  | 1, 0 => s.setSp { s.sp with hperm := v }
  | 1, _ => s.setSp { s.sp with limp := v }
  | _, 0 => s.setKs { s.ks with hperm := v }
  | _, _ => s.setKs { s.ks with limp := v }

/-- Discrepancy time T of a pair as a channel holds it, in ms. -/
def State.discTime (s : State) (channel pair : Nat) : Nat :=
  let b := if channel = 1 then s.spBlock else s.ksBlock
  if pair = 0 then Block.hpermT b else Block.limpT b

/-- Bounds of the discrepancy band in base cycles (Table 12-4). -/
def discLow (t : Nat) : Nat := t * 95000 - ms 1
def discHigh (t : Nat) : Nat := t * 105000 + ms 1

/-- HPERM is permitted, LIMP is requested (R382). -/
def State.hpermNow (s : State) : Bool := s.ks.hperm.active && s.sp.hperm.active && !s.ks.hperm.disc && !s.sp.hperm.disc
def State.limpNow (s : State) : Bool := s.ks.limp.active || s.sp.limp.active

/-- SAF_INPUTS follows the views; a change of an accepted state is reported (R382, R405). -/
def State.inputsFollow (s : State) : State :=
  let raw := fun (h l : PairView) => b2n h.a + 2 * b2n h.b + 4 * b2n l.a + 8 * b2n l.b
  let timed := fun (v : PairView) => v.since.isSome
  let oldH := s.get Reg.SAF_INPUTS.HPERM
  let oldL := s.get Reg.SAF_INPUTS.LIMP
  let s := s.setAll [(Reg.SAF_INPUTS.RAW_A, raw s.sp.hperm s.sp.limp), (Reg.SAF_INPUTS.RAW_B, raw s.ks.hperm s.ks.limp),
    (Reg.SAF_INPUTS.HPERM, b2n s.hpermNow), (Reg.SAF_INPUTS.LIMP, b2n s.limpNow),
    (Reg.SAF_INPUTS.DISC, b2n (timed s.ks.hperm || timed s.sp.hperm) + 2 * b2n (timed s.ks.limp || timed s.sp.limp))]
  let s := if s.get Reg.SAF_INPUTS.HPERM = oldH then s else s.safetyEvent 5 0 0
  if s.get Reg.SAF_INPUTS.LIMP = oldL then s else s.safetyEvent 6 0 0

/-- The Kiln Shutter has accepted HPERM: the guard's time begins, or the guard is disarmed (R363). -/
def State.hpermAccepted (s : State) (active : Bool) : State :=
  if active then (s.setKs { s.ks with armAt := none }).set Reg.SAF_STATUS.CUTOFF_ARMED 0
  else s.setKs { s.ks with armAt := some s.now }

/-- A discrepancy fault of a channel in a pair (R381, R382). -/
def State.discrepancy (s : State) (channel pair : Nat) : State :=
  let v := s.pairView channel pair
  (s.setPairView channel pair { v with disc := true, since := none }).lockoutCause (5 + pair) Reg.SAF_INPUTS.RAW_A.addr (if channel = 1 then 1 else 9)

/-- A channel sees new levels of a pair. -/
def State.seeLevels (s : State) (channel pair : Nat) (a b : Bool) : State :=
  let v := s.pairView channel pair
  let v' := { v with a := a, b := b, changed := s.now }
  if a == b then
    s.setPairView channel pair { v' with since := if v.disc then none else some (v.since.getD s.now) }
  else
    let t := s.discTime channel pair
    let late := match v.since with
      | some t0 => band 381 (s.now * 4 + 2 * pair + channel % 2) (discLow t - 1) (discHigh t + 1) (s.now - t0)
      | none => false
    let s := if late then s.discrepancy channel pair else s
    let s := s.setPairView channel pair { v' with since := none, disc := false, active := a }
    if channel = 2 ∧ pair = 0 ∧ v.active ≠ a then s.hpermAccepted a else s

/-- The levels of a pair on the pads. -/
def State.setPairPads (s : State) (pair : Nat) (a b : Bool) : State :=
  { s with pads := if pair = 0 then { s.pads with hpermA := a, hpermB := b } else { s.pads with limpA := a, limpB := b } }

/-- A changed level wakes the module: INPUTS shows what changed (R444). -/
def State.inputWake (s : State) (pair : Nat) (old : PairView) (a b : Bool) : State :=
  let s' := s.wakeSource 3
  let inputs := (b2n (old.a != a) + 2 * b2n (old.b != b)) * (if pair = 0 then 1 else 4)
  if s'.pwr.wake = s.pwr.wake ∧ s'.pwr.wakeAfter = s.pwr.wakeAfter then s' else s'.set Reg.PWR_WAKE_CAUSE.INPUTS inputs

/-- DUAL_INPUT_CHANGE (R380): levels of a pair that have stood for `held` base cycles; 0.5 ms or less is never seen, 1.2 ms or more
always is. The Kiln Shutter's view wakes the module. -/
def execDualInputChange (channel pair : Nat) (a b : Bool) (held : Nat) (s : State) : Host.Outcome State Fault Refusal :=
  if s.phase = .dark ∨ channel = 0 ∨ 2 < channel ∨ 1 < pair then .next s
  else
    let s := s.setPairPads pair a b
    let old := s.pairView channel pair
    if (channel = 1 ∧ (!s.spUp ∨ s.spTested)) ∨ (old.a = a ∧ old.b = b) ∨ !band 380 (s.now * 4 + 2 * pair + channel % 2) 50000 120000 held then .next s
    else
      let s := ((s.seeLevels channel pair a b).inputsFollow).judge
      .next (if channel = 2 then s.inputWake pair old a b else s)

/-- DISCREPANCY_TIMEOUT (R381): the disagreement being timed passes its band. -/
def execDiscrepancyTimeout (channel pair : Nat) (s : State) : Host.Outcome State Fault Refusal :=
  let v := s.pairView channel pair
  match v.since with
  | some t0 =>
    if channel = 0 ∨ 2 < channel ∨ 1 < pair ∨ (channel = 1 ∧ !s.spUp) then .next s
    else
      let t := s.discTime channel pair
      let s := (s.until (t0 + discLow t + s.free % (discHigh t - discLow t + 1))).drawn
      .next ((s.discrepancy channel pair).inputsFollow).judge
  | none => .next s

/-! ### Cut-off (R363, R364, R371) -/

/-- The limiter value that R371 asks for. -/
def State.limiterWanted (s : State) : Bool := Block.cutoffEn s.spBlock && !s.hpermNow

/-- CUTOFF_LIMITER_UPDATE (R371): within 1 ms of a change the SP sets or clears the word, which waits to land; a newer change
replaces one still pending. -/
def execCutoffLimiterUpdate (s : State) : Host.Outcome State Fault Refusal :=
  let newest := match s.sp.cutPending with | some (v, _) => v | none => s.flag Reg.SAF_CUTOFF.SET
  if s.spUp ∧ newest ≠ s.limiterWanted then
    let s := (s.wait (s.free % (ms 1 + 1))).drawn
    .next ((s.setSp { s.sp with cutPending := some (s.limiterWanted, s.now) }).set Reg.SAF_CUTOFF.PENDING 1)
  else .next s

/-- CUTOFF_GUARD_ARM (R363): 80,000 cycles of the Kiln Shutter's oscillator, 10 ms ±5 %. -/
def execCutoffGuardArm (s : State) : Host.Outcome State Fault Refusal :=
  match s.ks.armAt with
  | some t =>
    if Block.cutoffEn s.ksBlock && s.ks.armed && !s.flag Reg.SAF_STATUS.CUTOFF_ARMED then
      let s := (s.until (t + 950000 + s.free % 100001)).drawn
      .next ((s.setKs { s.ks with armedAt := s.now }).set Reg.SAF_STATUS.CUTOFF_ARMED 1)
    else .next s
  | none => .next s

/-- The window that closes next: its start and its end (R364). Slots start 4,240 base cycles before each boundary; without
one, a window lasts 41,600 oscillator cycles (5.2 ms). -/
def State.window (s : State) : Nat × Nat :=
  let p := s.period
  if s.scan.running then
    let e := if s.scan.inSlot then s.now else max s.now s.slotAt
    let start := (if s.scan.inSlot then s.slotAt else s.scan.frameStart - 4240)
    if s.scan.inSlot then (start - p, e) else (start, min e (start + 520000))
  else (s.now, s.now + 520000)

/-- CUTOFF_WINDOW_END (R364): a guarded row's window closes with a mean current in nA. -/
def execCutoffWindowEnd (row mean : Nat) (s : State) : Host.Outcome State Fault Refusal :=
  let w := s.window
  if s.flag Reg.SAF_STATUS.CUTOFF_ARMED && decide (row < 512) && Block.guarded s.ksBlock row then
    let s := s.until w.2
    let limit := Block.cutoffLimit s.ksBlock * 1000
    let trips := band 364 (s.now * 512 + row) ((limit * 9 - 20000) / 10) ((limit * 11 + 20000) / 10 + 1) mean
    if s.ks.armedAt ≤ w.1 ∧ trips then .next ((s.set Reg.SAF_KS_STATUS.TRIP_ROW row).lockoutCause 1 row 9) else .next s
  else .next s

/-! ### Comparators (R366, R367) -/

/-- A mask with a bit set, and with it clear. -/
def withBit (m i : Nat) : Nat := m ||| 2 ^ i
def withoutBit (m i : Nat) : Nat := if bit m i then m - 2 ^ i else m

/-- TEMP_HIGH_TRIP: comparator and temperature in 0.1 °C. -/
def execTempHighTrip (comparator theta : Nat) (s : State) : Host.Outcome State Fault Refusal :=
  let m := s.get Reg.SAF_KS_STATUS.TEMP_HIGH
  if s.phase ≠ .dark ∧ comparator < 8 ∧ !bit m comparator ∧ band 366 (s.now * 32 + comparator) 1569 1630 theta then
    .next ((s.set Reg.SAF_KS_STATUS.TEMP_HIGH (withBit m comparator)).lockoutCause 4 comparator 9).judge
  else .next s

/-- TEMP_HIGH_RELEASE. -/
def execTempHighRelease (comparator theta : Nat) (s : State) : Host.Outcome State Fault Refusal :=
  let m := s.get Reg.SAF_KS_STATUS.TEMP_HIGH
  if s.phase ≠ .dark ∧ comparator < 8 ∧ bit m comparator ∧ !band 366 (s.now * 32 + 8 + comparator) 1469 1530 theta then
    .next (s.set Reg.SAF_KS_STATUS.TEMP_HIGH (withoutBit m comparator)).judge
  else .next s

/-- TEMP_CUT_TRIP. -/
def execTempCutTrip (comparator theta : Nat) (s : State) : Host.Outcome State Fault Refusal :=
  let m := s.get Reg.SAF_KS_STATUS.TEMP_CUT
  if s.phase ≠ .dark ∧ comparator < 8 ∧ !bit m comparator ∧ band 366 (s.now * 32 + 16 + comparator) 1719 1780 theta then
    .next (s.set Reg.SAF_KS_STATUS.TEMP_CUT (withBit m comparator)).judge
  else .next s

/-- TEMP_CUT_RELEASE. -/
def execTempCutRelease (comparator theta : Nat) (s : State) : Host.Outcome State Fault Refusal :=
  let m := s.get Reg.SAF_KS_STATUS.TEMP_CUT
  if s.phase ≠ .dark ∧ comparator < 8 ∧ bit m comparator ∧ !band 366 (s.now * 32 + 24 + comparator) 1619 1680 theta then
    .next (s.set Reg.SAF_KS_STATUS.TEMP_CUT (withoutBit m comparator)).judge
  else .next s

/-- VSTR_OVERVOLTAGE_TRIP (R367): VSTR stands at a level for `held` base cycles; above 36.0 V for 5 µs always trips, 34.5 V or
below never. -/
def execVstrOvervoltageTrip (mv held : Nat) (s : State) : Host.Outcome State Fault Refusal :=
  if s.phase = .dark ∨ s.ks.vstrOff then .next s
  else
    let s := s.setSupply 0 mv
    let trips := if mv ≤ 34500 then false else if 36000 < mv ∧ us 5 ≤ held then true else Config.choice 367 s.now
    if trips then .next (((s.setKs { s.ks with vstrOff := true }).set Reg.SAF_KS_STATUS.VSTR_OVER 1).lockoutCause 3 0 9).judge
    else .next s

/-- VSTR_OVERVOLTAGE_RELEASE (R367): VSTR has been below 33.0 V for 10 ms. -/
def execVstrOvervoltageRelease (mv : Nat) (s : State) : Host.Outcome State Fault Refusal :=
  if s.ks.vstrOff ∧ mv < 33000 then
    let s := (s.setSupply 0 mv).wait (ms 10)
    .next ((s.setKs { s.ks with vstrOff := false }).set Reg.SAF_KS_STATUS.VSTR_OVER 0).judge
  else .next s

/-! ### The start of the Kiln Shutter, the lock-out record (R42, R43, R387, R414) -/

/-- One copy's sequence number is newer than another's (R548). -/
def seqNewer (a b : Nat) : Bool := let d := (a + 2 ^ 32 - b % 2 ^ 32) % 2 ^ 32; decide (1 ≤ d ∧ d < 2 ^ 31)

/-- The valid copy with the newer sequence number. -/
def State.chooseCopy (s : State) : Option Nat :=
  match s.ks.copy0.good, s.ks.copy1.good with
  | false, false => none
  | true, false => some 0
  | false, true => some 1
  | true, true => some (if seqNewer s.ks.copy1.seq s.ks.copy0.seq then 1 else 0)

/-- The valid entry of the lock-out record. -/
def State.recordOf (s : State) : Option LockRecord :=
  match s.locks.aon, s.locks.ks, s.locks.nvm with
  | some r, _, _ => some r | none, some r, _ => some r | none, none, r => r

/-- A lock-out that a copy of the record restores (R387). -/
def State.restoreLockout (s : State) : State :=
  match s.recordOf with
  | none => s
  | some r =>
    let n := s.get Reg.SAF_LOCKOUT_COUNT.COUNT
    let s := (s.enterLockout r.cause r.channel r.limpPath 0).set Reg.SAF_LOCKOUT_COUNT.COUNT n
    let s := s.setAll [(Reg.SAF_LOCKOUT.QUALITY, r.quality), (Reg.SAF_LOCKOUT.EPOCH, r.epoch), (Reg.SAF_LOCKOUT_TIME_LO.TIME, r.time),
      (Reg.SAF_LOCKOUT_TIME_HI.TIME, r.time / 2 ^ 32)]
    s.setKs { s.ks with waiting := s.ks.waiting ++ [(r.cause, true)] }

/-- Lock-out by the Kiln Shutter at its start: reported now when the controller runs, once it runs otherwise (R43). -/
def State.startCause (s : State) (cause : Nat) : State :=
  let s := s.enterLockout cause 2 true 0
  s.setKs { s.ks with waiting := s.ks.waiting ++ [(cause, false)] }

/-- The causes of the start reported to the collector, once the controller runs (R43, R414). -/
def State.reportWaiting (s : State) : State :=
  if s.mpUp then
    let l := s.ks.waiting
    let s := s.setKs { s.ks with waiting := [] }
    l.foldl (fun s w => s.report ⟨Src.lockout + w.1, 0, 9, 7, false, w.2⟩) s
  else s

/-- The limp bitmap and the block check as the Kiln Shutter holds them. -/
def State.showKs (s : State) : State :=
  s.setAll [(Reg.SAF_KS_CRC.CRC, Block.check s.id.serial s.ksBlock), (Reg.STR_LIMP_STATUS.LIT_BINS, Block.litBins s.ksBlock)]

/-- KS_NVM_CHECK (R42, R43, R387): within 8 ms of VAUX the Kiln Shutter reads its configuration, checks the limp-plane drivers'
bias and takes a lock-out from the record. -/
def execKsNvmCheck (biasOk : Bool) (s : State) : Host.Outcome State Fault Refusal :=
  if s.phase = .dark ∨ s.ks.armed then .next s
  else
    let s := (s.until (s.clk.start + s.free % (ms 8 + 1))).drawn
    let s := match s.chooseCopy with
      | some k => ((s.setKs { s.ks with armed := true }).set Reg.SAF_KS_STATUS.KS_COPY k).showKs
      | none => s
    let s := s.restoreLockout
    let s := if s.ks.armed then s else s.startCause 7
    let s := if biasOk then s else (s.setKs { s.ks with limpCheckBad := true }).startCause 8
    .next (s.reportWaiting.spFollow).judge

/-- LOCKOUT_RECORD_WRITE (R387): copy 0 always-on memory within 1 ms, 1 the Kiln Shutter's NVM within 50 ms, 2 NVM within 100 ms. -/
def execLockoutRecordWrite (copy : Nat) (s : State) : Host.Outcome State Fault Refusal :=
  let bound := match copy with | 0 => ms 1 | 1 => ms 50 | _ => ms 100
  let old := match copy with | 0 => s.locks.aon | 1 => s.locks.ks | _ => s.locks.nvm
  if s.lockedOut ∧ copy < 3 ∧ old ≠ some s.lockRecord ∧ (copy ≠ 2 ∨ s.mpUp) then
    let at_ := ((s.flt.windows.find? (fun w => w.reaction == 6)).map (·.opened)).getD s.now
    let s := (s.until (at_ + s.free % (bound + 1))).drawn
    let r := s.lockRecord
    .next { s with locks := match copy with
        | 0 => { s.locks with aon := some r }
        | 1 => { s.locks with ks := some r }
        | _ => { s.locks with nvm := some r } }
  else .next s

/-! ### The SP's start (R378, R384, R557) -/

/-- SP_COVERAGE_TEST (R378): within 5 ms, before the first heartbeat toggle; then the parameter CRCs are compared.
Start-up ABIST is not run on a wake (R446). -/
def execSpCoverageTest (pass : Bool) (s : State) : Host.Outcome State Fault Refusal :=
  if s.spUp && !s.sp.coverageOk && !s.sp.halted && (s.phase == .spStart || s.phase == .service) then
    let s := (s.wait (s.free % (ms 5 + 1))).drawn
    let s := s.set Reg.SAF_PARAM_CRC.CRC (Block.check s.id.serial s.spBlock)
    let s := s.setSp { s.sp with coverageOk := pass }
    let s := if pass then s else s.lockoutCause 0x15 0 1
    let s := if s.get Reg.SAF_PARAM_CRC.CRC = s.get Reg.SAF_KS_CRC.CRC then s else s.lockoutCause 0x14 Reg.SAF_PARAM_CRC.CRC.addr 1
    let s := if pass then s else s.setSp { s.sp with halted := true }
    let s := if s.phase = .spStart then { s with phase := if s.pwr.wake.isSome then .cpBoot else .abist } else s
    .next s.spFollow
  else .next s

/-! ### Commands of group 0x05 (R399 to R404) -/

/-- During an SP pause or an LBIST of the SP, safety opcodes but SAFETY_STATUS are busy (Table 17-3). -/
def State.spAway (s : State) : Bool := (!s.spUp || s.spTested) && !s.sp.halted

/-- 0x0500 SAFETY_STATUS (R400). -/
def runSafetyStatus (_ : Req) (s : State) : Answer :=
  answer s ([0x40C00000, 0x40C00004, 0x40C00008, 0x40C0000C, 0x40C00010, 0x40C00014, 0x40C00018].flatMap (fun a => le 4 (s.regWord a))
    ++ le 2 0 ++ (List.range 8).flatMap (fun n => le 4 (s.get (Reg.SAF_SP_DIGEST.BYTES n))) ++ le 4 (s.get Reg.SAF_COMMISSION_COUNT.COUNT))

def opSafetyStatus : Op := ⟨0x0500, exactly 0, runSafetyStatus⟩
def execSafetyStatus (r : Req) (s : State) : Host.Outcome State Fault Refusal := .next (s.command opSafetyStatus r)

/-- 256 × I(CUTOFF_CLASS) is above 0.85 × CUTOFF_I_LIMIT − 2 µA, with I(c) = 160 µA × 2^((c − 63) / 8) (R401), exactly. -/
def cutoffCurrentBad (c limit : Nat) : Bool := decide ((85 * limit - 200) ^ 8 * 2 ^ 63 < 4096000 ^ 8 * 2 ^ c)

/-- The fields of a safety parameter block are out of their ranges (R401, Table 12-6). -/
def State.blockBad (s : State) (b : List Byte) : Bool :=
  let n := Block.rectCount b
  let rectBad := fun k =>
    let r := Block.rect b k
    if k < n then decide (r.2.1 < r.1) || decide (r.2.2.2 < r.2.2.1) || decide (63 < r.2.2.2) else leAt b (48 + 4 * k) 4 != 0
  !(leAt b 0 4 == 0x50534B46 && leAt b 4 2 == 1 && leAt b 6 1 == s.id.variant.code) || decide (7 < leAt b 7 1)
    || decide (Block.cutoffRow b = 0 ∨ 511 < Block.cutoffRow b) || decide (Block.cutoffClass b = 0 ∨ 63 < Block.cutoffClass b)
    || decide (Block.limpClass b = 0 ∨ 63 < Block.limpClass b) || decide (Block.cutoffLimit b = 0 ∨ 40960 < Block.cutoffLimit b)
    || decide (Block.reducedClass b = 0 ∨ Block.limpClass b < Block.reducedClass b) || leAt b 23 1 != 0
    || decide (Block.hpermT b < 5 ∨ 500 < Block.hpermT b) || decide (Block.limpT b < 5 ∨ 500 < Block.limpT b)
    || decide (1024 < Block.guardLevel b) || decide (Block.watchT1 b < 20 ∨ 10000 < Block.watchT1 b)
    || decide (Block.watchT2 b ≤ Block.watchT1 b ∨ 60000 < Block.watchT2 b) || decide (2000 < Block.growRate b)
    || decide (10000 < Block.staleFade b) || decide (32 < n) || leAt b 45 3 != 0 || (List.range 32).any rectBad
    || (b.drop 176).any (fun x => x != 0) || (Block.cutoffEn b && cutoffCurrentBad (Block.cutoffClass b) (Block.cutoffLimit b))

/-- READY is in force and no entry runs. -/
def State.inReady (s : State) : Bool := s.power == 2 && s.pwr.entry.isNone

/-- 0x0501 COMMISSION_LOAD (R401). -/
def runCommissionLoad (r : Req) (s : State) : Answer :=
  if !s.inReady then refuse s Status.badState
  else if s.com.writing.isSome ∨ s.spAway then refuse s Status.busy
  else if s.blockBad r.params then refuse s Status.badParam
  else answer { s with com := { s.com with staged := some (r.params, s.now) } } (le 4 (Block.check s.id.serial r.params))

def opCommissionLoad : Op := ⟨0x0501, exactly 512, runCommissionLoad⟩
def execCommissionLoad (r : Req) (s : State) : Host.Outcome State Fault Refusal := .next (s.command opCommissionLoad r)

/-- The first refusal of a COMMISSION_CONFIRM, or the block to be written (R402). -/
def State.confirmStatus (s : State) (p : List Byte) : Status :=
  let stored := bit (leAt p 4 1) 0
  let block := if stored then s.com.block else (s.com.staged.map (·.1)).getD []
  if !s.inReady then Status.badState
  else if (!stored ∧ s.com.staged.isNone) ∨ (stored ∧ !s.flag Reg.SAF_STATUS.COMMISSIONED) then Status.badState
  else if s.com.writing.isSome ∨ s.spAway then Status.busy
  else if leAt p 0 4 ≠ Block.check s.id.serial block ∨ p.drop 8 ≠ s.sp.digest ∨ 1 < leAt p 4 1 ∨ leAt p 5 3 ≠ 0 then Status.badParam
  else Status.pending

/-- 0x0502 COMMISSION_CONFIRM (R402): a match starts the writes, with PERMIT low (R395); a refusal discards the staged block. -/
def runCommissionConfirm (r : Req) (s : State) : Answer :=
  let p := r.params
  let st := s.confirmStatus p
  let new := if bit (leAt p 4 1) 0 then none else s.com.staged.map (·.1)
  let s' := { s with com := { s.com with staged := none } }
  if st = Status.pending then pend ({ s' with com := { s'.com with writing := some (new, p.drop 8) } }).permitFall
  else refuse s' st

def opCommissionConfirm : Op := ⟨0x0502, exactly 40, runCommissionConfirm⟩
def execCommissionConfirm (r : Req) (s : State) : Host.Outcome State Fault Refusal := .next (s.command opCommissionConfirm r)

/-- The new block in force at the SP and the Kiln Shutter (R395, R398). -/
def State.newBlock (s : State) (b : List Byte) : State :=
  let c : KsCopy := ⟨true, (s.ksCopy.seq + 1) % 2 ^ 32, b⟩
  let used := s.get Reg.SAF_KS_STATUS.KS_COPY
  let s := s.setKs (if used = 0 then { s.ks with copy1 := c, armed := true } else { s.ks with copy0 := c, armed := true })
  let s := { s with com := { s.com with block := b, mirror := true } }
  let s := s.setAll [(Reg.SAF_KS_STATUS.KS_COPY, 1 - used), (Reg.SAF_PARAM_CRC.CRC, Block.check s.id.serial b),
    (Reg.SYS_NODE_TAG.TAG, if Block.nodeTag b = 0 then s.id.serial else Block.nodeTag b), (Reg.SAF_STATUS.COMMISSIONED, 1)]
  let s := if Block.cutoffEn b then s else s.set Reg.SAF_STATUS.CUTOFF_ARMED 0
  s.showKs.bump Reg.SAF_COMMISSION_COUNT.COUNT Reg.SAF_STATUS.CNT_SAT

/-- COMMISSION_WRITES_DONE (R395, R397, R398). -/
def execCommissionWritesDone (ok : Bool) (s : State) : Host.Outcome State Fault Refusal :=
  match s.com.writing with
  | some (new, digest) =>
    if !s.spUp then .next s
    else
      let s := { s with com := { s.com with writing := none } }
      if !ok then .next (s.safetyEvent 4 0 0)
      else
        let s := match new with | some b => s.newBlock b | none => s
        let s := { s with com := { s.com with confirmedDigest := digest, time := if new.isSome then s.time else s.com.time } }
        let s := s.setAll ((List.range 8).map (fun n => (Reg.SAF_SP_DIGEST.BYTES n, leAt digest (4 * n) 4)))
        .next ((s.spFollow.judge).safetyEvent 3 0 (Block.check s.id.serial s.spBlock))
  | none => .next s

/-- COMMISSION_STAGE_EXPIRY (R401): 60 s after its LOAD. -/
def execCommissionStageExpiry (s : State) : Host.Outcome State Fault Refusal :=
  match s.com.staged with
  | some (_, t) =>
    let s := s.until (t + ms 60000)
    .next { s with com := { s.com with staged := none } }
  | none => .next s

/-- 0x0503 SAFETY_RESET_ARM (R403): the nonce is random. -/
def runSafetyResetArm (_ : Req) (s : State) : Answer :=
  if !s.lockedOut then refuse s Status.badState
  else if s.spAway then refuse s Status.busy
  else
    let n := s.free % 2 ^ 32
    answer ((s.drawn.setSp { s.sp with armNonce := n, armAt := s.now }).set Reg.SAF_STATUS.ARMED 1) (le 2 0 ++ le 4 n)

def opSafetyResetArm : Op := ⟨0x0503, exactly 0, runSafetyResetArm⟩
def execSafetyResetArm (r : Req) (s : State) : Host.Outcome State Fault Refusal := .next (s.command opSafetyResetArm r)

/-- The causes of Table 12-5 that remain, lowest code first (R390). -/
def State.causesLeft (s : State) : List Nat :=
  let pads := (List.range 5).any (fun k => s.get (Reg.DIAG_PAD_SHORT.MAP k) != 0)
  [(0x03, s.flag Reg.SAF_KS_STATUS.VSTR_OVER), (0x04, s.tempHigh || s.tempCut), (0x07, s.chooseCopy.isNone), (0x08, s.ks.limpCheckBad),
   (0x14, s.get Reg.SAF_PARAM_CRC.CRC != s.get Reg.SAF_KS_CRC.CRC), (0x15, !s.sp.coverageOk), (0x16, !s.sp.lbistOk), (0x17, pads),
   (0x18, s.id.testEn)].filterMap (fun p => if p.2 then some p.1 else none)

/-- Both channels have seen a pair at rest and in agreement for 100 ms (R390). -/
def State.atRest (s : State) (pair : Nat) : Bool :=
  [1, 2].all (fun ch =>
    let v := s.pairView ch pair
    !v.a && v.b && !v.active && !v.disc && decide (v.changed + ms 100 ≤ s.now))

/-- REASONS of R404; 0 when every condition is met. -/
def State.resetReasons (s : State) : Nat :=
  let c := s.causesLeft
  b2n (!s.atRest 0) + 2 * b2n (!s.atRest 1) + (if c.isEmpty then 0 else 4 + 256 * c.headD 0) + 8 * b2n (!s.spUp || s.sp.halted)

/-- Leaving lock-out (R391): the record is cleared, the Kiln Shutter leaves lock-out, the hold ends, the event is sent. -/
def State.leaveLockout (s : State) : State :=
  let s := { s with locks := ⟨none, none, none⟩ }
  let s := s.setKs { s.ks with keep := s.flag Reg.STR_STATUS.LIMP_ENGAGED }
  let s := s.setAll [(Reg.SAF_STATUS.LOCKED_OUT, 0), (Reg.SAF_LOCKOUT.CAUSE, 0), (Reg.SAF_LOCKOUT.CHANNEL, 0), (Reg.SAF_LOCKOUT.LIMP_PATH, 0),
    (Reg.SAF_LOCKOUT.QUALITY, 0), (Reg.SAF_LOCKOUT.EPOCH, 0), (Reg.SAF_LOCKOUT_TIME_LO.TIME, 0), (Reg.SAF_LOCKOUT_TIME_HI.TIME, 0),
    (Reg.SAF_KS_STATUS.HB_FAULT, 0), (Reg.SCN_STATUS.HELD, b2n s.scan.resetAt.isSome)]
  (s.spFollow.judge).safetyEvent 2 0 0

/-- 0x0504 SAFETY_RESET_CONFIRM (R404): every CONFIRM consumes the ARM. -/
def runSafetyResetConfirm (r : Req) (s : State) : Answer :=
  let armed := s.flag Reg.SAF_STATUS.ARMED
  let d := s.now - s.sp.armAt
  let s' := s.set Reg.SAF_STATUS.ARMED 0
  let early := band 390 (2 * s.now) 4799999 5000000 d
  let late := band 390 (2 * s.now + 1) 200000000 201000001 d
  if !s.lockedOut ∨ !armed then refuse s' Status.badState
  else if s.spAway then refuse s' Status.busy
  else if leAt r.params 0 4 ≠ s.sp.armNonce then refuse s' Status.badParam
  else if !early ∨ late then refuse s' Status.badState
  else if s.resetReasons ≠ 0 then ⟨Status.lockedOut, le 4 s.resetReasons, s'⟩
  else accept s'.leaveLockout

def opSafetyResetConfirm : Op := ⟨0x0504, exactly 4, runSafetyResetConfirm⟩
def execSafetyResetConfirm (r : Req) (s : State) : Host.Outcome State Fault Refusal := .next (s.command opSafetyResetConfirm r)

end Sys2Proof.Machine
end

