-- ==== Sys2Proof/Machine/Registers.lean ====
section
/-! DEFINITION. The address space as the CP reads and writes it for the host: REG_READ, REG_WRITE and the rows that are a
REG_WRITE of one register (R10, R37, R46, R147, R202, R290 to R293, R321, R448, R508, R533, R537, R549, R550). -/

namespace Sys2Proof.Machine

/-! ### Regions (Table 9-13) -/

/-- The region of an address, as a number: 0 SRAM, 1 always-on memory, 2 NVM window, 3 to 19 the register regions, 20 the
external flash window. -/
def region (a : Nat) : Option Nat :=
  if a < 0x02000000 then some 0
  else if 0x10000000 ≤ a ∧ a < 0x10040000 then some 1
  else if 0x20000000 ≤ a ∧ a < 0x20800000 then some 2
  else if 0x40000000 ≤ a ∧ a < 0x41100000 then some (3 + (a - 0x40000000) / 0x100000)
  else if 0x80000000 ≤ a ∧ a < 0x90000000 then some 20
  else none

/-- The word addresses of an access. -/
def wordsFrom (a n : Nat) : List Nat := (List.range n).map (fun i => a + 4 * i)

/-- The first address that R290 refuses, if any: `most` words at most. -/
def accessFault (a n most : Nat) : Option Nat :=
  if a % 4 ≠ 0 ∨ n = 0 ∨ most < n then some a
  else (wordsFrom a n).find? (fun x => (region x).isNone || region x != region a)

/-! ### Memories -/

/-- SRAM whose content the spec gives no layout for: the drive buffers, the symbol cache, the saggar. -/
def sramUnlaid (a : Nat) : Bool :=
  decide (0x00600000 ≤ a ∧ a < 0x00900000) || decide (0x00C00000 ≤ a ∧ a < 0x01000000) || decide (0x01640000 ≤ a ∧ a < 0x016C0000)

/-- Always-on memory likewise: lock-out record, elapsed-time state, equivalent hours, firmware state. -/
def aonUnlaid (a : Nat) : Bool :=
  decide (0x10004100 ≤ a ∧ a < 0x10004300) || decide (0x10004400 ≤ a ∧ a < 0x10010000)

/-- NVM likewise: resident loader, settings store, safety parameter store, epoch, lock-out record; header, repair record, defect event list
and a written scratch descriptor of the calibration store; and an image as delivered. -/
def State.nvmUnlaid (s : State) (a : Nat) : Bool :=
  decide (a < 0x20040000) || decide (0x20540000 ≤ a ∧ a < 0x205D0000) || decide (0x205D3F00 ≤ a ∧ a < 0x205D8000)
    || decide (0x20600000 ≤ a ∧ a < 0x20601000) || decide (0x20606000 ≤ a ∧ a < 0x20608000) || decide (0x207C8000 ≤ a ∧ a < 0x207E8000)
    || (s.cal.scratch.isSome && decide (0x20605000 ≤ a ∧ a < 0x20606000))
    || [0, 1, 2].any (fun c => (s.core c).delivered && decide ((imageRegion c).1 + 256 ≤ a ∧ a < (imageRegion c).2))

/-- The image state word in force, or the header of an image as delivered, at an NVM address. -/
def State.nvmNamed (s : State) (a : Nat) : Option Byte :=
  [0, 1, 2].findSome? (fun c =>
    let x := s.core c
    let w := 0x205D0000 + 0x1000 * c + 0x800 * (x.seq % 2)
    let h := (imageRegion c).1
    if w ≤ a ∧ a < w + 64 then (x.bytes w)[a - w]?
    else if x.delivered ∧ h ≤ a ∧ a < h + 256 then (deliveredHeader c)[a - h]? else none)

/-- A bank of SRAM is powered. -/
def State.bankOn (s : State) (bank : Nat) : Bool := s.get (bankField bank) == 2

/-- The place of an external flash window address in the devices fitted (R293); `none` beyond them or while device 0 cannot be
reached (R219, R290). -/
def State.flashPlace (s : State) (a : Nat) : Option Nat :=
  let page := s.get Reg.SYS_FLASH_PAGE.PAGE
  let off := page % 16 * 2 ^ 28 + (a - 0x80000000)
  if page < 16 then
    (if off < nth 0 s.lib.devices 0 ∧ !s.flag Reg.CMP_LIB_STATUS.RAM_STORE then some off else none)
  else if off < nth 0 s.lib.devices 1 then some (nth 0 s.lib.devices 0 + off) else none

/-- A byte of a memory region. -/
def State.memByte (s : State) (a : Nat) : Byte :=
  let free := byte (Config.unlaid a s.now)
  match region a with
  | some 0 => if sramUnlaid a || !s.bankOn (a / 2 ^ 20) then free else s.sramByte a
  | some 1 => if aonUnlaid a then free else Memory.read 0 s.aon a
  | some 2 => if s.nvmUnlaid a then free else (s.nvmNamed a).getD (byte (s.nvmByte a))
  | some 20 => match s.flashPlace a with
    | some o => Memory.read 0xFF s.flash o
    | none => 0
  | _ => 0

/-! ### Registers that follow the state -/

/-- The 32 bytes of an object entry (Table 6-2). -/
def ObjEntry.bytes (n : Nat) (e : ObjEntry) : List Byte :=
  let h := fun (z : Int) => le 2 (ofSigned 16 z)
  [byte n, byte e.type, byte (b2n e.angle + 2 * b2n e.perceptual + 4 * b2n e.mirrorH + 8 * b2n e.mirrorV + 16 * e.layer),
    byte e.margin, byte e.edge, byte 0] ++ le 2 e.fadeMs ++ h e.left ++ h e.right ++ h e.top ++ h e.bottom ++ h e.velH ++ h e.velV
    ++ le 2 e.obsAge ++ le 2 e.level ++ le 2 e.symbol ++ le 2 0 ++ le 4 e.tag

/-- The 32 bytes of a layer descriptor in the layout of Table 7-9; FLAGS and bytes 28 to 31 read 0. -/
def Layer.bytes (n : Nat) (l : Layer) : List Byte :=
  [byte n, byte 0, byte l.source, byte l.format, byte l.op, byte l.priority] ++ le 2 0 ++ le 2 l.colFirst ++ le 2 l.colLast
    ++ le 2 l.rowFirst ++ le 2 l.rowLast ++ le 2 l.bufOffset ++ le 2 (ofSigned 16 l.bufX) ++ le 2 (ofSigned 16 l.bufY)
    ++ le 2 l.bufW ++ le 2 l.bufH ++ le 2 l.level ++ le 4 0

/-- BEAM_CTX_STATEn (Table 6-18): state, type, fade progress and level of the last frame. -/
def State.ctxState (s : State) (n : Nat) : Nat :=
  match s.beam.front.ctxs.find n with
  | none => 0
  | some c =>
    let b := s.scan.frameStart
    let u := match s.beam.fades.find n with
      | some f => f.u b s.period
      | none => 4096
    let st := if c.releasing then 3 else if u < 4096 then 2 else 1
    st + 4 * (c.entry.type % 4) + 16 * min 4095 u + 65536 * (s.ctxLevel n b % 65536)

/-- A map of 32 contexts from 32k: those for which `p` holds. -/
def State.ctxMap (s : State) (k : Nat) (p : Ctx → Bool) : Nat :=
  (s.beam.front.ctxs.filter (fun (x : Nat × Ctx) => x.1 / 32 == k && p x.2)).foldl (fun m x => m ||| 2 ^ (x.1 % 32)) 0

/-- Whole milliseconds since an instant, saturating at 65,535; 65,535 when there was none. -/
def State.ageMs (s : State) (t : Option Nat) : Nat :=
  match t with
  | some t => min 65535 ((s.now - t) / 100000)
  | none => 65535

/-- SYS_STATE (Table 9-16). -/
def State.sysState (s : State) : Nat :=
  s.power + 8 * s.mode + 32 * s.id.lifecycle.code + 256 * s.position + 1024 * s.id.variant.code

/-- A word of the mirrors that are not single registers: FLT_KILN, STR_EFF_FRONT, BEAM_CTX_FRONT, BEAM_FIELD_NODES,
CMP_LAYER_FRONT, SAF_PARAM. -/
def State.mirrorWord (s : State) (a : Nat) : Option Nat :=
  if 0x40200100 ≤ a ∧ a < 0x40200200 then
    some (match s.flt.kiln.find? (fun e => e.slot == (a - 0x40200100) / 16) with
      | some e => leAt e.bytes (a % 16) 4
      | none => 0)
  else if 0x40910000 ≤ a ∧ a < 0x40920000 then some (Assoc.get 0 s.scan.effFront ((a - 0x40910000) / 4))
  else if 0x40610000 ≤ a ∧ a < 0x40611000 then
    let n := (a - 0x40610000) / 32
    some (match s.beam.front.ctxs.find n with
      | some c => leAt (c.entry.bytes n) (a % 32) 4
      | none => 0)
  else if 0x40612000 ≤ a ∧ a < 0x406124A4 then
    some (match s.beam.front.map with
      | some m => let z := m.nodes.getD ((a - 0x40612000) / 4) (0, 0); ofSigned 16 z.1 + 65536 * ofSigned 16 z.2
      | none => 0)
  else if 0x40701000 ≤ a ∧ a < 0x40701100 then
    let n := (a - 0x40701000) / 32
    some (leAt ((s.beam.front.layer n).bytes n) (a % 32) 4)
  else if 0x40C11000 ≤ a ∧ a < 0x40C11200 then some (leAt s.spBlock (a - 0x40C11000) 4)
  else none

/-- A word of a register whose fields follow the state at every instant. -/
def State.liveWord (s : State) (a : Nat) : Option Nat :=
  if a = 0x40000000 then some s.sysState
  else if a = 0x40100034 then some (s.time % 2 ^ 32)
  else if a = 0x40100038 then some (s.time / 2 ^ 32)
  else if a = 0x4010003C then
    some (s.quality + 4 * s.get Reg.PWR_TIME_STATUS.XTAL + 8 * s.get Reg.PWR_TIME_STATUS.SRC_CHANGE + 16 * b2n s.compFrozen + 65536 * s.epoch)
  else if a = 0x40100040 then some s.timeErr
  else if a = 0x4020000C then some s.irqCause
  else if a = 0x40200010 then some (s.faultFollow.regWord a)
  else if a = 0x40500018 then
    some (if s.follower then 0 else s.regWord a / 256 * 256 + memberBits 0 (leAt s.ownEntry 1 1))
  else if a = 0x41000000 ∧ s.follower then some 0
  else if a = 0x40400000 then some (s.linkFollow.regWord a)
  else if a = 0x40500014 then some (s.fwdFollow.regWord a)
  else if a = 0x40600008 then
    s.beam.baseFade.map (fun f => s.regWord a % 2 ^ 24 + 2 ^ 24 * min 255 (f.k s.scan.frameStart s.period / 16))
  else if a = 0x40600010 then some (s.ageMs s.beam.lastList)
  else if 0x40600040 ≤ a ∧ a < 0x40600050 then some (s.ctxMap ((a - 0x40600040) / 4) (fun _ => true))
  else if 0x40600050 ≤ a ∧ a < 0x40600060 then some (s.ctxMap ((a - 0x40600050) / 4) (fun c => c.releasing))
  else if 0x40611000 ≤ a ∧ a < 0x40611200 then some (s.ctxState ((a - 0x40611000) / 4))
  else if a = 0x40700010 then
    let bytes := (s.lib.resident.map (fun (x : Nat × Nat × Nat) => x.2.1)).foldl (fun x y => x + y) 0
    some (min 4096 ((bytes + 1023) / 1024) + 2 ^ 13 * min 8191 s.lib.resident.length)
  else if 0x40700040 ≤ a ∧ a < 0x40700060 then
    let n := (a - 0x40700040) / 4
    let k := (s.beam.front.ctxs.filter (fun (x : Nat × Ctx) => x.2.entry.type == 3 && x.2.entry.layer == n)).length
    some (s.regWord a + 16 * k)
  else if a = 0x40B00004 then some (s.diagFollow.regWord a)
  else if a = 0x40D0001C then some (s.regWord a % 65536 + 65536 * s.ageMs s.tmp.sweepAt)
  else if 0x40F00050 ≤ a ∧ a < 0x40F0005C then some (s.windowLeft ((a - 0x40F00050) / 4) % 2 ^ 32)
  else none

/-- The word at a register address before any latch; reserved addresses and WO fields read 0. -/
def State.registerWord (s : State) (a : Nat) : Nat :=
  match s.liveWord a with
  | some v => v
  | none => match s.mirrorWord a with
    | some v => v
    | none => s.word (((regFields a).getD []).filter (fun f => f.acc != .wo))

/-- Low words of 64-bit values (R550); the high word lies 4 above. -/
def lowWords : List Nat :=
  [0x40100034, 0x40100044, 0x4020002C, 0x40900014, 0x40A0000C, 0x40C00010, 0x40E00018, 0x40E00040, 0x40E00048, 0x40E00050,
   0x40E00058, 0x40E00060]

/-- The word at an address as the CP reads it. -/
def State.readWord (s : State) (a : Nat) : Nat :=
  match region a with
  | some r =>
    if 3 ≤ r ∧ r ≤ 19 then (if lowWords.contains (a - 4) then Assoc.get 0 s.latches a else s.registerWord a)
    else ofLe ((List.range 4).map (fun i => s.memByte (a + i)))
  | none => 0

/-- Reading a low word latches the high word (R550). -/
def State.latch (s : State) (a : Nat) : State :=
  if lowWords.contains a then { s with latches := Assoc.set 0 s.latches (a + 4) (s.registerWord (a + 4)) } else s

/-- Words read in increasing address order. -/
def State.readWords (s : State) : List Nat → List Nat × State
  | [] => ([], s)
  | a :: l =>
    let v := s.readWord a
    let (vs, s) := State.readWords (s.latch a) l
    (v :: vs, s)

/-- An access to a bank that is off powers it, within 120 µs (R453). -/
def State.wakeBank (s : State) (bank : Nat) : State :=
  if (s.power = 1 ∨ s.power = 2) ∧ s.isOff bank then
    (((s.wait (s.free % (us 120 + 1))).drawn).switch bank true).bump Reg.PWR_ONDEMAND_COUNT.COUNT Reg.PWR_STATE.CNT_SAT
  else s

/-- The banks of an access are powered. -/
def State.wakeBanks (s : State) (a n : Nat) : State :=
  if region a = some 0 then ([a / 2 ^ 20, (a + 4 * n - 4) / 2 ^ 20].eraseDups).foldl State.wakeBank s else s

/-! ### REG_READ (R290) -/

/-- A reply that carries ERR_ADDRESS (Table 9-11). -/
def errAt (s : State) (st : Status) (a : Nat) : Answer := ⟨st, le 2 0 ++ le 4 a, s⟩

/-- 0x0110 REG_READ. -/
def runRegRead (r : Req) (s : State) : Answer :=
  let a := leAt r.params 0 4
  let n := leAt r.params 4 2
  match accessFault a n 1012 with
  | some e => errAt s Status.badParam e
  | none =>
    if leAt r.params 6 2 ≠ 0 then errAt s Status.badParam a
    else match (if region a = some 20 then (wordsFrom a n).find? (fun x => (s.flashPlace x).isNone) else none) with
      | some e => errAt s Status.badState e
      | none =>
        let (vs, s) := (s.wakeBanks a n).readWords (wordsFrom a n)
        answer s (le 2 0 ++ le 4 a ++ vs.flatMap (le 4))

def opRegRead : Op := ⟨0x0110, exactly 8, runRegRead⟩
def execRegRead (r : Req) (s : State) : Host.Outcome State Fault Refusal := .next (s.command opRegRead r)

/-! ### REG_WRITE (R291) -/

/-- One word to be written. -/
structure WordWrite where
  addr : Nat
  mask : Nat
  value : Nat

/-- The words of a request (Table 9-12). -/
def wordWrites (p : List Byte) : List WordWrite :=
  let a := leAt p 0 4
  (List.range (leAt p 4 2)).map (fun i =>
    if bit (leAt p 6 1) 0 then ⟨a + 4 * i, leAt p (8 + 8 * i) 4, leAt p (12 + 8 * i) 4⟩
    else ⟨a + 4 * i, 0xFFFFFFFF, leAt p (8 + 4 * i) 4⟩)

/-- Bits that the write sets to 1: W1C and WO bits act where they are 1. -/
def WordWrite.acts (w : WordWrite) : Nat := w.value &&& w.mask

/-- (old AND NOT MASK) OR (VALUE AND MASK). -/
def WordWrite.over (w : WordWrite) (old : Nat) : Nat := (old &&& (0xFFFFFFFF ^^^ w.mask)) ||| w.acts

/-- The counters that CHK_CNT_CLEAR clears (R549): first address and number. -/
def clearableRuns : List (Nat × Nat) :=
  [(0x40000020, 5), (0x40100060, 5), (0x40200040, 6), (0x40300140, 16), (0x40400040, 14), (0x40500040, 6), (0x40600014, 4),
   (0x40700008, 2), (0x40700014, 2), (0x40700020, 2), (0x40800020, 4), (0x4080003C, 2), (0x40900030, 2), (0x40B00008, 9),
   (0x40D00020, 5), (0x40E000A0, 5), (0x40F00080, 1), (0x41000040, 21)]

/-- Counters that may not be cleared: wrapping, "From NVM" and SAF_ ones (R549). -/
def keptCounters : List Nat :=
  [0x40800018, 0x40B10014, 0x40200058, 0x40D0001C, 0x40500000, 0x4010003C, 0x40A00008, 0x40F00084, 0x40F00088, 0x40C00060, 0x40C00064,
   0x40C00068, 0x40C0006C, 0x40C00070, 0x40C00074]

def inRuns (runs : List (Nat × Nat)) (a : Nat) : Bool :=
  runs.any (fun r => decide (r.1 ≤ a ∧ a < r.1 + 4 * r.2) && (a - r.1) % 4 == 0)

/-- R549. -/
def clearStatus (a : Nat) : Status :=
  if keptCounters.contains a then Status.notPermitted else if inRuns clearableRuns a then Status.ok else Status.badParam

/-- A number lies outside a range. -/
def outside (lo hi v : Nat) : Bool := decide (v < lo ∨ hi < v)

/-- The writable fields of HST_CTRL on this variant. -/
def State.hstEnables (s : State) (word : Nat) : Nat :=
  bits word 0 4 - (match s.id.variant with | .aw => 8 * bits word 3 1 | .iw => 2 * bits word 1 1)

/-- A write to an HST_ register that R321 refuses; `after` gives what each register would hold once the whole write is made. -/
def State.hstBad (s : State) (after : Nat → Nat) (a : Nat) : Bool :=
  let ide := bit (after 0x41000008) 0
  let rx := after 0x4100000C % 2 ^ 29
  let tx := after 0x41000010 % 2 ^ 29
  if a = 0x41000000 then !s.follower && s.hstEnables (after a) == 0
  else if a = 0x41000008 then decide (4 < bits (after a) 1 3) || (!ide && decide (0x7FF < rx ∨ 0x7FF < tx))
  else if a = 0x4100000C ∨ a = 0x41000010 then (!ide && decide (0x7FF < after a % 2 ^ 29)) || rx == tx
  else if a = 0x41000018 then
    outside 0 31 (bits (after a) 8 8) || outside 1 32 (bits (after a) 16 8) || bits (after a) 24 8 == 0
  else if a = 0x4100001C then outside 0 15 (bits (after a) 0 8) || bits (after a) 8 8 == 0
  else false

/-- The status of one word of a register region. -/
def State.registerStatus (s : State) (after : Nat → Nat) (w : WordWrite) : Status :=
  let a := w.addr
  let v := after a
  let bad := fun (b : Bool) => if b then Status.badParam else Status.ok
  if 0x40C00000 ≤ a ∧ a < 0x40D00000 then Status.notPermitted
  else if 0x40300000 ≤ a ∧ a < 0x40300100 then (if [0, 8, 12, 16, 20].contains (a % 64) then Status.notPermitted else Status.ok)
  else if a = 0x40300104 then (if w.mask = 0 then Status.ok else clearStatus w.acts)
  else if a = 0x40800004 then (if s.power ≠ 2 then Status.badState else bad (outside 60 120 (v % 128)))
  else if a = 0x40B00000 then
    (if s.id.lifecycle = .manufacture ∨ s.id.lifecycle = .service then Status.ok else Status.notPermitted)
  else if a = 0x40E00000 then
    (if v % 2 ≠ s.get Reg.BST_CTRL.STARTUP_LBIST_EN ∧ s.id.lifecycle ≠ .manufacture then Status.notPermitted else Status.ok)
  else if a = 0x40600000 then bad (outside 0 200 (v % 256))
  else if a = 0x40A00000 then bad (outside 10 255 (bits v 8 8))
  else if a = 0x4090002C then
    bad (outside 1 255 (bits v 0 8) || outside 0 100 (bits v 8 8) || outside 8 255 (bits v 16 8) || outside 60 200 (bits v 24 8))
  else if a = 0x40F00000 then bad (outside 1 1440 (v % 2048))
  else if 0x41000000 ≤ a ∧ a < 0x41100000 then bad (s.hstBad after a)
  else Status.ok

/-- What a word holds once the whole write is made, for the words the write names; the present word for the others. -/
def State.afterWrite (s : State) (ws : List WordWrite) (a : Nat) : Nat :=
  match ws.find? (fun w => w.addr == a) with
  | some w => w.over (s.registerWord a)
  | none => s.registerWord a

/-- The layer buffer area (R202). -/
def inLayers (a : Nat) : Bool := decide (0x01000000 ≤ a ∧ a < 0x01400000)

/-- The status of one word (R291). -/
def State.wordStatus (s : State) (ws : List WordWrite) (w : WordWrite) : Status :=
  match region w.addr with
  | some 0 => if inLayers w.addr then s.layerWriteStatus (ws.map (·.addr)) else Status.notPermitted
  | some r => if 3 ≤ r ∧ r ≤ 19 then s.registerStatus (s.afterWrite ws) w else Status.notPermitted
  | none => Status.badParam

/-- Fields of a register written: RW fields take the word, W1C bits are cleared where the write holds 1. -/
def State.writeField (s : State) (v acts : Nat) (f : Field) : State :=
  match f.acc with
  | .rw => s.set f (bits v f.lo f.width)
  | .w1c => s.set f (s.get f ^^^ (s.get f &&& bits acts f.lo f.width))
  | _ => s

/-- The bus an HST_ register belongs to, by its command-in ring; HST_CTRL belongs to each of its bits. -/
def hstRing (a : Nat) : Option Nat :=
  if a = 0x41000004 then some 0
  else if a = 0x41000008 ∨ a = 0x4100000C ∨ a = 0x41000010 then some 1
  else if a = 0x41000018 ∨ a = 0x4100001C then some 2
  else none

/-- A word of an HST_ register: a change of the bus that carried the request waits until its reply has left (R321). -/
def State.writeHst (s : State) (r : Req) (a v : Nat) : State :=
  if a = 0x41000000 ∧ s.follower then s else
  let wait := fun (s : State) => s.setBus { s.bus with deferred := s.bus.deferred ++ [(r.ring, r.seq, a, v)] }
  if a = 0x41000000 ∧ r.reply ∧ r.ring < 4 then
    let own := s.hstEnables (s.regWord a) / 2 ^ r.ring % 2
    let now := v - bits v r.ring 1 * 2 ^ r.ring + own * 2 ^ r.ring
    if bits v r.ring 1 = own then s.setHstWord a v else wait (s.setHstWord a now)
  else if r.reply ∧ hstRing a = some r.ring then wait s
  else s.setHstWord a v

/-- One word of a register region written. -/
def State.writeRegister (s : State) (r : Req) (w : WordWrite) : State :=
  let a := w.addr
  let v := w.over (s.registerWord a)
  if a = 0x40300104 then
    (if w.mask = 0 then s else ((regFields w.acts).getD []).foldl (fun (s : State) f => s.set f 0) s)
  else if a = 0x40000010 then (if s.follower then s else s.set Reg.SYS_EVENT_ROUTE.ROUTE (v &&& 0x17))
  else if a = 0x4010002C then
    let s := s.set Reg.PWR_MEAS_CTRL.SUPPLY (v % 4)
    if bit w.acts 8 then s.measStart else s
  else if (hstRing a).isSome ∨ a = 0x41000000 then s.writeHst r a v
  else
    let s := ((regFields a).getD []).foldl (fun (s : State) f => s.writeField v w.acts f) s
    if a = 0x40900000 then s.vtrackFollow else s

/-- One word written. -/
def State.writeWord32 (s : State) (r : Req) (w : WordWrite) : State :=
  match region w.addr with
  | some 0 =>
    let v := w.over (ofLe (s.sramRun w.addr 4))
    { s with sram := Memory.writeN 0 s.sram w.addr ((le 4 v).mapIdx (fun i b => b ^^^ byte (sramBlank (w.addr + i)))) }
  | _ => s.writeRegister r w

/-- 8 + 4 × COUNT bytes, or 8 + 8 × COUNT with MASKED. -/
def regWriteLen (p : List Byte) : Bool :=
  decide (8 ≤ p.length) && p.length == 8 + (if bit (leAt p 6 1) 0 then 8 else 4) * leAt p 4 2

/-- 0x0111 REG_WRITE: every word is checked before any is written; a write with a word in the layer buffer area is judged as a whole (R202). -/
def runRegWrite (r : Req) (s : State) : Answer :=
  let p := r.params
  let a := leAt p 0 4
  let n := leAt p 4 2
  match accessFault a n (if bit (leAt p 6 1) 0 then 506 else 1012) with
  | some e => errAt s Status.badParam e
  | none =>
    if 1 < leAt p 6 1 ∨ leAt p 7 1 ≠ 0 then errAt s Status.badParam a
    else
      let ws := wordWrites p
      match (ws.find? (fun w => inLayers w.addr)).filter (fun _ => s.layerWriteStatus (ws.map (·.addr)) != Status.ok) with
      | some w => errAt s (s.layerWriteStatus (ws.map (·.addr))) w.addr
      | none =>
      match ws.find? (fun w => s.wordStatus ws w != Status.ok) with
      | some w => errAt s (s.wordStatus ws w) w.addr
      | none => accept (ws.foldl (fun (s : State) w => s.writeWord32 r w) (s.wakeBanks a n))

def opRegWrite : Op := ⟨0x0111, regWriteLen, runRegWrite⟩
def execRegWrite (r : Req) (s : State) : Host.Outcome State Fault Refusal := .next (s.command opRegWrite r)

/-- A request whose parameters are an unmasked REG_WRITE of words from an address. -/
def withWrite (a : Nat) (ws : List Nat) (r : Req) : Req :=
  { r with params := le 4 a ++ le 2 ws.length ++ [byte 0, byte 0] ++ ws.flatMap (le 4) }

/-- SCN_TICK_WRITE (R46). -/
def execScnTickWrite (r : Req) (value : Nat) (s : State) : Host.Outcome State Fault Refusal :=
  .next (s.command opRegWrite (withWrite 0x40800004 [value] r))

/-- DIAG_CTRL_WRITE (R147). -/
def execDiagCtrlWrite (r : Req) (value : Nat) (s : State) : Host.Outcome State Fault Refusal :=
  .next (s.command opRegWrite (withWrite 0x40B00000 [value] r))

/-- HST_REGISTER_WRITE (R321): the word `offset` of the HST_ region. -/
def execHstRegisterWrite (r : Req) (offset value : Nat) (s : State) : Host.Outcome State Fault Refusal :=
  .next (s.command opRegWrite (withWrite (0x41000000 + 4 * (offset % 2 ^ 18)) [value] r))

/-- LAYER_BUFFER_WRITE (R202): words from the word `offset` of the layer buffer area on. -/
def execLayerBufferWrite (r : Req) (offset : Nat) (words : List Nat) (s : State) : Host.Outcome State Fault Refusal :=
  .next (s.command opRegWrite (withWrite (0x01000000 + 4 * (offset % 2 ^ 20)) words r))

/-- CHK_CNT_CLEAR (R549). -/
def execChkCntClear (r : Req) (address : Nat) (s : State) : Host.Outcome State Fault Refusal :=
  .next (s.command opRegWrite (withWrite 0x40300104 [address] r))

/-- PWR_MEAS_START (R457): PWR_MEAS_CTRL written with START and a supply. -/
def execPwrMeasStart (r : Req) (supply : Nat) (s : State) : Host.Outcome State Fault Refusal :=
  .next (s.command opRegWrite (withWrite 0x4010002C [256 + supply % 4] r))

end Sys2Proof.Machine
end

