-- ==== Sys2Proof/Machine/Checks.lean ====
section
/-! DEFINITION. The check units and the clock-domain crossings (18_check_values_crossings_counters: R537 to R546). -/

namespace Sys2Proof.Machine

/-! ### Check units (Table 18-2) -/

/-- The owner of a unit runs: the MP owns units 0 and 3, the SP units 1 and 2. -/
def State.ownerUp (s : State) (n : Nat) : Bool := if n = 1 ∨ n = 2 then s.spUp else s.mpUp

/-- The width in bits of a CRC of CHK_CTRL.POLY. -/
def polyWidth (poly : Nat) : Nat := match poly with | 0 => 8 | 1 => 16 | _ => 32

/-- The CRC that POLY names. -/
def polyCrc (poly : Nat) (bs : List Byte) : Nat :=
  match poly with | 0 => crc8 bs | 1 => crc16 bs | 2 => crc32 bs | _ => crc32c bs

/-- A scan ends with an error code: RESULT and MATCH read 0 (R539, R540). -/
def State.scanError (s : State) (n code : Nat) : State :=
  (s.setChk { s.chk with scans := s.chk.scans.erase n }).setAll [(Reg.CHK_STATUS.BUSY n, 0), (Reg.CHK_STATUS.DONE n, 1),
    (Reg.CHK_STATUS.ERROR n, code), (Reg.CHK_RESULT.VALUE n, 0), (Reg.CHK_STATUS.MATCH n, 0)]

/-- A range leaves one region of Table 9-13, or is empty (R539). -/
def rangeBad (start len : Nat) : Bool := len == 0 || (region start).isNone || region (start + len - 1) != region start

/-- GO (R538): the unit latches its settings. -/
def State.checkGo (s : State) (n : Nat) : State :=
  let start := s.get (Reg.CHK_START.ADDRESS n)
  let len := s.get (Reg.CHK_LENGTH.BYTES n)
  if s.flag (Reg.CHK_STATUS.BUSY n) then s.set (Reg.CHK_STATUS.GO_LOST n) 1
  else if rangeBad start len then s.scanError n 1
  else
    let c : CheckScan :=
      { at_ := s.now, start := start, len := len, poly := s.get (Reg.CHK_CTRL.POLY n)
        fold := if s.flag (Reg.CHK_CTRL.FOLD_EN n) then some (s.get (Reg.CHK_FOLD.FOLD n)) else none
        compare := s.flag (Reg.CHK_CTRL.COMPARE n), expect := s.get (Reg.CHK_EXPECT.VALUE n) }
    (s.setChk { s.chk with scans := s.chk.scans.insert n c }).set (Reg.CHK_STATUS.BUSY n) 1

/-- ABORT (R540): the scan stops within 16 cycles of the unit's clock. -/
def State.checkAbort (s : State) (n : Nat) : State :=
  if s.flag (Reg.CHK_STATUS.BUSY n) then ((s.wait (s.free % 17)).drawn).scanError n 5 else s

/-- CHK_GO (R537, R538, R540): the owner sets the unit's registers and writes 1 to GO; with ABORT in the same write, the ABORT
acts and the GO is ignored. -/
def execChkGo (unit_ poly : Nat) (foldEn compare : Bool) (start len fold expect : Nat) (abort : Bool) (s : State) :
    Host.Outcome State Fault Refusal :=
  if unit_ < 4 ∧ s.ownerUp unit_ then
    let s := s.setAll [(Reg.CHK_START.ADDRESS unit_, start), (Reg.CHK_LENGTH.BYTES unit_, len), (Reg.CHK_FOLD.FOLD unit_, fold),
      (Reg.CHK_EXPECT.VALUE unit_, expect), (Reg.CHK_CTRL.POLY unit_, poly), (Reg.CHK_CTRL.FOLD_EN unit_, b2n foldEn),
      (Reg.CHK_CTRL.COMPARE unit_, b2n compare)]
    .next (if abort then s.checkAbort unit_ else s.checkGo unit_)
  else .next s

/-- CHK_ABORT (R540). -/
def execChkAbort (unit_ : Nat) (s : State) : Host.Outcome State Fault Refusal :=
  if unit_ < 4 ∧ s.ownerUp unit_ then .next (s.checkAbort unit_) else .next s

/-- A byte as a check unit reads it; its external flash reads use the internal page, which the spec does not give. -/
def State.scanByte (s : State) (a : Nat) : Byte :=
  match region a with
  | some 20 => byte (Config.unlaid a s.now)
  | some r => if 3 ≤ r then byte (s.registerWord (a / 4 * 4) / 256 ^ (a % 4)) else s.memByte a
  | none => 0

/-- The first address of a scan that lies in a bank that is off (R539). -/
def State.offAddress (s : State) (c : CheckScan) : Option Nat :=
  if region c.start = some 0 then
    let banks := (List.range 32).filter (fun b => decide (c.start / 2 ^ 20 ≤ b ∧ b ≤ (c.start + c.len - 1) / 2 ^ 20))
    (banks.find? (fun b => !s.bankOn b)).map (fun b => max c.start (b * 2 ^ 20))
  else none

/-- The time of a scan in base cycles (R538): 16 bytes in 2 ns in SRAM, 8 bytes in 10 ns in the NVM window; no rate is given
for the rest. -/
def State.scanTime (s : State) (c : CheckScan) : Nat :=
  match region c.start with
  | some 0 => ((c.len + 15) / 16 + 4) / 5
  | some 2 => (c.len + 7) / 8
  | _ => s.free

/-- Where a scan stops: 2 BUS, 3 UNCORR or 4 DOMAIN_OFF and the address, the lowest first. -/
def State.scanStop (s : State) (c : CheckScan) (stop : Option ScanStop) : Option (Nat × Nat) :=
  let given := match stop with
    | some (.bus a) => if c.start ≤ a ∧ a < c.start + c.len then some (2, a) else none
    | some (.uncorr a) => if region c.start = some 0 ∧ c.start ≤ a ∧ a < c.start + c.len then some (3, a) else none
    | none => none
  match given, s.offAddress c with
  | some x, some o => if o ≤ x.2 then some (4, o) else some x
  | none, some o => some (4, o)
  | x, none => x

/-- Corrected errors are raised and the scan goes on (R539); a scan of CHK0 also notes each row with one, once (R122). -/
def State.scanCorrected (s : State) (n : Nat) (c : CheckScan) (last : Nat) (l : List Nat) : State :=
  let seen := l.filter (fun a => decide (c.start ≤ a ∧ a < last) && region a == some 0)
  let s := if n = 0 then ((seen.map (· / 1024)).eraseDups).foldl State.correctedRow s else s
  seen.foldl (fun s a => s.takeFaultIn ⟨Src.sramCorr, a, 7, 3⟩) s

/-- The result of a whole scan, with an armed injection XORed in (R541). -/
def State.scanResult (s : State) (n : Nat) (c : CheckScan) : State :=
  let data := (List.range c.len).map (fun i => s.scanByte (c.start + i))
  let plain := polyCrc c.poly (match c.fold with | some f => le 4 f ++ data | none => data)
  let v := if s.armed (0x20 + n) then plain ^^^ (2 ^ polyWidth c.poly - 1) else plain
  let s := (s.injectAt (0x20 + n)).setChk { (s.injectAt (0x20 + n)).chk with scans := s.chk.scans.erase n }
  s.setAll [(Reg.CHK_STATUS.BUSY n, 0), (Reg.CHK_STATUS.DONE n, 1), (Reg.CHK_STATUS.ERROR n, 0), (Reg.CHK_RESULT.VALUE n, v),
    (Reg.CHK_STATUS.MATCH n, b2n (c.compare && v == c.expect))]

/-- CHK_SCAN_DONE (R538, R539, R541): addresses with a corrected error, and what stops the scan early. -/
def execChkScanDone (unit_ : Nat) (corrected : List Nat) (stop : Option ScanStop) (s : State) : Host.Outcome State Fault Refusal :=
  match s.chk.scans.find unit_ with
  | none => .next s
  | some c =>
    let s := (s.until (c.at_ + s.scanTime c)).drawn
    match s.scanStop c stop with
    | none => .next ((s.scanCorrected unit_ c (c.start + c.len) corrected).scanResult unit_ c)
    | some (code, a) =>
      let s := (s.scanCorrected unit_ c a corrected).scanError unit_ code
      .next (if code = 3 then s.takeFaultIn ⟨Src.sramUncorr, a, 7, 3⟩ else s.fault Src.busError a 7 3)

/-! ### Crossings (Table 18-3, R543 to R546) -/

/-- Items in flight of a crossing discarded and counted (R545). -/
def State.flushItems (s : State) (x items : Nat) : State :=
  let had := (s.chk.resets.find x).getD 0
  (s.bumpBy (Reg.CHK_XING_FLUSH.COUNT x) Reg.CHK_FLAGS.CNT_SAT items).setChk
    { (s.bumpBy (Reg.CHK_XING_FLUSH.COUNT x) Reg.CHK_FLAGS.CNT_SAT items).chk with resets := s.chk.resets.insert x (had + items) }

/-- Both sides of a crossing are powered. -/
def State.crossingPowered (s : State) (x : Nat) : Bool :=
  let d := crossingDomains x
  decide (x < 16) && (s.get Reg.PWR_DOMAIN.ON &&& d) == d && s.phase != .dark

/-- Both sides of a crossing are powered and out of reset. -/
def State.crossingRuns (s : State) (x : Nat) : Bool := s.crossingPowered x && (s.chk.resets.find x).isNone

/-- CROSSING_STALL (R546): a sender or a handshake of a crossing waited for some base cycles; 1.8 ms or less is never a fault,
2.2 ms always is; `items` in flight are discarded as both sides are reset. -/
def execCrossingStall (crossing waited items : Nat) (s : State) : Host.Outcome State Fault Refusal :=
  if s.crossingRuns crossing ∧ crossing ≠ 11 ∧ crossing ≠ 13 then
    let s := s.wait waited
    if band 546 s.now (us 1800) (us 2200) waited then
      let s := (s.resetCrossings [crossing]).flushItems crossing items
      let s := s.set Reg.CHK_XING_STALL.MAP (s.get Reg.CHK_XING_STALL.MAP ||| 2 ^ crossing)
      .next (s.fault Src.crossingOverrun crossing 15 5)
    else .next s
  else .next s

/-- CROSSING_RESET_DONE (R545): each side has seen the reset-done of the other; `items` more were discarded meanwhile. A rise of
the flush count raises CROSSING_FLUSH. -/
def execCrossingResetDone (crossing items : Nat) (s : State) : Host.Outcome State Fault Refusal :=
  match s.chk.resets.find crossing with
  | none => .next s
  | some _ =>
    if !s.crossingPowered crossing then .next s
    else
    let s := s.flushItems crossing items
    let rose := (s.chk.resets.find crossing).getD 0 != 0
    let s := s.setChk { s.chk with resets := s.chk.resets.erase crossing, pulses := if crossing = 10 then 0 else s.chk.pulses }
    .next (if rose then s.fault Src.crossingFlush crossing 15 5 else s)

end Sys2Proof.Machine
end

