-- ==== Sys2Proof/Machine/Startup.lean ====
section
/-! DEFINITION. The start of the module (R11, R12, R33 to R35, R41, R42, Table 1-10) and the end of a wake (R446, R447). -/

namespace Sys2Proof.Machine

/-! ### VAUX and the controller's leaving reset -/

/-- The variant's defaults, while no settings record was ever written. -/
def State.variantDefaults (s : State) : State := if s.saved.written then s else s.variantValues

/-- VAUX stands high enough for PD0 and PD12 to leave reset: above its reset band, and after a monitor reset above its warning
band for 1 ms (R455). -/
def State.vauxGood (s : State) (mv : Nat) : Bool :=
  decide ((if s.pwr.heldReset = 3 then (warnBand 3).2 else (resetBand 3).2) < mv)

/-- POWER_UP (R41, Table 1-10): VAUX rises to a level in mV. -/
def execPowerUp (mv : Nat) (s : State) : Host.Outcome State Fault Refusal :=
  if s.phase = .dark ∧ s.vauxGood mv then
    let s := (if s.pwr.heldReset = 3 then s.wait (ms 1) else s).setSupply 3 mv
    let s := { s with phase := .alwaysOn, clk := { s.clk with start := s.now, errAt := s.now }, pwr := s.freshPower }
    .next ((s.setKs { s.ks with armAt := some s.now }).variantDefaults).judge
  else .next s

/-- The straps as sampled (R12, R322; a follower ignores BOOT_MODE, R324), and what depends on them: CAS_STATUS, SYS_EVENT_ROUTE and the cascade wake source. -/
def State.sampleStraps (s : State) (bootMode : Bool) (role : Nat) : State :=
  let was := s.follower
  let s := { s with id := { s.id with role := role % 4, legacy := bootMode && role % 4 == 0 }, pads := { s.pads with bootMode := bootMode, role := role % 4 } }
  let s := if !s.clk.epochDone ∨ was ≠ s.follower then s.set Reg.SYS_EVENT_ROUTE.ROUTE s.routeReset else s
  let s := if s.saved.written then s else s.roleValue
  s.setAll [(Reg.CAS_STATUS.POSITION, s.id.role), (Reg.CAS_STATUS.FOLLOWER, b2n s.follower)]

/-- At its first start after VAUX came, the MP reads the epoch, adds 1 and publishes it (R462). -/
def State.publishEpoch (s : State) : State :=
  if s.clk.epochDone then s
  else
    let e := (s.clk.epochStored + 1) % 65536
    ({ s with clk := { s.clk with epochStored := e, epochDone := true } }).set Reg.PWR_TIME_STATUS.EPOCH e

/-- VCORE and VANA let the controller leave reset: above their reset bands, and the one that reset it above its warning band
(R455). -/
def State.coreGood (s : State) (vcore vana : Nat) : Bool :=
  let need := fun (n : Nat) => if s.pwr.heldReset = n then (warnBand n).2 else (resetBand n).2
  decide (need 1 < vcore) && decide (need 2 < vana)

/-- CONTROLLER_RESET_RELEASE (R12, R33, R421, R557): the levels of the straps, of TEST_EN, of REFCLK_IN (present or not), of
VCORE and of VANA in mV. The loader starts, in pulse mode; a reset by SYS_RESET of scope MODULE samples no strap (R288). -/
def execControllerResetRelease (bootMode : Bool) (role : Nat) (testEn refclk : Bool) (vcore vana : Nat) (s : State) :
    Host.Outcome State Fault Refusal :=
  if s.phase = .alwaysOn ∧ s.coreGood vcore vana then
    let s := ((s.until s.pwr.heldUntil).setSupply 1 vcore).setSupply 2 vana
    let s := if s.pwr.keepStraps then s else s.sampleStraps bootMode role
    let s := s.loadNvm.publishEpoch.countOn
    let held := s.pwr.heldReset
    let s := { s with
      phase := .loader, mpUp := true, pads := { s.pads with testEn := testEn, refclk := refclk }
      id := { s.id with testEn := testEn, lcNonce := s.free % 2 ^ 32 } }.drawn
    let s := (s.setPwr { s.pwr with heldReset := 0, keepStraps := false }).set Reg.SAF_CUTOFF.SET (b2n (Block.cutoffEn s.spBlock))
    let s := (s.startWindow).pulseMode true
    let s := if refclk then s else s.fault Src.refclkMissing 0 2 4
    let s := if held = 1 ∨ held = 2 then s.fault Src.supplyReset held 2 4 else s
    let s := if testEn then s.lockoutCause 0x18 67 1 else s
    .next s.reportWaiting.vtrackFollow
  else .next s

/-! ### The calibration store at start (R104 to R106, R127) -/

/-- The scratch block at start (R105): copied home when it is valid and the home block fails its CRC; then erased. -/
def State.recoverScratch (s : State) : State :=
  match s.cal.scratch with
  | none => s
  | some x =>
    let bs := (List.range (blockPlace x.block).2).map (fun i => s.nvmByte (0x207E8000 + i))
    (if x.valid ∧ blockCrc x.block bs = x.crc ∧ s.blockFails x.block then s.writeBlock x.block bs else s).eraseScratch

/-- A lost block takes the defaults of Table 4-3, with CAL_BLOCK_DEFAULT. -/
def State.defaultBlock (s : State) (kind t : Nat) : State :=
  let p := blockPlace (256 * kind + t)
  let a := min 15 (tileAge (Assoc.get 0 s.cal.et t))
  let s := if kind = 0 then s.nvmStore (0x20601000 + 64 * t) ((List.replicate 16 [0x80, 0x80, 0x80, 0x50]).flatten) else s
  let s := s.nvmStore p.1 (List.replicate p.2 (if kind = 2 then 17 * a else 0))
  let s := s.setCal { s.cal with bad := ((256 * kind + t) :: s.cal.bad).eraseDups }
  s.fault Src.calBlockDefault (256 * kind + t) 2 4

/-- One lost block is restored from the backup, or defaulted (R105). -/
def State.recoverBlock (s : State) (readable : Bool) (k : Nat) : State :=
  let kind := k / 256
  let t := k % 256
  if 2 < kind then s
  else
    match (if s.flashFitted && readable then s.goodBackup else none) with
    | none => (if s.flashFitted && readable then s.entryRead 4 0 s.backupEntry else s).defaultBlock kind t
    | some e =>
      let s := if kind = 0 then s.nvmStore (0x20601000 + 64 * t) (s.backupBytes e (0x20601000 + 64 * t) 64) else s
      s.writeBlock k (s.backupBytes e (blockPlace k).1 (blockPlace k).2)

/-- The counts and limits of the calibration store as loaded (Table 4-13, R120). -/
def State.countStore (s : State) : State :=
  (s.setCal { s.cal with clips := ((List.range 256).map (fun t => (t, s.tileClips [] [] t))).filter (fun p => p.2 != 0) }).countSites.checkLimits

/-- SEL and BYP of every site from the defect state of the store (R73, Table 14-8); those of strings that the limp plane lights wait (R74). -/
def State.loadLatches (s : State) : State :=
  let pick := fun (st : Nat) (old : NMap) => (List.range 1048576).filterMap (fun i =>
    if (if s.limpLit (stringOf i) then Assoc.get 0 old i == 1 else s.storeState i == st) then some (i, 1) else none)
  let late := (List.range 1048576).filter (fun i => s.limpLit (stringOf i)
    && (Assoc.get 0 s.scan.sel i != b2n (s.storeState i == 2) || Assoc.get 0 s.scan.byp i != b2n (s.storeState i == 3)))
  s.setScan { s.scan with sel := pick 2 s.scan.sel, byp := pick 3 s.scan.byp, late := late }

/-- Class efficacy tables of every tile for the published estimates (R124); a bad table is not used (R84). -/
def State.loadEfficacy (s : State) : State :=
  (List.range 256).foldl (fun (s : State) t =>
    let th := s.get (Reg.TMP_TILE.THETA t)
    let w := s.cal.table (toSigned 16 th)
    if tableBad w then s
    else
      let front := (w.mapIdx (fun k x => (64 * t + k + 1, x))).foldl (fun (m : NMap) (p : Nat × Nat) => Assoc.set 0 m p.1 p.2) s.scan.effFront
      (s.setScan { s.scan with effFront := front }).setCal { s.cal with effTheta := Assoc.set 0 s.cal.effTheta t th }) s

/-- Calibration, defect state and the map-out mask loaded: `lost` names the home blocks that fail and have no valid scratch block,
as kind × 256 + tile; those defaulted before stay lost. LAST_RESULT tells of a cut write (R127). -/
def State.loadCalibration (s : State) (lost : List Nat) (readable : Bool) : State :=
  let s := if s.cal.incomplete then (s.setCal { s.cal with incomplete := false }).set Reg.CAL_STATUS.LAST_RESULT 4 else s
  let s := s.recoverScratch
  let s := ((lost ++ s.cal.bad).eraseDups).foldl (fun (s : State) k => s.recoverBlock readable k) s
  let s := (((((s.loadDefects 0).loadDefects 1).loadGains 0).loadGains 1).loadLatches).loadEfficacy
  s.countStore.rebuildMask

/-! ### The libraries at start (R212, R213, R219) -/

/-- The slots of the default directory (Tables 7-4 and 7-5). DESIGN CHOICE (notes/assumptions/77.md): the pattern library on device 1 is a
second slot of KIND 1. -/
def State.defaultSlots (s : State) : List Byte :=
  let slot := fun (k dev base size : Nat) => [byte k, byte dev] ++ le 2 0 ++ le 4 base ++ le 4 size ++ le 4 0
  let d := s.lib.devices
  let rows := [3, 4, 5, 6, 2].flatMap (fun k => slot k 0 (defaultBase k) (s.defaultSize k)) ++ slot 1 0 0x04010000 (d.headD 0 - 0x04010000)
    ++ (if 1 < d.length then slot 1 1 0 (nth 0 d 1) else [])
  rows ++ le (128 - rows.length) 0

/-- A directory copy at a device address. -/
def State.directoryCopy (s : State) (seq addr : Nat) : List Byte :=
  let b := le 4 seq ++ s.defaultSlots ++ List.replicate 3960 (byte 0xFF)
  b ++ le 4 (crc32cFold addr b)

/-- A container header (Table 7-6), but for its CHECK. -/
def Container.header (c : Container) (kind : Nat) : List Byte :=
  le 4 0x4F5A4E48 ++ le 2 1 ++ [byte kind, byte 0] ++ le 2 c.entryMax ++ le 2 0 ++ le 4 c.indexA ++ le 4 c.indexB ++ le 4 c.data ++ le 36 0

/-- The header of a container written (R213). -/
def State.writeHeader (s : State) (kind : Nat) : State :=
  let c := s.newContainer kind
  let b := c.header kind
  { s with flash := Memory.writeN 0xFF s.flash c.base (b ++ le 4 (crc32cFold (s.deviceAddr c.base) b)) }

/-- The device on XSPI_CS0_N is blank (R212): no byte of it was ever written. -/
def State.flashBlank (s : State) : Bool := !s.flash.any (fun p => decide (p.1 < s.lib.devices.headD 0))

/-- A blank device receives both copies of the default directory; the spec names no first SEQ. -/
def State.writeDirectory (s : State) : State :=
  if s.flashBlank then
    let n := s.free
    let flash := Memory.writeN 0xFF s.flash 0 (s.directoryCopy (n % 2 ^ 32) 0)
    let flash := Memory.writeN 0xFF flash 0x1000 (s.directoryCopy ((n + 1) % 2 ^ 32) 0x1000)
    ([1, 2, 3, 4, 5, 6].foldl State.writeHeader { s with flash := flash }).drawn
  else s

/-- A directory copy, where it holds its check. -/
def State.directoryAt (s : State) (addr : Nat) : Option (List Byte) :=
  let b := Memory.readN 0xFF s.flash addr 4096
  if leAt b 4092 4 = crc32cFold addr (b.take 4092) then some b else none

/-- The directory in use (R212): the valid copy with the higher SEQ. -/
def State.directory (s : State) : Option (List Byte) :=
  match s.directoryAt 0, s.directoryAt 0x1000 with
  | some a, some b => if seqNewer (leAt b 0 4) (leAt a 0 4) then some b else some a
  | some a, none => some a
  | none, some b => some b
  | none, none => none

/-- The slots of a kind in a directory: place in the flash memory, and size (Table 7-5). -/
def State.slotsOf (s : State) (dir : List Byte) (kind : Nat) : List (Nat × Nat) :=
  (List.range 8).filterMap (fun i =>
    let o := 4 + 16 * i
    let dev := leAt dir (o + 1) 1
    let size := leAt dir (o + 8) 4
    if leAt dir o 1 = kind then
      some ((if dev = 0 then 0 else s.lib.devices.headD 0) + leAt dir (o + 4) 4, if size = 0 then nth 0 s.lib.devices dev else size)
    else none)

/-- SEQ of an index copy, when it holds its check (R213). -/
def State.indexSeq (s : State) (c : Container) (copy : Nat) : Option Nat :=
  let b := s.indexBytes c copy
  let n := 32 * c.entryMax
  if leAt b (n + 12) 4 = crc32cFold (s.deviceAddr (c.indexAt copy)) (b.take (n + 12)) then some (leAt b n 4) else none

/-- A container with its valid index copy, the one of higher SEQ. -/
def State.withIndex (s : State) (c : Container) : Container :=
  match s.indexSeq c 0, s.indexSeq c 1 with
  | some a, some b => if seqNewer b a then { c with copy := 1, seq := b } else { c with copy := 0, seq := a }
  | some a, none => { c with copy := 0, seq := a }
  | none, some b => { c with copy := 1, seq := b }
  | none, none => { c with copy := 1, seq := 0 }

/-- The container of a kind: its place and size from the directory, its layout from its header (R212, R213). One without a valid header, or
without a slot, holds nothing (DESIGN CHOICE, notes/assumptions/77.md). -/
def State.findContainer (s : State) (dir : List Byte) (kind : Nat) : Container :=
  match s.slotsOf dir kind with
  | [] => { s.newContainer kind with size := 0 }
  | (base, size) :: rest =>
    let h := Memory.readN 0xFF s.flash base 64
    let c : Container := { s.newContainer kind with base := base, size := size + (rest.map (·.2)).sum }
    if leAt h 0 4 = 0x4F5A4E48 ∧ leAt h 6 1 = kind ∧ leAt h 60 4 = crc32cFold (s.deviceAddr base) (h.take 60) then
      s.withIndex { c with entryMax := leAt h 8 2, indexA := leAt h 12 4, indexB := leAt h 16 4, data := leAt h 20 4 }
    else { c with entryMax := 0 }

/-- The valid entries of a container (Table 7-7). -/
def State.readIndex (s : State) (c : Container) : Assoc (Option LibEntry) :=
  match s.indexSeq c c.copy with
  | none => []
  | some _ => (partEntries c.entryMax (s.indexBytes c c.copy)).foldl (fun (m : Assoc (Option LibEntry)) b =>
      if leAt b 2 1 = 1 then Assoc.set none m (leAt b 0 2) (some ⟨leAt b 4 4, leAt b 8 4, leAt b 12 4, leAt b 16 4⟩) else m) []

/-- CMP_LIB_STATUS after the search for devices. -/
def State.showLibrary (s : State) (found : Nat) (dir : Bool) : State :=
  s.setAll [(Reg.CMP_LIB_STATUS.FLASH, found), (Reg.CMP_LIB_STATUS.DIR_VALID, b2n dir), (Reg.CMP_LIB_STATUS.RAM_STORE, b2n (!dir)),
    (Reg.CMP_LIB_STATUS.PATTERNS, s.lib.patterns.length), (Reg.CMP_LIB_STATUS.SYMBOLS, s.lib.symbols.length), (Reg.CMP_LIB_STATUS.INSTALL, 0)]

/-- The libraries found at start, or the empty RAM store. -/
def State.loadLibraries (s : State) (readable : Bool) : State :=
  let s := if s.flashFitted && readable then s.writeDirectory else s
  match (if s.flashFitted && readable then s.directory else none) with
  | some dir =>
    let s := s.setLib { s.lib with containers := [1, 2, 3, 4, 5, 6].map (fun k => (k, s.findContainer dir k)) }
    let es := fun k => s.readIndex (s.container k)
    (s.setLib { s.lib with
      patterns := es 1, symbols := es 2, archive := es 3, exports := es 6, backups := es 4, install := none, resident := [] }).showLibrary
      s.lib.devices.length true
  | none =>
    (s.setLib { s.lib with patterns := [], symbols := [], archive := [], exports := [], backups := [], install := none, resident := [] }).showLibrary
      (if readable then s.lib.devices.length else 0) false

/-! ### The first boundary -/

/-- Meeting place 1 as the CP initialises it (R168, R196, R211, R312): no context, the layers of R196, the field map of the settings
record. -/
def State.initTables (s : State) : State :=
  let w := { Tables.initial with base := s.beam.work.base, map := s.saved.map }
  let s := (s.setBeam { s.beam with front := { s.beam.front with map := s.saved.map } }).setWork w
  ((s.showMap s.saved.map).legacyStart).daliStart

/-- What waits is committed, boundaries begin, and the first one with scan-out running brings it (R28, R47, R90). The CP's last commit
precedes it by 0.9 ms. -/
def State.firstBoundary (s : State) : State :=
  let s := s.commit.wait 90000
  let s := s.setScan { s.scan with running := true, inSlot := false, decision := none, loading := false, frameStart := s.now - s.period }
  (s.until s.nextBoundary).boundary

/-- The link and its policy as the settings record has them; the reference is always REFCLK_IN at start (R35, R260). PD4 has powered up
(R247). -/
def State.linkStart (s : State) : State :=
  (s.freshLanes.set Reg.LNK_STATUS.REF_FWD 0).linkEnable (bit (s.get Reg.LNK_POLICY.FLAGS) 0)

/-- The CP image and the MP image run. -/
def State.imagesRun (s : State) : Bool := !(s.core 0).running.isEmpty && !(s.core 1).running.isEmpty

/-- STARTUP_READY (R42, R105, R146, R196, R212, R295, R421, R471): the calibration blocks lost, and whether external flash can be
read. It needs the images, the reference clock (R33) and the sweep of R471. -/
def execStartupReady (lost : List Nat) (readable : Bool) (s : State) : Host.Outcome State Fault Refusal :=
  if s.phase = .cpBoot ∧ s.pwr.wake.isNone ∧ s.imagesRun ∧ s.mpUp ∧ s.pads.refclk ∧ s.tmp.published.isSome then
    let s := (s.loadLibraries readable).loadCalibration lost readable
    let s := { s with phase := .service, cpUp := true }.placeHeld
    let s := (((s.beamMirrors.initTables).linkStart).plcaFollow).pulseMode false
    let s := (s.firstBoundary).staleLoad
    .next ((s.setPower 2).powerEvent 1 2 0 0).spFollow
  else .next s

/-! ### The clocks (R34, R35) -/

/-- CLOCK_COMPARE_WINDOW (R34): the difference found over a 1 ms window, in 0.01 %. -/
def execClockCompareWindow (diff : Nat) (s : State) : Host.Outcome State Fault Refusal :=
  if s.spUp ∧ s.phase ≠ .dark ∧ s.phase ≠ .alwaysOn then
    let s := s.wait (ms 1)
    .next (if band 34 s.now 99 201 diff then s.fault Src.clockCompare diff 1 4 else s)
  else .next s

/-- FORWARDED_CLOCK_STOP (R35): PLL_MAIN is back on REFCLK_IN within 200 µs, and input loss is declared. -/
def execForwardedClockStop (s : State) : Host.Outcome State Fault Refusal :=
  if s.flag Reg.LNK_STATUS.REF_FWD then
    let s := (s.wait (s.free % (us 200 + 1))).drawn
    .next ((s.set Reg.LNK_STATUS.REF_FWD 0).fault Src.pllFallback 0 2 4).linkDown
  else .next s

/-! ### The end of a wake (R316, R445 to R447, Table 14-4) -/

/-- The base that the register image records, reselected with fade time 0 after SLEEP; a pattern that cannot be used leaves the base
DARK (R447). -/
def State.reselectBase (s : State) (readable : Bool) : State :=
  let old := s.beam.oldBase
  match old.source with
  | 1 => s.selectBase 1 0 0 false
  | 0 =>
    match Assoc.get none s.lib.patterns old.pattern with
    | none => s.beamEvent 3 0xFF old.pattern 0
    | some e =>
      if !readable then s.beamEvent 3 0xFF old.pattern 0
      else if s.patternGood e then
        (s.fillBuffer 0 old.pattern (s.entryBytes 1 e)).selectBase 0 old.pattern 0 false
      else (s.entryFailed 1 old.pattern e).beamEvent 2 0xFF old.pattern 0
  | _ => s

/-- SERVICE is reached (R445): PD1 and PD2 run, and the power state still reads STANDBY or SLEEP. -/
def State.reachService (s : State) (w : Wake) : State :=
  let s := (s.until (w.startAt + s.free % (ms (if w.origin = 3 then 3 else 40) + 1))).drawn
  let s := { s with phase := .service, cpUp := true }.placeHeld
  let s := s.setPwr { s.pwr with wake := none, serviceFrom := w.origin, servicePacket := s.now }
  (s.setAll [(Reg.PWR_STATE.SERVICE, 1), (Reg.PWR_STATE.WAKE, 0)]).irq 8

/-- The banks whose rebuild READY waits for (R446): gains and defect state. -/
def State.rebuildsLeft (s : State) : Bool := s.pwr.rebuilding.any (fun b => decide ((6 ≤ b ∧ b ≤ 11) ∨ (22 ≤ b ∧ b ≤ 25)))

/-- READY can be reached by a wake: from STANDBY once retention was checked and the cores run; from SLEEP once the images run. -/
def State.wakeRuns (s : State) (w : Wake) : Bool :=
  s.mpUp && s.tmp.published.isSome && (if w.origin = 3 then w.checked && s.cpUp && !s.rebuildsLeft
    else s.phase == .cpBoot && s.imagesRun)

/-- Latest time from the wake event to the first boundary (Table 14-4, R446). -/
def State.readyBound (s : State) (w : Wake) : Nat := (if w.origin = 3 then us 5500 else us 177500) + s.period - 250000

/-- READY is reached (R438, R446, R447, R471): the module dimmer is 4,096 again, and boundaries run. -/
def State.reachReady (s : State) (w : Wake) (lost : List Nat) (readable : Bool) : State :=
  let s := if w.origin = 3 then s
    else
      let s := (s.loadLibraries readable).loadCalibration lost readable
      let s := { s with phase := .service, cpUp := true }.placeHeld
      let s := s.setAll [(Reg.BEAM_STATUS.SOURCE, 2), (Reg.BEAM_STATUS.XFADE, 0), (Reg.BEAM_STATUS.LOADING, 0), (Reg.BEAM_STATUS.QUEUED, 0),
        (Reg.BEAM_STATUS.WATCH, 0)]
      (s.initTables.reselectBase readable).pulseMode false
  let s := (((s.setDimmer 4096 0).linkStart).plcaFollow).firstBoundary
  let s := if w.origin = 4 ∧ s.get Reg.BEAM_STATUS.SOURCE ≠ 1 then s.staleLoad else s
  ((s.setPower 2).setAll [(Reg.PWR_STATE.WAKE, w.target - 1), (Reg.PWR_STATE.SERVICE, 0)]).powerEvent 1 2 0 0

/-- A DALI frame that woke the module is executed if it is a command; a query gives no backward frame (R316). -/
def State.wakeFrame (s : State) : State :=
  match s.pwr.daliFrame with
  | none => s
  | some (addr, data) =>
    let s := s.setPwr { s.pwr with daliFrame := none }
    if addr % 2 = 1 ∧ 144 ≤ data ∧ data < 224 ∧ !(160 ≤ addr ∧ addr < 252) then s
    else
      let s := s.daliForward addr data
      s.setDali { s.bus.dali with backward := none }

/-- WAKE_DONE: the target is reached. -/
def State.wakeDone (s : State) : State :=
  ((s.setPwr { s.pwr with wake := none }).set Reg.PWR_STATE.WAKE 0).irq 8

/-- WAKE_TARGET_REACHED (R446): SERVICE, READY, or ACTIVE, which READY precedes; `lost` and `readable` as for STARTUP_READY. -/
def execWakeTargetReached (lost : List Nat) (readable : Bool) (s : State) : Host.Outcome State Fault Refusal :=
  match s.pwr.wake with
  | none => .next s
  | some w =>
    if w.target = 0 then
      if w.origin = 3 && !(s.mpUp && s.cpUp) || w.origin != 3 && !(s.phase == .cpBoot && s.imagesRun) then .next s else .next (s.reachService w)
    else if s.power = 1 then .next (s.wakeDone.wakeFrame)
    else if s.power = 2 then .next s
    else if s.wakeRuns w && s.pads.refclk then
      let s := (s.until (w.startAt + s.free % (s.readyBound w + 1))).drawn
      let s := s.reachReady w lost readable
      if w.target = 1 then .next (s.wakeDone.wakeFrame)
      else .next (s.setPwr { s.pwr with activePending := some s.now })
    else .next s

end Sys2Proof.Machine
end

