-- ==== Sys2Proof/Machine/System.lean ====
section
/-! DEFINITION. The system commands and the dispatch of packets from the command-in rings (09_command_protocol: R266 to R281,
R286 to R289). -/

namespace Sys2Proof.Machine

/-! ### SYS_IDENTIFY and SYS_STATUS (R286, R287) -/

/-- Version of the valid image of a core in NVM; 0 when there is none. -/
def State.imageVersion (s : State) (c : Nat) : Nat := if 2 ≤ (s.core c).state ∧ s.imageOk c then (s.core c).version else 0

/-- 0x0100 SYS_IDENTIFY (Table 9-7). -/
def runSysIdentify (_ : Req) (s : State) : Answer :=
  answer s ([byte s.id.variant.code, byte s.id.lifecycle.code] ++ le 8 s.id.serial ++ le 4 s.tag ++ le 6 s.id.mac
    ++ [byte s.position, byte (b2n s.id.legacy + 2 * b2n (s.mode == 2))] ++ le 2 0x0100 ++ le 2 (s.id.dieRevs % 4096) ++ le 4 s.id.loaderVer
    ++ le 4 (s.imageVersion 0) ++ le 4 (s.imageVersion 1) ++ le 4 (s.imageVersion 2) ++ le 4 s.id.lcNonce)

def opSysIdentify : Op := ⟨0x0100, exactly 0, runSysIdentify⟩
def execSysIdentify (r : Req) (s : State) : Host.Outcome State Fault Refusal := .next (s.command opSysIdentify r)

/-- SAFETY of Table 9-8. -/
def State.safetyByte (s : State) : Nat :=
  b2n s.lockedOut + 2 * s.get Reg.SAF_STATUS.COMMISSIONED + 4 * s.get Reg.STR_STATUS.LIMP_ENGAGED + 8 * s.get Reg.SAF_STATUS.SAFE_STATE

/-- 0x0101 SYS_STATUS (Table 9-8). -/
def runSysStatus (_ : Req) (s : State) : Answer :=
  answer s ([byte s.power, byte s.mode, byte s.id.lifecycle.code, byte s.safetyByte, byte (min 255 s.flt.uncleared.length),
      byte (s.get Reg.BEAM_STATUS.SOURCE + 4 * s.get Reg.BEAM_STATUS.WATCH), byte (s.get Reg.LNK_STATUS.INPUT),
      byte (s.get Reg.STR_POWER_LIMIT.LIMIT), byte (s.position + 4 * (if s.follower then 0 else min 3 s.casc.members.length)), byte 0]
    ++ le 4 (s.get Reg.SCN_FRAME_COUNT.COUNT) ++ le 8 s.time ++ [byte s.quality, byte 0] ++ le 2 s.epoch
    ++ le 4 (s.get Reg.SYS_RESET_CAUSE.CAUSE + 65536 * s.get Reg.SYS_RESET_CAUSE.COUNT))

def opSysStatus : Op := ⟨0x0101, exactly 0, runSysStatus⟩
def execSysStatus (r : Req) (s : State) : Host.Outcome State Fault Refusal := .next (s.command opSysStatus r)

/-! ### SYS_RESET (R288) -/

/-- 0x0102 SYS_RESET (Table 9-9): the SP drops PERMIT at once for scope MODULE (R358). -/
def runSysReset (r : Req) (s : State) : Answer :=
  let scope := leAt r.params 0 1
  let flags := leAt r.params 1 1
  if scope = 0 ∧ s.conducts ∧ !bit flags 0 then refuse s Status.badState
  else if 1 < scope ∨ 1 < flags ∨ leAt r.params 2 2 ≠ 0x5AA5 then refuse s Status.badParam
  else
    let s := if s.proto.resetDue.isSome then s else s.setProto { s.proto with resetDue := some (scope, s.now + ms 2) }
    accept (if scope = 0 then s.permitFall else s)

def opSysReset : Op := ⟨0x0102, exactly 4, runSysReset⟩
def execSysReset (r : Req) (s : State) : Host.Outcome State Fault Refusal := .next (s.command opSysReset r)

/-- The reset of scope MODULE: as by RESET_N, but it is none of the resets named in R12. -/
def State.moduleReset (s : State) : State :=
  let life := s.id.lifecycle
  let raised := s.lib.raised
  let s := s.controllerReset 5
  let s := { s with id := { s.id with lifecycle := life }, lib := { s.lib with raised := raised } }
  s.setPwr { s.pwr with keepStraps := true }

/-- The reset of scope COMMAND_CORE: the CP restarts from its image. -/
def State.commandReset (s : State) : State :=
  let s := s.cpRestart
  let s := (s.setCore 0 { s.core 0 with running := [] }).freshNonce
  s.setAll [(Reg.SYS_RESET_CAUSE.CAUSE, 6), (Reg.SYS_RESET_CAUSE.COUNT, min 65535 (s.get Reg.SYS_RESET_CAUSE.COUNT + 1))]

/-- SYS_RESET_BEGIN (R288): 2 ms after the reply entered its ring. -/
def execSysResetBegin (s : State) : Host.Outcome State Fault Refusal :=
  match s.proto.resetDue with
  | none => .next s
  | some (scope, t) =>
    let s := s.until t
    .next (if scope = 0 then s.moduleReset else s.commandReset)

/-! ### SYS_LIFECYCLE (R289) -/

/-- The transitions of R289. -/
def lifeStep (a b : LifeCycle) : Bool :=
  match a, b with
  | .blank, .manufacture => true
  | .manufacture, .field => true
  | .field, .service => true
  | .service, .field => true
  | .manufacture, .returned => true
  | .field, .returned => true
  | .service, .returned => true
  | _, _ => false

/-- The state a token leads to; `none` when it is refused (Table 9-10). The transition is judged on the state that OTP holds. -/
def State.tokenState (s : State) (p : List Byte) : Option LifeCycle :=
  let key := (p.drop 16).take 64
  match LifeCycle.ofCode (leAt p 0 1) with
  | none => none
  | some next_ =>
    if leAt p 1 3 = 0 ∧ leAt p 4 8 = s.id.serial ∧ leAt p 12 4 = s.id.lcNonce ∧ lifeStep s.id.nextLifecycle next_
        ∧ Config.sha256 key = s.id.lcKeyHash ∧ Config.ecdsaGood key (Config.sha256 (p.take 16)) ((p.drop 80).take 64) then some next_
    else none

/-- 0x0120 SYS_LIFECYCLE: LC_NONCE is new after every use of a token. -/
def runSysLifecycle (r : Req) (s : State) : Answer :=
  let s' := s.freshNonce
  match s.tokenState r.params with
  | none => refuse s' Status.badParam
  | some next_ => accept { s' with id := { s'.id with nextLifecycle := next_ } }

def opSysLifecycle : Op := ⟨0x0120, exactly 144, runSysLifecycle⟩
def execSysLifecycle (r : Req) (s : State) : Host.Outcome State Fault Refusal := .next (s.command opSysLifecycle r)

/-! ### The opcode map (R285) -/

/-- Every opcode of Table 9-6. -/
def opTable : List Op :=
  [opSysIdentify, opSysStatus, opSysReset, opRegRead, opRegWrite, opSysLifecycle, opSelectPattern, opObjectSet, opObjectClear, opObjectList,
   opFieldMap, opLayerConfig, opLayerEnable, opSymbolPlace, opFadeSet, opFlatten, opLinkStatus, opLinkTrain, opLinkPolicy]
  ++ [opSafetyStatus, opCommissionLoad, opCommissionConfirm, opSafetyResetArm, opSafetyResetConfirm, opFaultReadFirst, opFaultReadHistory,
   opFaultClear, opFaultInject, opFaultPolicy, opPowerState, opWakeConfig, opTimeGet, opTimeSet, opCalRun, opCalStatus, opDefectMapRead]
  ++ [opBistRun, opBistResult, opUpdateBegin, opUpdateData, opUpdateVerify, opUpdateActivate, opUpdateConfirm, opUpdateFallback,
   opUpdateStatus, opStoreRead, opStoreWrite, opInstall, opCascadeStatus, opCascadeMode, opSenseConfig, opSenseRead, opThermalStatus,
   opThermalPolicy]

/-- The opcode of a code, if it is a request of Table 9-6. -/
def opOf (code : Nat) : Option Op := opTable.find? (fun o => o.code == code)

/-! ### A packet's fields (Table 9-1) -/

namespace Packet
def opcode (p : Packet) : Nat := leAt p.bytes 0 2
def seq (p : Packet) : Nat := leAt p.bytes 2 1
def flags (p : Packet) : Nat := leAt p.bytes 3 1
def plen (p : Packet) : Nat := leAt p.bytes 4 2
def target (p : Packet) : Nat := leAt p.bytes 6 1
def params (p : Packet) : List Byte := (p.bytes.drop 8).take p.plen
def frag (p : Packet) : Bool := bit p.flags 1
def last (p : Packet) : Bool := bit p.flags 2
/-- A packet of group 0x05 (R276). -/
def safety (p : Packet) : Bool := p.opcode / 256 == 5
/-- The packet as a request of a ring. -/
def req (p : Packet) (ring : Nat) : Req := ⟨ring, p.seq, bit p.flags 0, p.target, p.params, 0⟩
/-- The trailer check. -/
def check (p : Packet) : Nat := leAt p.bytes (p.bytes.length - 2) 2
end Packet

/-- The fold word a packet's check was made with (R266). -/
def State.foldOf (s : State) (p : Packet) : Nat :=
  if p.opcode = 0x0100 ∧ !framed s.tag p.bytes ∧ framed 0 p.bytes then 0 else s.tag

/-- Steps 1 and 2 of R268. -/
def State.headerStatus (s : State) (p : Packet) : Option Status :=
  if (opOf p.opcode).isNone then some Status.badOpcode
  else if !s.targetOk p.target ∨ 8 ≤ p.flags ∨ leAt p.bytes 7 1 ≠ 0 ∨ (p.last ∧ !p.frag) then some Status.badParam
  else none

/-- A refusal sent. -/
def State.sendRefusal (s : State) (tag code : Nat) (r : Req) (st : Status) : State :=
  ((refuse s st).place tag ⟨code, fun _ => true, fun _ s => accept s⟩ r).countErr (replies s r st) st

/-- A packet is executed (R274): it passed framing and was taken from its ring. -/
def State.countPacket (s : State) : State := s.bump Reg.SYS_CMD_COUNT.COUNT Reg.SYS_FLAGS.CNT_SAT

/-- A request refused before it reaches its handler: counted, and answered in the entry kept free for it (R281). -/
def State.refuseRequest (s : State) (tag code : Nat) (r : Req) (st : Status) : State :=
  (((s.reserve (some (r.ring + 8, 1))).countPacket).reserve none).sendRefusal tag code r st

/-! ### Fragments (R277, R278) -/

def State.assemblyOf (s : State) (ring : Nat) : Option Assembly := Assoc.get none s.proto.assembly ring
def State.setAssembly (s : State) (ring : Nat) (a : Option Assembly) : State :=
  s.setProto { s.proto with assembly := Assoc.set none s.proto.assembly ring a }

/-- The assembly of a ring abandoned: counted, and answered BAD_LENGTH under the SEQ of its first fragment (R278); no event takes the
entry of that answer or the `own` entries that the reply of the packet being executed needs (R281). -/
def State.abandonAssembly (s : State) (ring own : Nat) : State :=
  match s.assemblyOf ring with
  | none => s
  | some a =>
    let s := ((s.setAssembly ring none).reserve (some (ring + 8, own + 1))).bump Reg.SYS_FRAG_ABANDON_COUNT.COUNT Reg.SYS_FLAGS.CNT_SAT
    let s := (s.reserve (some (ring + 8, own))).sendRefusal s.tag a.opcode ⟨ring, a.seq, true, a.target, [], 0⟩ Status.badLength
    s.reserve none

/-- An assembled request executed: REG_WRITE alone takes fragments. It is no duplicate of anything and is not kept (R274). -/
def State.runAssembled (s : State) (ring : Nat) (a : Assembly) (p : Packet) : State :=
  let r : Req := ⟨ring, a.seq, bit p.flags 0, a.target, a.params ++ p.params, 0⟩
  let s := s.setAssembly ring none
  if a.opcode = 0x0111 then
    let old := s.proto.history
    let s := s.commandAs s.tag opRegWrite r
    s.setProto { s.proto with history := if s.cpUp then old else s.proto.history }
  else s.refuseRequest s.tag a.opcode r Status.badLength

/-- A fragment that continues the assembly of its ring. -/
def Assembly.matches (a : Assembly) (p : Packet) : Bool := p.frag && p.opcode == a.opcode && p.seq == a.seq && p.target == a.target

/-- A matching fragment may be joined: it passes steps 1 and 2, it is full or last, and at most the fourth. -/
def State.joins (s : State) (a : Assembly) (p : Packet) : Bool :=
  (s.headerStatus p).isNone && (p.last || p.plen == 1014) && decide (a.count < 4)

/-- A fragment passed on to followers leaves one route per request: that of its last fragment (R345). -/
def State.passFragment (s : State) (ring : Nat) (p : Packet) : State :=
  let old := s.casc.routes
  let s := s.cascadeForward p ring p.target
  if p.last then s else s.setCasc { s.casc with routes := old }

/-! ### Execution of one packet (R273 to R276) -/

/-- The stored packet that a packet repeats within 1 s (R274). -/
def State.duplicateOf (s : State) (ring : Nat) (p : Packet) : Option Executed :=
  s.executedBefore ring p.opcode p.seq p.check p.arrival

/-- A packet of a ring executed as if it had arrived alone. -/
def State.runAlone (s : State) (ring : Nat) (p : Packet) : State :=
  let tag := s.foldOf p
  match s.headerStatus p with
  | some st => s.refuseRequest tag p.opcode (p.req ring) st
  | none =>
    if p.frag then
      let s := if p.target = 0x0F then s.passFragment ring p else s
      let a : Assembly := ⟨p.opcode, p.seq, p.target, [], 0, p.arrival⟩
      if p.last then s.runAssembled ring a p
      else
        let s := s.countPacket.setAssembly ring (some { a with params := p.params, count := 1 })
        if p.plen = 1014 then s else s.abandonAssembly ring 0
    else
      match s.duplicateOf ring p, opOf p.opcode with
      | some e, _ => s.repeatReply ring e
      | none, some op => s.commandAs tag op (p.req ring)
      | none, none => s

/-- A packet for an admitted follower is passed on whole, fragment by fragment (R269, R345). -/
def State.passes (s : State) (p : Packet) : Bool :=
  p.frag && !s.follower && decide (1 ≤ p.target ∧ p.target ≤ 3) && s.admitted p.target && (s.headerStatus p).isNone

/-- A packet taken from its ring: it joins the assembly of the ring, or abandons it, or is executed alone (R277, R278). An assembly is
also abandoned when the packet came 110 ms or more after the first fragment, and never within 100 ms for that. -/
def State.runPacket (s : State) (ring : Nat) (p : Packet) : State :=
  let s := match s.assemblyOf ring with
    | some a => if band 278 a.firstAt (ms 100) (ms 110) (p.arrival - a.firstAt) then s.abandonAssembly ring (replySpan p.opcode) else s
    | none => s
  let alone := fun (s : State) => if s.passes p then s.passFragment ring p else s.runAlone ring p
  match s.assemblyOf ring with
  | none => alone s
  | some a =>
    if p.safety && !p.frag then alone s
    else if a.matches p && s.joins a p then
      let s := if p.target = 0x0F then s.passFragment ring p else s
      if p.last then s.runAssembled ring a p
      else s.countPacket.setAssembly ring (some { a with params := a.params ++ p.params, count := a.count + 1 })
    else alone (s.abandonAssembly ring (replySpan p.opcode))

/-! ### Dispatch -/

/-- The rings served: 0 to 2 while the loader holds the module (R284). -/
def State.servedRings (s : State) : List Nat := if s.mode = 2 then [0, 1, 2] else List.range 8

/-- A big-endian word of a legacy frame. -/
def beAt (b : List Byte) (i : Nat) : Nat := 256 * leAt b i 1 + leAt b (i + 1) 1

/-- A legacy frame taken from ring 5 (R318, R320); the reads have had their result with the transaction. -/
def State.legacyAct (s : State) (f : List Byte) : State :=
  match leAt f 0 1 with
  | 1 => s.legacySegments (beAt f 1) ((List.range (beAt f 3)).map (fun i => beAt f (5 + 2 * i)))
  | 2 => s.legacyUpdate
  | 3 => s.legacySetReg (beAt f 1) (beAt f 5)
  | _ => s

/-- A packet can be taken: its reply ring, also for the answer of an assembly it may abandon, and the queues of the followers it is for
have room (R278, R281, R347). -/
def State.takes (s : State) (ring : Nat) (p : Packet) : Bool :=
  if ring = 5 then s.cpUp && (s.mpUp || !legacyForMp p.bytes)
  else s.executes ring p.opcode && ((s.assemblyOf ring).isNone || decide ((s.ring (ring + 8)).length + replySpan p.opcode < 64)) && s.cascadeRoom (if s.widened p.opcode then 0x0F else p.target)

/-- The oldest safety packet waiting in a served ring (R276). Ring 5 holds legacy frames. -/
def State.nextSafety (s : State) : Option (Nat × Packet) :=
  let all := (s.servedRings.filter (fun n => n != 5)).flatMap (fun n => (s.ring n).filterMap (fun p => if p.safety && s.takes n p then some (n, p) else none))
  all.foldl (fun (m : Option (Nat × Packet)) x => match m with
    | none => some x
    | some y => if x.2.arrival < y.2.arrival then some x else some y) none

/-- The head of the next ring in turn (R275). -/
def State.nextInTurn (s : State) : Option (Nat × Packet) :=
  let rings := s.servedRings.filter (fun n => decide (s.proto.turn < n)) ++ s.servedRings.filter (fun n => decide (n ≤ s.proto.turn))
  rings.findSome? (fun n => match s.ring n with
    | p :: _ => if s.takes n p then some (n, p) else none
    | [] => none)

/-- MP-originated packets of ring 6 keep no reply; a refused pattern selection of the DALI gear is counted (R313). -/
def State.internalDone (s : State) (ring opcode : Nat) : State :=
  if ring ≠ 6 then s
  else
    let bad := !(s.ring 14).isEmpty
    let s := s.setRing 14 []
    if bad ∧ opcode = 0x0200 then s.bump Reg.HST_DALI_ERR_COUNT.COUNT Reg.HST_FLAGS.CNT_SAT else s

/-- PACKET_DISPATCH (R273, R275, R276): the CP, or the MP for the loader, takes the next packet; its reply is placed within 5 ms, or
20 ms. -/
def execPacketDispatch (s : State) : Host.Outcome State Fault Refusal :=
  match (match s.nextSafety with | some x => some (true, x) | none => s.nextInTurn.map (fun x => (false, x))) with
  | none => .next s
  | some (safety, ring, p) =>
    let s := s.setRing ring ((s.ring ring).erase p)
    let s := (s.wait (s.free % (ms (if s.mode = 2 then 20 else 5) + 1))).drawn
    let s := s.setProto { s.proto with replyTo := p.source, turn := if safety then s.proto.turn else ring }
    .next (if ring = 5 then s.legacyAct p.bytes else (s.runPacket ring p).internalDone ring p.opcode)

/-- FRAGMENT_TIMEOUT (R278): from 100 ms to 110 ms after its first fragment; while the reply ring is full it waits, since a reply is
never dropped (R281). -/
def execFragmentTimeout (ring : Nat) (s : State) : Host.Outcome State Fault Refusal :=
  match s.assemblyOf ring with
  | none => .next s
  | some a =>
    if s.ringRoom (ring + 8) then .next (((s.until (a.firstAt + ms 100 + s.free % (ms 10 + 1))).drawn).abandonAssembly ring 0) else .next s

/-- EVENTS_LOST_PLACE (R281): a reply ring has room again. -/
def execEventsLostPlace (ring : Nat) (s : State) : Host.Outcome State Fault Refusal :=
  if s.cpUp ∧ 8 ≤ ring ∧ ring < 16 ∧ Assoc.get 0 s.proto.lost ring ≠ 0 ∧ s.ringRoom ring then .next ((s.placeLost ring).irq 4) else .next s

end Sys2Proof.Machine
end

