-- ==== Sys2Proof/Machine/Dispatch.lean ====
section
/-! DEFINITION. One arm per command: which meaning each command has. -/

namespace Sys2Proof.Machine

/-- The effect of a command on everything but the queue. -/
def exec (i : Instr) (s : State) : Host.Outcome State Fault Refusal :=
  match i with
  | .powerUp mv => Sys2Proof.Machine.execPowerUp mv s
  | .controllerResetRelease bootMode role testEn refclk vcore vana => Sys2Proof.Machine.execControllerResetRelease bootMode role testEn refclk vcore vana s
  | .resetNLow duration => Sys2Proof.Machine.execResetNLow duration s
  | .supplyWarning supply mv => Sys2Proof.Machine.execSupplyWarning supply mv s
  | .supplyWarningClear supply mv => Sys2Proof.Machine.execSupplyWarningClear supply mv s
  | .supplyMonitorReset supply mv => Sys2Proof.Machine.execSupplyMonitorReset supply mv s
  | .vauxLoss => Sys2Proof.Machine.execVauxLoss s
  | .ksNvmCheck biasOk => Sys2Proof.Machine.execKsNvmCheck biasOk s
  | .loaderImageCheck => Sys2Proof.Machine.execLoaderImageCheck s
  | .imageBoot core convertible => Sys2Proof.Machine.execImageBoot core convertible s
  | .startupLbist => Sys2Proof.Machine.execStartupLbist s
  | .lbistUnitComplete patterns signature restored => Sys2Proof.Machine.execLbistUnitComplete patterns signature restored s
  | .spCoverageTest pass => Sys2Proof.Machine.execSpCoverageTest pass s
  | .startupAbist readable => Sys2Proof.Machine.execStartupAbist readable s
  | .abistItemComplete readings vstr => Sys2Proof.Machine.execAbistItemComplete readings vstr s
  | .abistItemTimeout => Sys2Proof.Machine.execAbistItemTimeout s
  | .startupReady lost readable => Sys2Proof.Machine.execStartupReady lost readable s
  | .clockCompareWindow diff => Sys2Proof.Machine.execClockCompareWindow diff s
  | .forwardedClockStop => Sys2Proof.Machine.execForwardedClockStop s
  | .xtalStop gap => Sys2Proof.Machine.execXtalStop gap s
  | .xtalReturn => Sys2Proof.Machine.execXtalReturn s
  | .lightFrameBoundary => Sys2Proof.Machine.execLightFrameBoundary s
  | .driveConversion => Sys2Proof.Machine.execDriveConversion s
  | .rowPacedLoad level => Sys2Proof.Machine.execRowPacedLoad level s
  | .rowTransferReceived transfers parity => Sys2Proof.Machine.execRowTransferReceived transfers parity s
  | .rowDeadline => Sys2Proof.Machine.execRowDeadline s
  | .lateReload transfers parity => Sys2Proof.Machine.execLateReload transfers parity s
  | .slotStart => Sys2Proof.Machine.execSlotStart s
  | .signatureCompute arrives => Sys2Proof.Machine.execSignatureCompute arrives s
  | .spLimitCheck => Sys2Proof.Machine.execSpLimitCheck s
  | .spOutputCheck row => Sys2Proof.Machine.execSpOutputCheck row s
  | .swapDecision => Sys2Proof.Machine.execSwapDecision s
  | .complianceFlag string mv => Sys2Proof.Machine.execComplianceFlag string mv s
  | .openClamp site mv => Sys2Proof.Machine.execOpenClamp site mv s
  | .fwdLitSample site mv void => Sys2Proof.Machine.execFwdLitSample site mv void s
  | .fwdDarkSample site mv void => Sys2Proof.Machine.execFwdDarkSample site mv void s
  | .openProbeRow readings => Sys2Proof.Machine.execOpenProbeRow readings s
  | .reverseSensingReading lux => Sys2Proof.Machine.execReverseSensingReading lux s
  | .presenceHoldExpiry zone => Sys2Proof.Machine.execPresenceHoldExpiry zone s
  | .limpRampStep => Sys2Proof.Machine.execLimpRampStep s
  | .heartbeatToggle interval => Sys2Proof.Machine.execHeartbeatToggle interval s
  | .heartbeatTimeout => Sys2Proof.Machine.execHeartbeatTimeout s
  | .lockoutRecordWrite copy => Sys2Proof.Machine.execLockoutRecordWrite copy s
  | .permitRise => Sys2Proof.Machine.execPermitRise s
  | .permitFall => Sys2Proof.Machine.execPermitFall s
  | .coveringTimeout => Sys2Proof.Machine.execCoveringTimeout s
  | .dualInputChange channel pair a b held => Sys2Proof.Machine.execDualInputChange channel pair a b held s
  | .discrepancyTimeout channel pair => Sys2Proof.Machine.execDiscrepancyTimeout channel pair s
  | .cutoffLimiterUpdate => Sys2Proof.Machine.execCutoffLimiterUpdate s
  | .cutoffGuardArm => Sys2Proof.Machine.execCutoffGuardArm s
  | .cutoffWindowEnd row mean => Sys2Proof.Machine.execCutoffWindowEnd row mean s
  | .tempHighTrip comparator theta => Sys2Proof.Machine.execTempHighTrip comparator theta s
  | .tempHighRelease comparator theta => Sys2Proof.Machine.execTempHighRelease comparator theta s
  | .tempCutTrip comparator theta => Sys2Proof.Machine.execTempCutTrip comparator theta s
  | .tempCutRelease comparator theta => Sys2Proof.Machine.execTempCutRelease comparator theta s
  | .vstrOvervoltageTrip mv held => Sys2Proof.Machine.execVstrOvervoltageTrip mv held s
  | .vstrOvervoltageRelease mv => Sys2Proof.Machine.execVstrOvervoltageRelease mv s
  | .commissionWritesDone ok => Sys2Proof.Machine.execCommissionWritesDone ok s
  | .commissionStageExpiry => Sys2Proof.Machine.execCommissionStageExpiry s
  | .watchT1Expiry => Sys2Proof.Machine.execWatchT1Expiry s
  | .watchT2Expiry => Sys2Proof.Machine.execWatchT2Expiry s
  | .staleLoadTimeout => Sys2Proof.Machine.execStaleLoadTimeout s
  | .objectListTimeout => Sys2Proof.Machine.execObjectListTimeout s
  | .patternLoadComplete readable => Sys2Proof.Machine.execPatternLoadComplete readable s
  | .crossfadeComplete => Sys2Proof.Machine.execCrossfadeComplete s
  | .fadeComplete ctx => Sys2Proof.Machine.execFadeComplete ctx s
  | .symbolLoadComplete readable => Sys2Proof.Machine.execSymbolLoadComplete readable s
  | .bisqueBuildComplete => Sys2Proof.Machine.execBisqueBuildComplete s
  | .flipCopyComplete layer => Sys2Proof.Machine.execFlipCopyComplete layer s
  | .installTimeout => Sys2Proof.Machine.execInstallTimeout s
  | .linkClockDetect => Sys2Proof.Machine.execLinkClockDetect s
  | .linkClockLoss gap => Sys2Proof.Machine.execLinkClockLoss gap s
  | .laneLock lane good codewords => Sys2Proof.Machine.execLaneLock lane good codewords s
  | .laneLockLoss lane errors corrected uncorr => Sys2Proof.Machine.execLaneLockLoss lane errors corrected uncorr s
  | .alignTimeout => Sys2Proof.Machine.execAlignTimeout s
  | .bcReply message trip => Sys2Proof.Machine.execBcReply message trip s
  | .bcReplyTimeout => Sys2Proof.Machine.execBcReplyTimeout s
  | .capsRetry => Sys2Proof.Machine.execCapsRetry s
  | .linkPoll => Sys2Proof.Machine.execLinkPoll s
  | .trainComplete => Sys2Proof.Machine.execTrainComplete s
  | .trainTimeout => Sys2Proof.Machine.execTrainTimeout s
  | .fomSample eyes => Sys2Proof.Machine.execFomSample eyes s
  | .realignTimeout => Sys2Proof.Machine.execRealignTimeout s
  | .frameHeaderRx h lane => Sys2Proof.Machine.execFrameHeaderRx h lane s
  | .rowPacketRx p lane => Sys2Proof.Machine.execRowPacketRx p lane s
  | .frameTrailerRx p lane => Sys2Proof.Machine.execFrameTrailerRx p lane s
  | .gapTimeout => Sys2Proof.Machine.execGapTimeout s
  | .holdTimeout => Sys2Proof.Machine.execHoldTimeout s
  | .lockFrameTimeout => Sys2Proof.Machine.execLockFrameTimeout s
  | .helloSend => Sys2Proof.Machine.execHelloSend s
  | .helloRx m => Sys2Proof.Machine.execHelloRx m s
  | .stateSend => Sys2Proof.Machine.execStateSend s
  | .stateRx m => Sys2Proof.Machine.execStateRx m s
  | .followerStatusTimeout pos => Sys2Proof.Machine.execFollowerStatusTimeout pos s
  | .markSend => Sys2Proof.Machine.execMarkSend s
  | .markRx r h => Sys2Proof.Machine.execMarkRx r h s
  | .markerMissing => Sys2Proof.Machine.execMarkerMissing s
  | .takeSend => Sys2Proof.Machine.execTakeSend s
  | .takeRx r => Sys2Proof.Machine.execTakeRx r s
  | .cloneFrameSend => Sys2Proof.Machine.execCloneFrameSend s
  | .cascadeCmdRx block => Sys2Proof.Machine.execCascadeCmdRx block s
  | .upPacketRx m => Sys2Proof.Machine.execUpPacketRx m s
  | .spiWriteTransaction bytes low => Sys2Proof.Machine.execSpiWriteTransaction bytes low s
  | .spiReadTransaction address clocked => Sys2Proof.Machine.execSpiReadTransaction address clocked s
  | .canFrameRx ident ide fd dlc data => Sys2Proof.Machine.execCanFrameRx ident ide fd dlc data s
  | .canAssemblyTimeout => Sys2Proof.Machine.execCanAssemblyTimeout s
  | .canSegmentSent => Sys2Proof.Machine.execCanSegmentSent s
  | .canBusoff => Sys2Proof.Machine.execCanBusoff s
  | .canBusoffRecovery => Sys2Proof.Machine.execCanBusoffRecovery s
  | .t1sFrameRx dst src etherType tagged fcsGood payload noise => Sys2Proof.Machine.execT1sFrameRx dst src etherType tagged fcsGood payload noise s
  | .plcaStatusLoss => Sys2Proof.Machine.execPlcaStatusLoss s
  | .plcaBeaconResume => Sys2Proof.Machine.execPlcaBeaconResume s
  | .daliForwardFrame addr data => Sys2Proof.Machine.execDaliForwardFrame addr data s
  | .daliGoToScene scene => Sys2Proof.Machine.execDaliGoToScene scene s
  | .daliArcPower level => Sys2Proof.Machine.execDaliArcPower level s
  | .daliQuery query => Sys2Proof.Machine.execDaliQuery query s
  | .daliSystemFailure low => Sys2Proof.Machine.execDaliSystemFailure low s
  | .legacyWriteSeg first levels => Sys2Proof.Machine.execLegacyWriteSeg first levels s
  | .legacyUpdate => Sys2Proof.Machine.execLegacyUpdate s
  | .legacyWriteReg reg value => Sys2Proof.Machine.execLegacyWriteReg reg value s
  | .legacyReadReg first count => Sys2Proof.Machine.execLegacyReadReg first count s
  | .legacyStatus => Sys2Proof.Machine.execLegacyStatus s
  | .packetDispatch => Sys2Proof.Machine.execPacketDispatch s
  | .fragmentTimeout ring => Sys2Proof.Machine.execFragmentTimeout ring s
  | .eventsLostPlace ring => Sys2Proof.Machine.execEventsLostPlace ring s
  | .sysIdentify r => Sys2Proof.Machine.execSysIdentify r s
  | .sysStatus r => Sys2Proof.Machine.execSysStatus r s
  | .sysReset r => Sys2Proof.Machine.execSysReset r s
  | .regRead r => Sys2Proof.Machine.execRegRead r s
  | .regWrite r => Sys2Proof.Machine.execRegWrite r s
  | .scnTickWrite r value => Sys2Proof.Machine.execScnTickWrite r value s
  | .diagCtrlWrite r value => Sys2Proof.Machine.execDiagCtrlWrite r value s
  | .hstRegisterWrite r offset value => Sys2Proof.Machine.execHstRegisterWrite r offset value s
  | .layerBufferWrite r offset words => Sys2Proof.Machine.execLayerBufferWrite r offset words s
  | .chkGo unit_ poly foldEn compare start len fold expect abort => Sys2Proof.Machine.execChkGo unit_ poly foldEn compare start len fold expect abort s
  | .chkAbort unit_ => Sys2Proof.Machine.execChkAbort unit_ s
  | .chkScanDone unit_ corrected stop => Sys2Proof.Machine.execChkScanDone unit_ corrected stop s
  | .chkCntClear r address => Sys2Proof.Machine.execChkCntClear r address s
  | .pwrMeasStart r supply => Sys2Proof.Machine.execPwrMeasStart r supply s
  | .measDone mv => Sys2Proof.Machine.execMeasDone mv s
  | .sysLifecycle r => Sys2Proof.Machine.execSysLifecycle r s
  | .beamSelectPattern r => Sys2Proof.Machine.execBeamSelectPattern r s
  | .beamObjectSet r => Sys2Proof.Machine.execBeamObjectSet r s
  | .beamObjectClear r => Sys2Proof.Machine.execBeamObjectClear r s
  | .beamObjectList r => Sys2Proof.Machine.execBeamObjectList r s
  | .beamFieldMap r => Sys2Proof.Machine.execBeamFieldMap r s
  | .fadeSet r => Sys2Proof.Machine.execFadeSet r s
  | .layerConfig r => Sys2Proof.Machine.execLayerConfig r s
  | .layerEnable r => Sys2Proof.Machine.execLayerEnable r s
  | .symbolPlace r => Sys2Proof.Machine.execSymbolPlace r s
  | .bisqueFlatten r => Sys2Proof.Machine.execBisqueFlatten r s
  | .libraryInstallBegin r => Sys2Proof.Machine.execLibraryInstallBegin r s
  | .libraryInstallData r => Sys2Proof.Machine.execLibraryInstallData r s
  | .libraryInstallEnd r => Sys2Proof.Machine.execLibraryInstallEnd r s
  | .libraryInstallDelete r => Sys2Proof.Machine.execLibraryInstallDelete r s
  | .libraryInstallAbort r => Sys2Proof.Machine.execLibraryInstallAbort r s
  | .storeRead r => Sys2Proof.Machine.execStoreRead r s
  | .storeWrite r => Sys2Proof.Machine.execStoreWrite r s
  | .linkStatus r => Sys2Proof.Machine.execLinkStatus r s
  | .linkTrainRetrain r => Sys2Proof.Machine.execLinkTrainRetrain r s
  | .linkTrainRestart r => Sys2Proof.Machine.execLinkTrainRestart r s
  | .linkTrainStepDown r => Sys2Proof.Machine.execLinkTrainStepDown r s
  | .linkTrainStepUp r => Sys2Proof.Machine.execLinkTrainStepUp r s
  | .linkPolicy r => Sys2Proof.Machine.execLinkPolicy r s
  | .safetyStatus r => Sys2Proof.Machine.execSafetyStatus r s
  | .commissionLoad r => Sys2Proof.Machine.execCommissionLoad r s
  | .commissionConfirm r => Sys2Proof.Machine.execCommissionConfirm r s
  | .safetyResetArm r => Sys2Proof.Machine.execSafetyResetArm r s
  | .safetyResetConfirm r => Sys2Proof.Machine.execSafetyResetConfirm r s
  | .faultReadFirst r => Sys2Proof.Machine.execFaultReadFirst r s
  | .faultReadHistory r => Sys2Proof.Machine.execFaultReadHistory r s
  | .faultClear r => Sys2Proof.Machine.execFaultClear r s
  | .faultInject r => Sys2Proof.Machine.execFaultInject r s
  | .faultPolicy r => Sys2Proof.Machine.execFaultPolicy r s
  | .powerState r => Sys2Proof.Machine.execPowerState r s
  | .entryQuiesceDone => Sys2Proof.Machine.execEntryQuiesceDone s
  | .entryFadeDone => Sys2Proof.Machine.execEntryFadeDone s
  | .shutdownTestDone => Sys2Proof.Machine.execShutdownTestDone s
  | .entrySaveDone => Sys2Proof.Machine.execEntrySaveDone s
  | .entryCheckDone => Sys2Proof.Machine.execEntryCheckDone s
  | .entrySwitch => Sys2Proof.Machine.execEntrySwitch s
  | .wakeConfig r => Sys2Proof.Machine.execWakeConfig r s
  | .timeGet r => Sys2Proof.Machine.execTimeGet r s
  | .timeSet r => Sys2Proof.Machine.execTimeSet r s
  | .spiWakeMatch first => Sys2Proof.Machine.execSpiWakeMatch first s
  | .alarmFire => Sys2Proof.Machine.execAlarmFire s
  | .daliWake addr data => Sys2Proof.Machine.execDaliWake addr data s
  | .cascadeClockWake => Sys2Proof.Machine.execCascadeClockWake s
  | .retentionCheck crc vflag image cores readable => Sys2Proof.Machine.execRetentionCheck crc vflag image cores readable s
  | .bankRebuildDone bank readable => Sys2Proof.Machine.execBankRebuildDone bank readable s
  | .wakeTargetReached lost readable => Sys2Proof.Machine.execWakeTargetReached lost readable s
  | .serviceIdleExpiry => Sys2Proof.Machine.execServiceIdleExpiry s
  | .ondemandWakeDone code => Sys2Proof.Machine.execOndemandWakeDone code s
  | .ondemandWakeTimeout code addr master access stalled => Sys2Proof.Machine.execOndemandWakeTimeout code addr master access stalled s
  | .calRun r => Sys2Proof.Machine.execCalRun r s
  | .calRunCommit => Sys2Proof.Machine.execCalRunCommit s
  | .calibrationComplete => Sys2Proof.Machine.execCalibrationComplete s
  | .autoCalibrationStart => Sys2Proof.Machine.execAutoCalibrationStart s
  | .defectFollowupCommit => Sys2Proof.Machine.execDefectFollowupCommit s
  | .calStatus r => Sys2Proof.Machine.execCalStatus r s
  | .defectMapRead r => Sys2Proof.Machine.execDefectMapRead r s
  | .ageingAccumulate => Sys2Proof.Machine.execAgeingAccumulate s
  | .etRecordWrite => Sys2Proof.Machine.execEtRecordWrite s
  | .tempSweep codes => Sys2Proof.Machine.execTempSweep codes s
  | .tileEstimate => Sys2Proof.Machine.execTileEstimate s
  | .throttleEvaluation => Sys2Proof.Machine.execThrottleEvaluation s
  | .boostEnd => Sys2Proof.Machine.execBoostEnd s
  | .stopFadeComplete => Sys2Proof.Machine.execStopFadeComplete s
  | .thermalStatus r => Sys2Proof.Machine.execThermalStatus r s
  | .thermalPolicy r => Sys2Proof.Machine.execThermalPolicy r s
  | .bistRun r => Sys2Proof.Machine.execBistRun r s
  | .bistResult r => Sys2Proof.Machine.execBistResult r s
  | .updateBegin r => Sys2Proof.Machine.execUpdateBegin r s
  | .updatePrepareDone written => Sys2Proof.Machine.execUpdatePrepareDone written s
  | .updateData r => Sys2Proof.Machine.execUpdateData r s
  | .updateVerify r => Sys2Proof.Machine.execUpdateVerify r s
  | .updateVerifyDone => Sys2Proof.Machine.execUpdateVerifyDone s
  | .updateActivate r => Sys2Proof.Machine.execUpdateActivate r s
  | .updateConfirm r => Sys2Proof.Machine.execUpdateConfirm r s
  | .updateFallback r => Sys2Proof.Machine.execUpdateFallback r s
  | .fallbackComplete => Sys2Proof.Machine.execFallbackComplete s
  | .updateStatus r => Sys2Proof.Machine.execUpdateStatus r s
  | .confirmWindowExpiry core => Sys2Proof.Machine.execConfirmWindowExpiry core s
  | .onTimeWrite => Sys2Proof.Machine.execOnTimeWrite s
  | .cascadeStatus r => Sys2Proof.Machine.execCascadeStatus r s
  | .cascadeMode r => Sys2Proof.Machine.execCascadeMode r s
  | .senseConfig r => Sys2Proof.Machine.execSenseConfig r s
  | .senseRead r => Sys2Proof.Machine.execSenseRead r s
  | .faultReport fs => Sys2Proof.Machine.execFaultReport fs s
  | .reactionWindowClose reaction item => Sys2Proof.Machine.execReactionWindowClose reaction item s
  | .faultNPulseEnd => Sys2Proof.Machine.execFaultNPulseEnd s
  | .injectTimeout => Sys2Proof.Machine.execInjectTimeout s
  | .persistentLogWrite => Sys2Proof.Machine.execPersistentLogWrite s
  | .faultLogExport => Sys2Proof.Machine.execFaultLogExport s
  | .crossingStall crossing waited items => Sys2Proof.Machine.execCrossingStall crossing waited items s
  | .crossingResetDone crossing items => Sys2Proof.Machine.execCrossingResetDone crossing items s
  | .bcRequestRx m => Sys2Proof.Machine.execBcRequestRx m s
  | .t1sFrameSent collisions => Sys2Proof.Machine.execT1sFrameSent collisions s
  | .sysResetBegin => Sys2Proof.Machine.execSysResetBegin s
  | .legacyFrameInvalid status => Sys2Proof.Machine.execLegacyFrameInvalid status s
  | .domainSwitchOff code => Sys2Proof.Machine.execDomainSwitchOff code s

end Sys2Proof.Machine
end

