-- ==== Sys2Proof/Safety.lean ====
section
/-! DEFINITION. What the claims speak of: a command that completes, the parts of the state and which of them stay, a request
that the CP takes, the forms every state keeps. -/

namespace Sys2Proof.Machine

/-- A command answers a next state of which something holds. -/
def Answers (i : Instr) (s : State) (p : State → Prop) : Prop := ∃ t, exec i s = .next t ∧ p t

/-! ### Frames -/

/-- The parts of the state, one for each field of State. -/
inductive Part where
  | now | pending | draws | regs | latches | sram | aon | nvm | flash | rings | phase | cpUp | mpUp | spUp | id | pads | clk | proto | flt | ks | sp | com | locks | pwr | scan | beam | lib | link | casc | bus | cal | diag | sns | tmp | bst | upd | chk | saved
deriving DecidableEq, Repr

/-- Two states agree in a part. -/
def Part.same (s t : State) : Part → Prop
  | .now => t.now = s.now
  | .pending => t.pending = s.pending
  | .draws => t.draws = s.draws
  | .regs => t.regs = s.regs
  | .latches => t.latches = s.latches
  | .sram => t.sram = s.sram
  | .aon => t.aon = s.aon
  | .nvm => t.nvm = s.nvm
  | .flash => t.flash = s.flash
  | .rings => t.rings = s.rings
  | .phase => t.phase = s.phase
  | .cpUp => t.cpUp = s.cpUp
  | .mpUp => t.mpUp = s.mpUp
  | .spUp => t.spUp = s.spUp
  | .id => t.id = s.id
  | .pads => t.pads = s.pads
  | .clk => t.clk = s.clk
  | .proto => t.proto = s.proto
  | .flt => t.flt = s.flt
  | .ks => t.ks = s.ks
  | .sp => t.sp = s.sp
  | .com => t.com = s.com
  | .locks => t.locks = s.locks
  | .pwr => t.pwr = s.pwr
  | .scan => t.scan = s.scan
  | .beam => t.beam = s.beam
  | .lib => t.lib = s.lib
  | .link => t.link = s.link
  | .casc => t.casc = s.casc
  | .bus => t.bus = s.bus
  | .cal => t.cal = s.cal
  | .diag => t.diag = s.diag
  | .sns => t.sns = s.sns
  | .tmp => t.tmp = s.tmp
  | .bst => t.bst = s.bst
  | .upd => t.upd = s.upd
  | .chk => t.chk = s.chk
  | .saved => t.saved = s.saved

/-- Every part but those named stays as it was. -/
def KeptBut (ps : List Part) (s t : State) : Prop := ∀ p, p ∉ ps → p.same s t

/-- The registers an event can change besides placing a packet: the drop counter and its flags, and IRQ cause 4 (R281). -/
def eventFields : List Field :=
  [Reg.SYS_FLAGS.EVT_LOST, Reg.SYS_FLAGS.CNT_SAT, Reg.SYS_EVENT_DROP_COUNT.COUNT, Reg.FLT_IRQ_STATUS.CAUSE]

/-- Every register field stays as it was but those named and those an event changes. -/
def RegsKeptBut (fs : List Field) (s t : State) : Prop := ∀ f : Field, f.key ∉ (fs ++ eventFields).map Field.key → t.get f = s.get f

/-! ### Requests -/

/-- The state in which the handler of a request runs: its time has passed, in SERVICE the instant is kept (R445), and the
entries its reply needs are kept free (R281). -/
def State.atHandler (s : State) (op : Op) (r : Req) : State :=
  (if s.flag Reg.PWR_STATE.SERVICE then (s.wait r.wait).setPwr { s.pwr with servicePacket := s.now + r.wait } else s.wait r.wait).reserve
    (some (r.ring + 8, replySpan op.code))

/-- The CP (in loader mode the MP) takes a request for this module, which repeats none (R274), and no check of R268 before the handler refuses
it. -/
def State.accepts (s : State) (op : Op) (r : Req) : Prop :=
  s.receives r.ring = true ∧ s.executes r.ring op.code = true ∧ s.repeated op r = none ∧ s.cascadeRoom (if s.widened op.code then 0x0F else r.target) = true
    ∧ (s.follower = true ∨ r.target = 0 ∨ r.target = 0x0F) ∧ s.barred op r = none

/-- A request whose reply is sent when it is accepted (R271); only the master answers a broadcast (R269). -/
def State.answers (s : State) (r : Req) : Prop := r.reply = true ∧ (s.follower = true → r.target ≠ 0x0F)

/-- The reply ring holds the reply OK with some results, under SEQ and the node tag of the request (R266, R270). -/
def Replied (s t : State) (op : Op) (r : Req) (results : List Byte) : Prop :=
  ∃ p ∈ t.ring (r.ring + 8), p.bytes = sealed s.tag (op.code + 0x8000) r.seq 0 s.position (le 2 Status.ok ++ results)

/-- The registers that answering a request changes beyond its handler: the counters of Table 9-18 and their flag. -/
def answerFields : List Field := [Reg.SYS_CMD_COUNT.COUNT, Reg.SYS_ERR_COUNT.COUNT]

/-- The registers that follow the node's part in PLCA at every write of the HST_ region (R309). -/
def plcaFields : List Field := [Reg.HST_T1S_STATUS.PLCA_OK, Reg.HST_T1S_STATUS.MODE, Reg.HST_T1S_STATUS.COORD]

/-! ### Effects that several commands share -/

/-- A load has ended: LOADING is clear, unless the load of the stale-list pattern that it kept waiting has begun (R163). -/
def State.loadEnded (s t : State) : Prop :=
  (t.beam.loading = none ∧ t.get Reg.BEAM_STATUS.LOADING = 0)
    ∨ (∃ l, t.beam.loading = some l ∧ l.stale = true ∧ l.pattern = s.get Reg.BEAM_STALE.PATTERN ∧ t.get Reg.BEAM_STATUS.LOADING = 1)

/-! ### Invariants -/

/-- The registers and the four memories are in their canonical form, so that equal contents are equal data. -/
def State.canonical (s : State) : Bool :=
  Assoc.wf 0 s.regs && Memory.wf 0 s.sram && Memory.wf 0 s.aon && Memory.wf 0 s.nvm && Memory.wf 0xFF s.flash

/-- No ring holds more than its 64 entries (Table 1-9, R40). -/
def State.ringsFit (s : State) : Prop := ∀ n, (s.ring n).length ≤ 64

end Sys2Proof.Machine
end

