-- ==== Sys2Proof/Certificates/Slice0/Obligations.lean ====
section
/-! DEFINITION. The statements for the provers. -/

open Sys2Proof Sys2Proof.Machine

/-! ### The machine as a whole -/

/-- The step takes the command at the front of the queue and executes it on the state whose queue is the rest; on an empty queue one base cycle
passes (the model's choice: notes/assumptions/8.md). -/
def Obligations.StepRunsTheFrontCommandOrIdles : Prop :=
  (∀ (c : Instr) (cs : List Instr) (s : State), step { s with pending := c :: cs } = exec c { s with pending := cs }) ∧
  (∀ s : State, s.pending = [] → step s = .next { s with now := s.now + 1 })

/-- R11: after reset every register field reads its reset value; no ring holds a packet, nothing waits, no core runs, the module is not locked out,
and the invariants hold. The values of the state that no rule gives are the model's (notes/assumptions/1.md); none is claimed here. -/
def Obligations.ResetLeavesTheRegistersAtTheirResetValues : Prop :=
  (∀ f : Field, State.reset.get f = f.reset) ∧ (∀ n, State.reset.ring n = []) ∧ State.reset.pending = [] ∧ State.reset.cpUp = false
    ∧ State.reset.mpUp = false ∧ State.reset.spUp = false ∧ State.reset.lockedOut = false ∧ State.reset.flag Reg.SAF_STATUS.PERMIT = false
    ∧ State.reset.get Reg.STR_POWER_LIMIT.BUDGET = 300 ∧ State.reset.get Reg.STR_POWER_LIMIT.LIMIT = 100 ∧ State.reset.get Reg.SYS_NODE_TAG.TAG = 0
    ∧ State.reset.canonical = true ∧ State.reset.ringsFit

/-- Every command completes in every state: it answers a next state, leaves the queue of waiting commands alone, and neither time nor the count
of free values goes back. -/
def Obligations.EveryCommandCompletesAndLeavesTheQueue : Prop :=
  ∀ (i : Instr) (s : State), Answers i s (fun t => t.pending = s.pending ∧ s.now ≤ t.now ∧ s.draws ≤ t.draws)

/-- Every step keeps the canonical form of the registers and of the four memories: equal contents stay equal data. -/
def Obligations.EveryStepKeepsTheCanonicalForm : Prop :=
  ∀ s t : State, s.canonical = true → step s = .next t → t.canonical = true

/-- R40: a full ring is never overwritten: no step makes a ring longer than its 64 entries. -/
def Obligations.EveryStepKeepsRingsWithinTheirEntries : Prop :=
  ∀ s t : State, s.ringsFit → step s = .next t → t.ringsFit

/-- R268, R270, R271, R274: a request that fails a check before its handler is answered with the status of the first check that fails, is counted
as executed and as refused, and changes nothing else; it is not kept for R274. R273: a request that cannot be executed now waits in its ring. -/
def Obligations.RequestsThatFailACheckChangeNothing : Prop :=
  ∀ p ∈ [(Instr.sysIdentify, opSysIdentify), (.sysStatus, opSysStatus), (.sysReset, opSysReset), (.sysLifecycle, opSysLifecycle),
      (.regRead, opRegRead), (.regWrite, opRegWrite), (.beamSelectPattern, opSelectPattern), (.beamObjectSet, opObjectSet),
      (.beamObjectClear, opObjectClear), (.beamObjectList, opObjectList), (.beamFieldMap, opFieldMap), (.layerConfig, opLayerConfig),
      (.layerEnable, opLayerEnable), (.symbolPlace, opSymbolPlace), (.fadeSet, opFadeSet), (.bisqueFlatten, opFlatten),
      (.linkStatus, opLinkStatus), (.linkPolicy, opLinkPolicy), (.safetyStatus, opSafetyStatus), (.commissionLoad, opCommissionLoad),
      (.commissionConfirm, opCommissionConfirm), (.safetyResetArm, opSafetyResetArm), (.safetyResetConfirm, opSafetyResetConfirm),
      (.faultReadFirst, opFaultReadFirst), (.faultReadHistory, opFaultReadHistory), (.faultClear, opFaultClear), (.faultInject, opFaultInject),
      (.faultPolicy, opFaultPolicy), (.powerState, opPowerState), (.wakeConfig, opWakeConfig), (.timeGet, opTimeGet), (.timeSet, opTimeSet),
      (.calRun, opCalRun), (.calStatus, opCalStatus), (.defectMapRead, opDefectMapRead), (.bistRun, opBistRun), (.bistResult, opBistResult),
      (.updateBegin, opUpdateBegin), (.updateData, opUpdateData), (.updateVerify, opUpdateVerify), (.updateActivate, opUpdateActivate),
      (.updateConfirm, opUpdateConfirm), (.updateFallback, opUpdateFallback), (.updateStatus, opUpdateStatus), (.storeRead, opStoreRead),
      (.storeWrite, opStoreWrite), (.cascadeStatus, opCascadeStatus), (.cascadeMode, opCascadeMode), (.senseConfig, opSenseConfig),
      (.senseRead, opSenseRead), (.thermalStatus, opThermalStatus), (.thermalPolicy, opThermalPolicy)],
    (∀ (r : Req) (st : Status) (s : State), s.receives r.ring = true → s.executes r.ring p.2.code = true → s.repeated p.2 r = none →
      s.cascadeRoom (if s.widened p.2.code then 0x0F else r.target) = true → (s.follower = true ∨ s.admitted r.target = false ∨ r.target = 0 ∨ r.target = 0x0F) →
      s.barred p.2 r = some st →
      Answers (p.1 r) s (fun t =>
        ((s.follower = true → r.target ≠ 0x0F) →
            ∃ q ∈ t.ring (r.ring + 8), q.bytes = sealed s.tag (p.2.code + 0x8000) r.seq 0 s.position (le 2 st))
          ∧ (s.get Reg.SYS_CMD_COUNT.COUNT < Reg.SYS_CMD_COUNT.COUNT.max → t.get Reg.SYS_CMD_COUNT.COUNT = s.get Reg.SYS_CMD_COUNT.COUNT + 1)
          ∧ ((s.follower = true → r.target ≠ 0x0F) → s.get Reg.SYS_ERR_COUNT.COUNT < Reg.SYS_ERR_COUNT.COUNT.max → t.get Reg.SYS_ERR_COUNT.COUNT = s.get Reg.SYS_ERR_COUNT.COUNT + 1)
          ∧ t.proto.history = s.proto.history ∧ KeptBut [.now, .pwr, .regs, .rings, .proto, .casc] s t ∧ RegsKeptBut answerFields s t)) ∧
    (∀ (r : Req) (s : State), s.receives r.ring = true → s.executes r.ring p.2.code = false → s.ringRoom r.ring = true →
      Answers (p.1 r) s (fun t =>
        t.ring r.ring = s.ring r.ring ++ [packetOf r s.tag p.2.code (s.now + r.wait)] ∧ (∀ n, n ≠ r.ring → t.ring n = s.ring n)
          ∧ KeptBut [.now, .pwr, .rings] s t))

/-! ### The light frame (02) -/

/-- R52, R53, R58, R61, R63, R68: a row moves once its row slot is open; received whole and good before its deadline it is committed to the
shadow latches, and to no other row, with its row check; after a first parity error it is sent again if that can meet the deadline;
at the deadline a row not committed repeats. R54: a late reload commits its row again. -/
def Obligations.RowsAreCommittedWholeOrRepeat : Prop :=
  (∀ (level : Nat) (s : State), s.scan.running = true → s.scan.loading = true → s.scanHeld = false → s.scan.convKey.isSome = true →
    s.scan.inSlot = false → s.scan.row < 512 → s.scan.staged = false → s.scan.rowDone = false → s.scan.sent = false →
    Answers (.rowPacedLoad level) s (fun t =>
      t.scan.staged = true ∧ t.now = max s.now (s.tickAt (8 * s.scan.row)) ∧ t.get Reg.SCN_STATUS.LB_LEVEL = min level 4
        ∧ KeptBut [.now, .scan, .regs, .rings, .proto] s t)) ∧
  (∀ (transfers : Nat) (s : State), s.scan.running = true → s.scan.staged = true → s.scan.rowDone = false → s.scan.inSlot = false →
    s.scanHeld = false → s.scan.row < 512 → s.armed 0x24 = false → 102 ≤ transfers → s.now + 41 ≤ s.tickAt (8 * s.scan.row + 8) →
    Answers (.rowTransferReceived transfers false) s (fun t =>
      t.now = s.now + 41 ∧ t.scan.rowDone = true
        ∧ (∀ i, Assoc.get 0 t.scan.shadowPwm i = if i / 2048 = s.scan.row then Assoc.get 0 s.scan.convPwm i else Assoc.get 0 s.scan.shadowPwm i)
        ∧ (∀ n, Assoc.get 0 t.scan.shadowClass n = if n / 256 = s.scan.row then Assoc.get 0 s.scan.convClass n else Assoc.get 0 s.scan.shadowClass n)
        ∧ t.get (Reg.SCN_ROWCHK_BUILD.CHK s.scan.row) = rowCheck t.scan.shadowPwm t.scan.shadowClass s.scan.row % 2 ^ 32
        ∧ t.scan.activePwm = s.scan.activePwm ∧ KeptBut [.now, .scan, .regs, .rings, .proto] s t)) ∧
  (∀ (transfers : Nat) (s : State), s.scan.running = true → s.scan.staged = true → s.scan.rowDone = false → s.scan.inSlot = false →
    s.scanHeld = false →
    Answers (.rowTransferReceived transfers true) s (fun t =>
      t.scan.staged = (!s.scan.resent && decide (s.now + 82 ≤ s.tickAt (8 * s.scan.row + 8))) ∧ t.scan.rowDone = false
        ∧ t.scan.shadowPwm = s.scan.shadowPwm ∧ t.scan.shadowClass = s.scan.shadowClass
        ∧ (s.get Reg.SCN_D2D_ERR_COUNT.COUNT < Reg.SCN_D2D_ERR_COUNT.COUNT.max →
            t.get Reg.SCN_D2D_ERR_COUNT.COUNT = s.get Reg.SCN_D2D_ERR_COUNT.COUNT + 1)
        ∧ KeptBut [.now, .scan, .flt, .regs, .rings, .proto] s t)) ∧
  (∀ s : State, s.scan.running = true → s.scan.loading = true → s.scanHeld = false → s.scan.inSlot = false → s.scan.row < 512 →
    Answers .rowDeadline s (fun t =>
      t.now = max s.now (s.tickAt (8 * s.scan.row + 8)) ∧ t.scan.row = s.scan.row + 1 ∧ t.scan.staged = false ∧ t.scan.rowDone = false
        ∧ t.scan.repeats = (if s.scan.rowDone then s.scan.repeats else s.scan.row :: s.scan.repeats)
        ∧ (s.scan.rowDone = false → s.get Reg.SCN_ROW_REPEAT_COUNT.COUNT < Reg.SCN_ROW_REPEAT_COUNT.COUNT.max →
            t.get Reg.SCN_ROW_REPEAT_COUNT.COUNT = s.get Reg.SCN_ROW_REPEAT_COUNT.COUNT + 1)
        ∧ t.scan.shadowPwm = s.scan.shadowPwm ∧ KeptBut [.now, .scan, .flt, .regs, .rings, .proto] s t)) ∧
  (∀ (transfers row : Nat) (rest : List Nat) (s : State), s.scan.reloads = row :: rest → s.scan.running = true → s.scan.inSlot = false →
    s.scanHeld = false → s.now + 42 ≤ s.slotAt → s.armed 0x24 = false → 102 ≤ transfers →
    Answers (.lateReload transfers false) s (fun t =>
      t.now = s.now + 42 ∧ t.scan.reloads = rest
        ∧ (∀ i, Assoc.get 0 t.scan.shadowPwm i = if i / 2048 = row then Assoc.get 0 s.scan.convPwm i else Assoc.get 0 s.scan.shadowPwm i)
        ∧ (s.get Reg.SCN_RELOAD_COUNT.COUNT < Reg.SCN_RELOAD_COUNT.COUNT.max → t.get Reg.SCN_RELOAD_COUNT.COUNT = s.get Reg.SCN_RELOAD_COUNT.COUNT + 1)
        ∧ KeptBut [.now, .scan, .regs, .rings, .proto] s t))

/-- R71, R69, R372 to R376: at Sk every row's deadline has passed; at Sk + 200 the signatures of the row checks stand in their registers;
at Sk + 400 a box above DIM_Q_MAX is a lock-out cause 0x10, where no lock-out stands or runs; at Sk + 600 good signatures change
nothing but the SP's memory of them, and a row that differs at the taps, one of the four that the frame's number selects, is counted. -/
def Obligations.TheSlotIsSignedAndChecked : Prop :=
  (∀ s : State, s.scan.running = true → s.scan.inSlot = false →
    Answers .slotStart s (fun t =>
      t.now = max s.now s.slotAt ∧ t.scan.inSlot = true ∧ t.sp.limitDone = false ∧ t.scan.clips = []
        ∧ (s.scan.loading = true → s.scanHeld = false → 512 ≤ t.scan.row) ∧ t.scan.shadowPwm = s.scan.shadowPwm
        ∧ KeptBut [.now, .scan, .sp, .ks, .diag, .flt, .regs, .rings, .proto] s t)) ∧
  (∀ (arrives : Bool) (s : State), s.scan.running = true → s.scan.inSlot = true → s.scan.loading = true → s.scanHeld = false →
    Answers (.signatureCompute arrives) s (fun t =>
      let n := s.comingCount
      (s.casc.realign = none → n = (s.get Reg.SCN_FRAME_COUNT.COUNT + 1) % 2 ^ 32) ∧ t.now = max s.now (s.slotAt + 200) ∧ t.get Reg.SCN_SIG_CONTENT.SIG = s.contentSig % 2 ^ 32
        ∧ t.get Reg.SCN_SIG_WITNESS.SIG = s.witnessSig n % 2 ^ 32 ∧ t.get Reg.SCN_SIG_FRAME.COUNT = n % 2 ^ 32
        ∧ t.scan.received = (if arrives then some (s.witnessSig n) else s.scan.received) ∧ KeptBut [.now, .scan, .regs] s t
        ∧ RegsKeptBut [Reg.SCN_SIG_CONTENT.SIG, Reg.SCN_SIG_WITNESS.SIG, Reg.SCN_SIG_FRAME.COUNT] s t)) ∧
  (∀ (n : Nat) (s : State), s.scan.running = true → s.scan.inSlot = true → s.spUp = true → s.sp.limitDone = false → n < 128 →
    Block.dimQMax s.spBlock < s.boxFinal n → s.lockedOut = false → (∀ w ∈ s.flt.windows, w.reaction ≠ 6) →
    Answers .spLimitCheck s (fun t =>
      t.now = max s.now (s.slotAt + 400) ∧ t.sp.limitDone = true ∧ t.lockedOut = true ∧ t.get Reg.SAF_LOCKOUT.CAUSE = 0x10
        ∧ t.sram = s.sram ∧ t.nvm = s.nvm ∧ t.flash = s.flash)) ∧
  (∀ s : State, s.scan.running = true → s.scan.inSlot = true → s.spUp = true → s.sp.limitDone = false → s.cutFor = false →
    (∀ n < 128, s.boxFinal n ≤ Block.dimQMax s.spBlock) →
    Answers .spLimitCheck s (fun t =>
      t.now = max s.now (s.slotAt + 400) ∧ t.sp.limitDone = true
        ∧ (∀ n < 128, t.get (Reg.SAF_BOX_MAX.MAX n) = s.boxFinal n % 65536 ∧ t.get (Reg.SAF_BOX_MAX.OVER n) = 0) ∧ KeptBut [.now, .sp, .regs] s t)) ∧
  (∀ s : State, s.scan.running = true → s.scan.inSlot = true → s.spUp = true → s.scanHeld = false → s.sp.pause = 0 → s.scan.loading = true →
    s.armed 0x21 = false → s.armed 0x22 = false → s.get Reg.SCN_SIG_CONTENT.SIG = s.contentSig →
    s.get Reg.SCN_SIG_WITNESS.SIG = s.witnessSig s.comingCount → s.get Reg.SCN_SIG_FRAME.COUNT = s.comingCount → s.sp.changes = [] → s.sp.misses ≠ 3 →
    Answers (.spOutputCheck none) s (fun t =>
      t.now = max s.now (s.slotAt + 600) ∧ t.sp.lastSig = some (s.get Reg.SCN_SIG_CONTENT.SIG)
        ∧ t.sp.lastFrame = some s.comingCount ∧ KeptBut [.now, .sp] s t)) ∧
  (∀ (row : Nat) (s : State), s.scan.running = true → s.scan.inSlot = true → s.spUp = true → s.scanHeld = false → s.sp.pause = 0 →
    s.scan.loading = true → row / 4 = s.get Reg.SCN_FRAME_COUNT.COUNT % 128 → s.get Reg.SAF_OUTPUT_ERR_COUNT.COUNT < Reg.SAF_OUTPUT_ERR_COUNT.COUNT.max →
    Answers (.spOutputCheck (some row)) s (fun t =>
      t.get Reg.SAF_OUTPUT_ERR_COUNT.COUNT = s.get Reg.SAF_OUTPUT_ERR_COUNT.COUNT + 1 ∧ t.sp.lastOutputFault = some t.now
        ∧ t.now = max s.now (s.slotAt + 600) ∧ t.sram = s.sram ∧ t.nvm = s.nvm ∧ t.flash = s.flash))

/-- R55, R56, R62: at Sk + 4,200 a frame that is held or repeats is skipped, any other is to be swapped. R22, R44, R47: at the boundary the
active latches take the shadow values, or the shadow latches the active ones; the next frame begins with the count and period of
its own; no memory changes but the map-out mask of strings that a landing commit names. R50: a lock without input frames is lost. -/
def Obligations.FramesSwapOrCopyBackAtTheirBoundary : Prop :=
  (∀ s : State, s.scan.running = true → s.scan.inSlot = true → s.scan.decision = none → s.scan.loading = true → s.scanHeld = false →
    s.sp.limitDone = true → s.diag.slot = [] →
    Answers .swapDecision s (fun t =>
      t.now = max s.now (s.slotAt + 4200) ∧ t.scan.decision = some (!s.frameRepeats)
        ∧ (s.frameRepeats = true → s.get Reg.SCN_FRAME_REPEAT_COUNT.COUNT < Reg.SCN_FRAME_REPEAT_COUNT.COUNT.max →
            t.get Reg.SCN_FRAME_REPEAT_COUNT.COUNT = s.get Reg.SCN_FRAME_REPEAT_COUNT.COUNT + 1)
        ∧ (s.frameRepeats = false → KeptBut [.now, .scan, .diag] s t))) ∧
  (∀ s : State, s.scan.running = true → s.scan.inSlot = true → s.scan.decision = none → s.scanHeld = true → s.sp.limitDone = true →
    Answers .swapDecision s (fun t => t.scan.decision = some false ∧ t.now = max s.now (s.slotAt + 4200) ∧ KeptBut [.now, .scan] s t)) ∧
  (∀ (d : Bool) (s : State), s.scan.running = true → s.scan.inSlot = true → s.scan.decision = some d →
    Answers .lightFrameBoundary s (fun t =>
      (if d = true ∧ s.scan.loading = true ∧ s.scanHeld = false then t.scan.activePwm = s.scan.shadowPwm ∧ t.get Reg.SCN_STATUS.LAST_SWAP = 1
        else t.scan.activePwm = s.scan.activePwm ∧ t.scan.shadowPwm = s.scan.activePwm ∧ t.get Reg.SCN_STATUS.LAST_SWAP = 0)
        ∧ t.now = max s.now s.nextBoundary ∧ t.scan.frameStart = s.nextBoundary ∧ t.scan.inSlot = false
        ∧ (s.casc.realign = none → s.get Reg.SCN_FRAME_COUNT.COUNT < Reg.SCN_FRAME_COUNT.COUNT.max →
            t.get Reg.SCN_FRAME_COUNT.COUNT = s.get Reg.SCN_FRAME_COUNT.COUNT + 1)
        ∧ t.get Reg.SCN_FRAME_PERIOD.PERIOD = framePeriod (s.timing s.nextBoundary).1 (s.timing s.nextBoundary).2 % 2 ^ 19
        ∧ (∀ x, (∀ c, s.cal.pending = some c → ∀ p ∈ c.masked, x ≠ 0x01C30000 + p.1 / 8) → Memory.read 0 t.sram x = Memory.read 0 s.sram x)
        ∧ KeptBut [.now, .draws, .regs, .sram, .rings, .proto, .flt, .ks, .sp, .com, .pwr, .scan, .beam, .link, .casc, .cal, .sns, .tmp, .bst, .chk] s t)) ∧
  (∀ (last v : Nat) (s : State), s.scan.lastInput = some last → s.video15 = some v → s.scan.running = true →
    s.flag Reg.SCN_LOCK_CTRL.EN = true → s.follower = false →
    Answers .lockFrameTimeout s (fun t =>
      t.now = max s.now (last + 2 * v / 15) ∧ t.scan.inputTimes = [] ∧ t.scan.lastInput = none ∧ t.scan.video = none ∧ t.get Reg.SCN_LOCK_STATUS.STATE = 1 ∧ t.get Reg.SCN_LOCK_STATUS.N = 0
        ∧ KeptBut [.now, .scan, .regs, .rings, .proto] s t))

/-! ### String drive (03) -/

/-- R66, R82, R86, R146: a conversion makes of every string of the content in force at the coming boundary its class, lowered by DROP and the
cut-off limiter, and its PWM values times G / 4,096; a string in the map-out mask gets none. R87: the estimated power is at most the
budget, scaled by the throttle limit and the soft-start step. -/
def Obligations.ConversionScalesEveryStringWithinTheBudget : Prop :=
  ∀ s : State, s.scan.running = true → s.scan.loading = true → s.scanHeld = false → s.scan.convKey ≠ some s.convSource →
    Answers .driveConversion s (fun t =>
      t.scan.convKey = some s.convSource
        ∧ (∀ n < 131072, Assoc.get 0 t.scan.convClass n = s.classOut s.wordFor n (s.preview.convertString s.nextBoundary n).1
            ∧ ∀ j < 8, Assoc.get 0 t.scan.convPwm (8 * n + j) = nth 0 (s.preview.convertString s.nextBoundary n).2.1 j * t.get Reg.STR_GAIN.G / 4096)
        ∧ (∀ n < 131072, s.preview.mappedFor n = true → Assoc.get 0 t.scan.convClass n = 0 ∧ ∀ j < 8, Assoc.get 0 t.scan.convPwm (8 * n + j) = 0)
        ∧ (∃ j, (j = 8 ∨ j = s.scan.soft) ∧ 800 * t.get Reg.STR_POWER_EST.MW ≤ wordBudget s.wordFor * 100 * wordLimit s.wordFor * j)
        ∧ KeptBut [.scan, .regs] s t)

/-- R80: a conducting string held below 0.40 V sets its compliance flag, at or above 0.60 V it does not. R76, R138: above 5.0 V the clamp of an
open shunt acts in a pulse of 1.2 µs or more, and is a hint when the pulse is too short to be sampled; below 4.0 V it never acts.
R97: the limp plane's strings rise by one class every 50 µs. R90: VTRACK is held low while VTRACK_EN is 0 and by a reset of the controller, and
otherwise is high for 100 + VSET of every 1,000 base cycles. -/
def Obligations.StringsReportAndRamp : Prop :=
  (∀ (string mv : Nat) (s : State), s.regulatorRuns string = true → (s.scan.idle.find string).isNone = true → maxPwm s.scan.activePwm string ≠ 0 →
    Answers (.complianceFlag string mv) s (fun t =>
      (mv < 400 → Assoc.get 0 t.scan.compl string = 1) ∧ (600 ≤ mv → t.scan.compl = s.scan.compl)
        ∧ (∀ n, n ≠ string → Assoc.get 0 t.scan.compl n = Assoc.get 0 s.scan.compl n)
        ∧ t.scan.vregMin = min s.scan.vregMin (min 254 (mv / 10)) ∧ KeptBut [.scan] s t)) ∧
  (∀ (site mv : Nat) (s : State), s.limpLit (stringOf site) = false → s.driven = true → Assoc.get 0 s.scan.activePwm site ≠ 0 →
    s.scan.inSlot = false → Assoc.get 0 s.scan.byp site = 0 → Assoc.get 0 s.scan.clamped site = 0 → 5000 < mv →
    120 ≤ (if s.scan.split then partLen (Assoc.get 0 s.scan.activePwm site) 0 else Assoc.get 0 s.scan.activePwm site) * s.tickLen →
    Answers (.openClamp site mv) s (fun t =>
      Assoc.get 0 t.scan.clamped site = 1 ∧ (∀ i, i ≠ site → Assoc.get 0 t.scan.clamped i = Assoc.get 0 s.scan.clamped i)
        ∧ (s.get Reg.STR_CLAMP_COUNT.COUNT < Reg.STR_CLAMP_COUNT.COUNT.max → t.get Reg.STR_CLAMP_COUNT.COUNT = s.get Reg.STR_CLAMP_COUNT.COUNT + 1)
        ∧ t.diag.hints = s.diag.hints ++ (if s.flag Reg.DIAG_CTRL.FWD_EN && !sampledLit s.scan.split (Assoc.get 0 s.scan.activePwm site)
            then [site / 2048] else [])
        ∧ KeptBut [.scan, .diag, .regs, .rings, .proto] s t)) ∧
  (∀ (site mv : Nat) (s : State), mv < 4000 → Answers (.openClamp site mv) s (fun t => t = s)) ∧
  (∀ (from_ : Nat) (s : State), s.ks.rampAt = some from_ → s.get Reg.STR_LIMP_STATUS.CLASS < s.limpClass → s.ks.ramped = false →
    s.ksTested = false →
    Answers .limpRampStep s (fun t =>
      t.now = max s.now (from_ + us 50) ∧ t.ks.rampAt = some t.now
        ∧ t.get Reg.STR_LIMP_STATUS.CLASS = (s.get Reg.STR_LIMP_STATUS.CLASS + 1) % 64
        ∧ KeptBut [.now, .ks, .regs] s t ∧ RegsKeptBut [Reg.STR_LIMP_STATUS.CLASS] s t)) ∧
  (∀ (r : Req) (v : Nat) (s : State), s.accepts opRegWrite (withWrite 0x40900000 [v] r) → bit v 1 = false →
    Answers (.regWrite (withWrite 0x40900000 [v] r)) s (fun t => ∀ n, ({ t with now := t.now + n }).vtrack = false)) ∧
  (∀ (r : Req) (v : Nat) (s : State), s.accepts opRegWrite (withWrite 0x40900000 [v] r) → bit v 1 = true → s.scan.vtrackFrom = none →
    s.phase ≠ .dark → s.phase ≠ .alwaysOn →
    Answers (.regWrite (withWrite 0x40900000 [v] r)) s (fun t =>
      ∀ n, ({ t with now := t.now + n }).vtrack = decide (n % 1000 < 100 + s.get Reg.STR_POWER_LIMIT.VSET))) ∧
  (∀ (n : Nat) (s : State), s.phase ≠ .dark → 1000 ≤ n → Answers (.resetNLow n) s (fun t => ∀ k, ({ t with now := t.now + k }).vtrack = false)) ∧
  (∀ s : State, s.scan.running = true → s.scan.loading = true → s.scanHeld = false → s.scan.convKey ≠ some s.convSource →
    Answers .driveConversion s (fun t => t.scan.convKey = some s.convSource ∧ t.now = s.now ∧ t.scan.activePwm = s.scan.activePwm))

/-! ### Calibration (04) -/

/-- R129, R114, R115, R123, R84, R126: an accepted CAL_RUN starts its run; the run's commit waits to land, holds the states that R114 and
R115 give every site of its tiles, and has written only the copies of its tiles that are not front; with a table that R84 refuses
nothing is written and the result is REFUSED. R116: the follow-up commit of the changed tiles is no calibration. -/
def Obligations.CalibrationRunsAndFollowUpsCommit : Prop :=
  (∀ (r : Req) (s : State), s.accepts opCalRun r → (bit (leAt r.params 0 1) 3 = true → s.id.lifecycle = .manufacture) → s.calBusy = false → s.pwr.entry = none →
    leAt r.params 0 1 ≠ 0 → leAt r.params 0 1 < 16 → leAt r.params 1 1 = 0 →
    (List.range 256).filter (fun n => bit (leAt r.params (2 + n / 8) 1) (n % 8)) ≠ [] →
    Answers (.calRun r) s (fun t =>
      t.cal.run = some ⟨leAt r.params 0 1, (List.range 256).filter (fun n => bit (leAt r.params (2 + n / 8) 1) (n % 8)), t.now, []⟩
        ∧ t.get Reg.CAL_STATUS.STATE = 1 ∧ KeptBut [.now, .pwr, .cal, .regs, .rings, .proto, .casc] s t
        ∧ RegsKeptBut (Reg.CAL_STATUS.STATE :: answerFields) s t)) ∧
  (∀ (r : CalRun) (s : State), s.cal.run = some r → s.cal.pending = none → s.mpUp = true →
    (∀ n ∈ r.tiles, tableBad (s.cal.table (toSigned 16 (s.get (Reg.TMP_TILE.THETA n)))) = false) →
    Answers .calRunCommit s (fun t =>
      t.get Reg.CAL_STATUS.STATE = 2 ∧ t.cal.run = none
        ∧ (∃ c, t.cal.pending = some c ∧ c.at_ = s.now ∧ c.run = true ∧ (∀ n ∈ r.tiles, n ∈ c.tiles)
            ∧ (∀ n ∈ r.tiles, ∀ i ∈ tilePixels n, s.stateIn c.states i = (s.runSite r i).1)
            ∧ (∀ x, (∀ n ∈ c.tiles, ∀ i ∈ tilePixels n, x ≠ defectBase (1 - s.front n) + i / 4 ∧ ∀ k < 3, x ≠ gainBase (1 - s.front n) k + i) →
                Memory.read 0 t.sram x = Memory.read 0 s.sram x))
        ∧ KeptBut [.sram, .cal, .regs] s t ∧ RegsKeptBut [Reg.CAL_STATUS.STATE] s t)) ∧
  (∀ (r : CalRun) (n : Nat) (s : State), s.cal.run = some r → s.cal.pending = none → s.mpUp = true → n ∈ r.tiles →
    tableBad (s.cal.table (toSigned 16 (s.get (Reg.TMP_TILE.THETA n)))) = true →
    Answers .calRunCommit s (fun t =>
      t.get Reg.CAL_STATUS.STATE = 0 ∧ t.get Reg.CAL_STATUS.LAST_RESULT = 3 ∧ t.cal.run = none ∧ t.cal.pending = none
        ∧ KeptBut [.cal, .flt, .regs, .rings, .proto] s t)) ∧
  (∀ (a : Nat) (s : State), s.cal.followAt = some a → s.cal.pending = none → s.mpUp = true →
    Answers .defectFollowupCommit s (fun t =>
      t.cal.followAt = none ∧ t.cal.followTiles = []
        ∧ (∃ c, t.cal.pending = some c ∧ c.at_ = s.now ∧ c.run = false ∧ (∀ n ∈ s.cal.followTiles, n ∈ c.tiles)
            ∧ (∀ x, (∀ n ∈ c.tiles, ∀ i ∈ tilePixels n, x ≠ defectBase (1 - s.front n) + i / 4 ∧ ∀ k < 3, x ≠ gainBase (1 - s.front n) k + i) →
                Memory.read 0 t.sram x = Memory.read 0 s.sram x))
        ∧ KeptBut [.sram, .cal] s t))

/-- R105, R106, R127: the completion of a run counts it, keeps its time, ends with DONE, has written the home blocks of its tiles and,
with external flash, the whole store to the backup: its data begins 12,288 bytes into the container of the default layout. R128: the automatic run starts when AUTO_INTERVAL hours of on-time have passed. -/
def Obligations.CalibrationsCompleteAndStartAgain : Prop :=
  (∀ (c : CalCommit) (s : State), s.cal.writing = some c → c.run = true →
    Answers .calibrationComplete s (fun t =>
      t.cal.writing = none ∧ t.get Reg.CAL_STATUS.STATE = 0 ∧ t.get Reg.CAL_STATUS.LAST_RESULT = 1
        ∧ (s.get Reg.CAL_COUNT.COUNT < Reg.CAL_COUNT.COUNT.max → t.get Reg.CAL_COUNT.COUNT = s.get Reg.CAL_COUNT.COUNT + 1)
        ∧ t.get Reg.CAL_LAST_LO.TIME = s.time % 2 ^ 32
        ∧ (∀ x, (∀ n ∈ c.tiles, (x < 0x20608000 + 1024 * n ∨ 0x20608000 + 1024 * n + 1024 ≤ x)
              ∧ (x < 0x20648000 + 2048 * n ∨ 0x20648000 + 2048 * n + 2048 ≤ x)) →
              (x < 0x207E8000 ∨ 0x207E9000 ≤ x) → Memory.read 0 t.nvm x = Memory.read 0 s.nvm x)
        ∧ (s.ramStore = true → t.flash = s.flash)
        ∧ (s.ramStore = false → ∀ k n, s.container 4 = { s.newContainer 4 with copy := k, seq := n } →
            (t.backupEntry.map (fun e => (e.offset, e.length)) = some (12288, 0x200000))
              ∧ (∀ k < 0x200000, Memory.read 0xFF t.flash (0x00813000 + k) = byte (t.nvmByte (0x20600000 + k)))
              ∧ (∀ x, (x < 0x00810000 ∨ 0x00C10000 ≤ x) → Memory.read 0xFF t.flash x = Memory.read 0xFF s.flash x))
        ∧ KeptBut [.nvm, .flash, .cal, .lib, .flt, .regs, .rings, .proto] s t)) ∧
  (∀ (c : CalCommit) (s : State), s.cal.writing = some c → c.run = false →
    Answers .calibrationComplete s (fun t =>
      t.cal.writing = none ∧ t.get Reg.CAL_COUNT.COUNT = s.get Reg.CAL_COUNT.COUNT ∧ t.get Reg.CAL_STATUS.STATE = s.get Reg.CAL_STATUS.STATE
        ∧ t.get Reg.CAL_STATUS.LAST_RESULT = s.get Reg.CAL_STATUS.LAST_RESULT ∧ KeptBut [.nvm, .cal, .flt, .regs, .rings, .proto] s t)) ∧
  (∀ s : State, s.flag Reg.CAL_CTRL.AUTO_EN = true → s.calBusy = false → (s.power = 1 ∨ s.power = 2) → s.mpUp = true →
    Answers .autoCalibrationStart s (fun t =>
      t.now = s.now + ms (s.cal.calOn + s.get Reg.CAL_CTRL.AUTO_INTERVAL * 3600000 - s.onMs) ∧ t.cal.run = some ⟨3, List.range 256, t.now, []⟩
        ∧ t.get Reg.CAL_STATUS.STATE = 1 ∧ KeptBut [.now, .cal, .regs] s t ∧ RegsKeptBut [Reg.CAL_STATUS.STATE] s t))

/-- R117: a second after the last time the MP adds what each tile's accumulator holds to its equivalent hours and empties the
accumulators; every hour of on-time the hours are recorded. R130, R131: CAL_STATUS and DEFECT_MAP_READ read. -/
def Obligations.AgeingIsAccumulatedAndCalibrationIsRead : Prop :=
  (∀ s : State, s.mpUp = true →
    Answers .ageingAccumulate s (fun t =>
      t.now = max s.now (s.cal.accAt + ms 1000) ∧ t.cal.acc = [] ∧ t.cal.accAt = t.now
        ∧ ((s.cal.acc.map (fun p => p.1)).Nodup → ∀ p ∈ s.cal.acc,
            Assoc.get 0 t.cal.et p.1 = Assoc.get 0 s.cal.et p.1 + etGain p.2 s.period (toSigned 16 (s.get (Reg.TMP_TILE.THETA p.1))))
        ∧ (∀ n, (∀ p ∈ s.cal.acc, p.1 ≠ n) → Assoc.get 0 t.cal.et n = Assoc.get 0 s.cal.et n)
        ∧ (∀ x, (x < 0x01A00000 ∨ 0x01C00000 ≤ x) → Memory.read 0 t.sram x = Memory.read 0 s.sram x)
        ∧ KeptBut [.now, .sram, .cal] s t)) ∧
  (∀ s : State, s.mpUp = true → s.power ≤ 2 →
    Answers .etRecordWrite s (fun t =>
      t.now = s.now + ms (s.cal.etOn + 3600000 - s.onMs) ∧ t.cal.etRecord = s.cal.et ∧ t.cal.et = s.cal.et ∧ t.cal.etOn = t.onMs
        ∧ KeptBut [.now, .cal] s t)) ∧
  (∀ (r : Req) (s : State), s.accepts opCalStatus r → s.answers r →
    Answers (.calStatus r) s (fun t => ∃ res, Replied s t opCalStatus r res ∧ res.length = 38
      ∧ leAt res 0 1 = s.get Reg.CAL_STATUS.STATE % 256 ∧ leAt res 1 1 = s.get Reg.CAL_STATUS.LAST_RESULT % 256
      ∧ leAt res 2 4 = s.get Reg.CAL_COUNT.COUNT % 2 ^ 32 ∧ leAt res 18 4 = s.get Reg.CAL_SPARE_COUNT.COUNT % 2 ^ 32
      ∧ leAt res 22 4 = s.get Reg.CAL_DARK_COUNT.COUNT % 2 ^ 32 ∧ KeptBut [.now, .pwr, .regs, .rings, .proto, .casc] s t
      ∧ RegsKeptBut answerFields s t)) ∧
  (∀ (r : Req) (s : State), s.accepts opDefectMapRead r → s.answers r → leAt r.params 0 1 = 1 → leAt r.params 1 1 = 0 → leAt r.params 2 4 < 512 →
    Answers (.defectMapRead r) s (fun t => ∃ res, Replied s t opDefectMapRead r res ∧ res.length = 514 ∧ leAt res 0 2 = leAt r.params 2 4
      ∧ (∀ x < 2048, bits (leAt res (2 + x / 4) 1) (2 * (x % 4)) 2 = s.siteState (2048 * leAt r.params 2 4 + x))
      ∧ KeptBut [.now, .pwr, .regs, .rings, .proto, .casc] s t ∧ RegsKeptBut answerFields s t)) ∧
  (∀ (r : Req) (s : State), s.accepts opDefectMapRead r → s.answers r → leAt r.params 0 1 = 0 → leAt r.params 1 1 = 0 →
    leAt r.params 2 4 < 1048576 →
    Answers (.defectMapRead r) s (fun t => ∃ res, Replied s t opDefectMapRead r res ∧ leAt res 0 2 ≤ 250 ∧ res.length = 6 + 4 * leAt res 0 2
      ∧ (∀ k < leAt res 0 2, leAt r.params 2 4 ≤ bits (leAt res (6 + 4 * k) 4) 0 20
          ∧ s.siteState (bits (leAt res (6 + 4 * k) 4) 0 20) = bits (leAt res (6 + 4 * k) 4) 20 2 ∧ bits (leAt res (6 + 4 * k) 4) 20 2 ≠ 0)
      ∧ KeptBut [.now, .pwr, .regs, .rings, .proto, .casc] s t ∧ RegsKeptBut answerFields s t))

/-! ### Diagnosis and sensing (05) -/

/-- R133 to R137: a lit sample comes at the end of the fourth tick of the pulse; a clamped site is OPEN at once, the second LOW or
STUCK_OPEN sample in a row confirms its finding, a void sample is only counted, a site is sampled once in a frame for each kind; a good lit sample in the site's turn is written
to the VF map, and to nothing else. -/
def Obligations.ForwardSamplesConfirmFindings : Prop :=
  (∀ (site mv : Nat) (void : Bool) (s : State), s.forwardOn (stringOf site) = true →
    sampledLit s.scan.split (Assoc.get 0 s.scan.activePwm site) = true → Assoc.get 0 s.diag.sampled (2 * site) = 0 →
    Answers (.fwdLitSample site mv void) s (fun t =>
      let p := Assoc.get 0 s.scan.activePwm site
      t.now = max s.now (s.tickAt ((if s.scan.split then partStart (stringOf site) p 0 else pulseStart (stringOf site) p) + 4))
        ∧ (Assoc.get 0 s.scan.clamped site = 1 → ⟨site, 1, Assoc.get 0 s.scan.sel site == 1, 0⟩ ∈ t.diag.pending)
        ∧ (void = true → t.diag.lit = s.diag.lit ∧ t.sram = s.sram ∧ (s.get Reg.DIAG_VOID_COUNT.COUNT < Reg.DIAG_VOID_COUNT.COUNT.max →
            t.get Reg.DIAG_VOID_COUNT.COUNT = s.get Reg.DIAG_VOID_COUNT.COUNT + 1))
        ∧ (void = false → mv < 1000 → (if Assoc.get 0 s.diag.lit (2 * site) = 1 then ⟨site, 2, Assoc.get 0 s.scan.sel site == 1, 0⟩ ∈ t.diag.pending
            else Assoc.get 0 t.diag.lit (2 * site) = 1) ∧ t.sram = s.sram)
        ∧ (void = false → 1600 ≤ mv → Assoc.get 0 t.diag.lit (2 * site) = 0
            ∧ (site % 8 = (s.get Reg.SCN_FRAME_COUNT.COUNT + stringOf site) % 8 → Assoc.get 0 s.scan.activeClass (stringOf site) < 64 →
                Assoc.get 0 s.scan.sel site ≤ 1 →
                bit (Memory.read 0 t.sram (0x01A00000 + 2 * site + 1)).toNat 7 = true))
        ∧ (∀ x, (x < 0x01A00000 + 2 * site ∨ 0x01A00000 + 2 * site + 2 ≤ x) → Memory.read 0 t.sram x = Memory.read 0 s.sram x)
        ∧ KeptBut [.now, .draws, .diag, .sram, .regs, .rings, .proto] s t)) ∧
  (∀ (site mv a : Nat) (s : State), s.forwardOn (stringOf site) = true → s.darkTick site = some a →
    Assoc.get 0 s.diag.sampled (2 * site + 1) = 0 →
    Answers (.fwdDarkSample site mv false) s (fun t =>
      t.now = max s.now (s.tickAt (a + 4)) ∧ (1500 < mv → if Assoc.get 0 s.diag.lit (2 * site + 1) = 1 then ⟨site, 3, Assoc.get 0 s.scan.sel site == 1, 0⟩ ∈ t.diag.pending
          else Assoc.get 0 t.diag.lit (2 * site + 1) = 1)
        ∧ (mv ≤ 500 → Assoc.get 0 t.diag.lit (2 * site + 1) = 0 ∧ t.diag.pending = s.diag.pending) ∧ KeptBut [.now, .diag] s t)) ∧
  (∀ s : State, s.scan.running = true → s.scan.inSlot = true → s.get Reg.SCN_FRAME_COUNT.COUNT % 2 = 0 → s.flag Reg.DIAG_CTRL.PROBE_EN = true →
    s.diag.probed < 4 → Answers (.openProbeRow []) s (fun t => t.diag.probed = s.diag.probed + 1 ∧ t.diag.pending = s.diag.pending))

/-- R139 to R142: in the slot of an even frame the probe takes the next of its four sweep rows, 8 µs after the last; a second OPEN of the
emitter in use of a PRIMARY site in a row is confirmed; where all sites measure sound nothing is found and no row queued. The
fifth row is the priority row chosen at Sk, which leaves the queue. -/
def Obligations.TheOpenProbeSweepsRows : Prop :=
  (∀ (readings : List Probe) (s : State), s.scan.running = true → s.scan.inSlot = true → s.get Reg.SCN_FRAME_COUNT.COUNT % 2 = 0 →
    s.flag Reg.DIAG_CTRL.PROBE_EN = true → s.diag.probed < 4 →
    Answers (.openProbeRow readings) s (fun t =>
      let q := s.get Reg.SCN_FRAME_COUNT.COUNT / 2 % 128
      t.now = max s.now (s.slotAt + 100 + 800 * (s.diag.probed + 1)) ∧ t.diag.probed = s.diag.probed + 1 ∧ t.get Reg.DIAG_STATUS.GROUP = q
        ∧ (∀ (site : Nat) (x : Probe), site / 2048 = 4 * q + s.diag.probed → s.limpLit (stringOf site) = false → s.siteState site = 0 →
            Assoc.get 0 s.diag.probe (4 * site) = 1 → readings.find? (fun r => r.col == site % 2048 && r.phase == 0) = some x → x.cap < 30 →
            ⟨site, 1, false, 1⟩ ∈ t.diag.slot)
        ∧ (readings = [] → t.diag.slot = s.diag.slot ∧ t.diag.queue = s.diag.queue)
        ∧ KeptBut [.now, .diag, .regs, .rings, .proto] s t)) ∧
  (∀ (readings : List Probe) (row : Nat) (s : State), s.scan.running = true → s.scan.inSlot = true →
    s.get Reg.SCN_FRAME_COUNT.COUNT % 2 = 0 → s.flag Reg.DIAG_CTRL.PROBE_EN = true → s.diag.probed = 4 → s.diag.prio = some row →
    Answers (.openProbeRow readings) s (fun t =>
      t.now = max s.now (s.slotAt + 4100) ∧ t.diag.probed = 5 ∧ t.diag.prio = none
        ∧ (readings = [] → t.diag.queue = s.diag.queue.filter (fun x => x.1 != row) ∧ t.diag.slot = s.diag.slot)
        ∧ KeptBut [.now, .diag, .regs, .rings, .proto] s t))

/-- R150 to R156, R159: a reading in the slot of an odd frame counts SEQ, writes only the sensing maps, the bright-source map its measured
values. R154: a zone's presence clears PRESENCE_HOLD seconds after its last qualifying bin. R157, R158: SENSE_CONFIG waits for the
next reading; SENSE_READ answers a row of a map. -/
def Obligations.ReverseSensingReadsItsMaps : Prop :=
  (∀ (lux : List Nat) (s : State), s.scan.running = true → s.scan.inSlot = true → s.get Reg.SCN_FRAME_COUNT.COUNT % 2 = 1 →
    Answers (.reverseSensingReading lux) s (fun t =>
      t.now = max s.now (s.slotAt + 4100) ∧ t.sns.config = none
        ∧ (s.get Reg.SNS_SEQ.SEQ < Reg.SNS_SEQ.SEQ.max → t.get Reg.SNS_SEQ.SEQ = s.get Reg.SNS_SEQ.SEQ + 1)
        ∧ (s.sns.config = none → bit (s.get Reg.SNS_CTRL.ENABLE) 1 = true → ∀ b < 16384,
            Memory.readN 0 t.sram (0x01C08000 + 2 * b) 2 = le 2 (min 65535 (nth 0 lux b)))
        ∧ (∀ x, (x < 0x01C00000 ∨ (0x01C30000 ≤ x ∧ x < 0x01C34000) ∨ 0x01C38000 ≤ x) → Memory.read 0 t.sram x = Memory.read 0 s.sram x)
        ∧ KeptBut [.now, .sram, .sns, .regs, .rings, .proto] s t)) ∧
  (∀ (zone last : Nat) (s : State), zone < 8 → s.sns.heldAt.find zone = some last → bit (s.get Reg.SNS_STATUS.PRESENCE) zone = true →
    Answers (.presenceHoldExpiry zone) s (fun t =>
      t.now = max s.now (last + ms (1000 * s.get Reg.SNS_ZONE_CFG.PRESENCE_HOLD)) ∧ bit (t.get Reg.SNS_STATUS.PRESENCE) zone = false
        ∧ t.get (Reg.SNS_ZONE_LEVEL.PRESENT zone) = 0 ∧ t.sns.heldAt.find zone = none ∧ KeptBut [.now, .sns, .regs, .rings, .proto] s t
        ∧ RegsKeptBut [Reg.SNS_STATUS.PRESENCE, Reg.SNS_ZONE_LEVEL.PRESENT zone] s t)) ∧
  (∀ (r : Req) (s : State), s.accepts opSenseConfig r → s.senseBad r.params = false →
    Answers (.senseConfig r) s (fun t =>
      t.sns.config = some r.params ∧ KeptBut [.now, .pwr, .sns, .regs, .rings, .proto, .casc] s t ∧ RegsKeptBut answerFields s t)) ∧
  (∀ (r : Req) (s : State), s.accepts opSenseRead r → s.answers r → leAt r.params 0 1 < 4 → leAt r.params 1 1 = 0 → leAt r.params 2 2 ≤ 63 →
    Answers (.senseRead r) s (fun t => ∃ res, Replied s t opSenseRead r res ∧ res.length = 554
      ∧ leAt res 0 1 = leAt r.params 0 1 ∧ leAt res 2 4 = s.get Reg.SNS_SEQ.SEQ % 2 ^ 32 ∧ leAt res 6 2 = leAt r.params 2 2
      ∧ (s.sns.mean.isSome = true → bit (s.get Reg.SNS_CTRL.ENABLE) (nth 0 [0, 1, 1, 2] (leAt r.params 0 1)) = true →
          res.drop 42 = Memory.readN 0 s.sram (0x01C00000 + 0x8000 * leAt r.params 0 1 + 512 * leAt r.params 2 2) 512)
      ∧ KeptBut [.now, .pwr, .regs, .rings, .proto, .casc] s t ∧ RegsKeptBut answerFields s t)) ∧
  (∀ (r : Req) (s : State), s.accepts opSenseRead r → s.answers r → leAt r.params 0 1 = 4 → leAt r.params 1 1 = 0 →
    Answers (.senseRead r) s (fun t => ∃ res, Replied s t opSenseRead r res ∧ res.length = 70
      ∧ KeptBut [.now, .pwr, .regs, .rings, .proto, .casc] s t ∧ RegsKeptBut answerFields s t))

/-! ### Beam synthesis (06) -/

/-- R164, R26, Table 6-6: an accepted selection of a resident base, without PRELOAD and with no crossfade running, is the base of
the working copy that the CP commits, and nothing but beam synthesis, the link's fallback marks and the answer changes. -/
def Obligations.ASelectedBaseStandsInTheWorkingCopy : Prop :=
  ∀ (r : Req) (s : State), s.accepts opSelectPattern r → (s.get Reg.BEAM_STATUS.WATCH < 2 ∨ s.beam.listSince = true) →
    s.flag Reg.BEAM_STATUS.LOADING = false → s.flag Reg.BEAM_STATUS.XFADE = false →
    leAt r.params 2 1 ≤ 2 → leAt r.params 3 1 ≤ 3 → bit (leAt r.params 3 1) 0 = false → leAt r.params 4 2 ≤ 10000 → leAt r.params 6 2 = 0 →
    (leAt r.params 2 1 ≠ 0 ∨ (leAt r.params 0 2 ≤ 255 ∧ (s.bufferOf (leAt r.params 0 2)).isSome = true)) →
    Answers (.beamSelectPattern r) s (fun t =>
      t.beam.work.base.source = leAt r.params 2 1 ∧ t.beam.work.base.pattern = leAt r.params 0 2
        ∧ t.beam.work.base.fadeMs = leAt r.params 4 2 ∧ t.beam.work.base.perceptual = bit (leAt r.params 3 1) 1
        ∧ KeptBut [.now, .pwr, .beam, .link, .regs, .rings, .proto, .casc] s t)

/-- R173, R174, R179, Tables 6-2 and 6-7: an accepted BEAM_OBJECT_SET puts its object into the context it names, and an accepted
BEAM_OBJECT_CLEAR releases every context that it names and that is not FREE. -/
def Obligations.ObjectCommandsSetAndReleaseContexts : Prop :=
  (∀ (r : Req) (s : State), s.accepts opObjectSet r → s.entryState (r.params.drop 4) = false → s.entryBad (r.params.drop 4) = false →
    s.pinsOver [readEntry (r.params.drop 4)] = false →
    leAt r.params 0 1 ≤ 1 → leAt r.params 1 3 = 0 → leAt (r.params.drop 4) 1 1 ≠ 0 →
    Answers (.beamObjectSet r) s (fun t =>
      (∃ c, t.beam.work.ctxs.find (leAt (r.params.drop 4) 0 1) = some c ∧ c.entry = readObj (r.params.drop 4) ∧ c.releasing = false)
        ∧ KeptBut [.now, .pwr, .beam, .lib, .regs, .rings, .proto, .casc] s t)) ∧
  (∀ (r : Req) (s : State), s.accepts opObjectClear r → leAt r.params 0 1 ≤ 7 → leAt r.params 1 3 = 0 →
    Answers (.beamObjectClear r) s (fun t =>
      (∀ n c, n < 128 → (bit (leAt r.params 0 1) 1 = true ∨ bit (leAt r.params 4 16) n = true) → s.beam.work.ctxs.find n = some c →
        ∃ c', t.beam.work.ctxs.find n = some c' ∧ c'.releasing = true ∧ c'.entry = c.entry)
        ∧ KeptBut [.now, .pwr, .beam, .regs, .rings, .proto, .casc] s t)) ∧
  (∀ (r : Req) (s : State), s.accepts opSelectPattern r → (s.get Reg.BEAM_STATUS.WATCH < 2 ∨ s.beam.listSince = true) →
    s.flag Reg.BEAM_STATUS.LOADING = false → s.flag Reg.BEAM_STATUS.XFADE = false → leAt r.params 2 1 = 2 → leAt r.params 3 1 = 0 →
    leAt r.params 4 2 = 0 → leAt r.params 6 2 = 0 →
    Answers (.beamSelectPattern r) s (fun t => t.beam.work.base.source = 2 ∧ t.beam.work.ctxs = s.beam.work.ctxs))

/-- R181 to R184, Table 6-8: a list of one part is complete with it: it is no longer assembled and its number is the last one;
the first of several parts begins an assembly that holds it. R182: an assembly not completed is discarded 20 ms to 21 ms after its
first part. -/
def Obligations.ObjectListsAreAssembledOrDiscarded : Prop :=
  (∀ (r : Req) (s : State), s.accepts opObjectList r → s.beam.list = none → leAt r.params 2 1 < leAt r.params 3 1 → leAt r.params 3 1 ≤ 5 →
    leAt r.params 5 1 ≤ 1 → leAt r.params 6 2 = 0 →
    (∀ e ∈ partEntries (leAt r.params 4 1) (r.params.drop 8), s.entryState e = false ∧ s.entryBad e = false) →
    s.pinsOver ((partEntries (leAt r.params 4 1) (r.params.drop 8)).map readEntry) = false →
    ((partEntries (leAt r.params 4 1) (r.params.drop 8)).map (fun e => (readEntry e).1)).Nodup →
    Answers (.beamObjectList r) s (fun t =>
      (if leAt r.params 3 1 = 1 then t.beam.list = none ∧ t.get Reg.BEAM_LIST_SEQ.LAST = leAt r.params 0 2
        else (∃ a, t.beam.list = some a ∧ a.seq = leAt r.params 0 2 ∧ a.have_ = [leAt r.params 2 1])
          ∧ t.get Reg.BEAM_LIST_SEQ.PENDING = leAt r.params 0 2)
        ∧ KeptBut [.now, .pwr, .beam, .lib, .regs, .rings, .proto, .casc] s t)) ∧
  (∀ (a : ListAssembly) (s : State), s.beam.list = some a →
    Answers .objectListTimeout s (fun t =>
      t.beam.list = none ∧ t.get Reg.BEAM_LIST_SEQ.PENDING = 0 ∧ a.firstAt + ms 20 ≤ t.now ∧ t.now ≤ max s.now (a.firstAt + ms 21)
        ∧ KeptBut [.now, .draws, .beam, .regs, .rings, .proto] s t))

/-- R168 to R171, Table 6-9: in READY, part 0 of a field map is staged; part 1 with APPLY and the same grid makes the map of both
parts the working copy's, when it is valid. Table 6-10: FADE_SET gives a context its level, fade time and curve. -/
def Obligations.FieldMapsAndFadesReachTheWorkingCopy : Prop :=
  (∀ (r : Req) (s : State), s.accepts opFieldMap r → s.power = 2 → leAt r.params 0 1 = 0 → leAt r.params 1 1 = 0 → leAt r.params 2 2 = 0 →
    1 ≤ leAt r.params 8 2 → leAt r.params 8 2 ≤ 32767 → 1 ≤ leAt r.params 10 2 → leAt r.params 10 2 ≤ 32767 →
    Answers (.beamFieldMap r) s (fun t =>
      t.beam.part0 = some r.params ∧ KeptBut [.now, .pwr, .beam, .regs, .rings, .proto, .casc] s t ∧ RegsKeptBut answerFields s t)) ∧
  (∀ (r : Req) (q : List Byte) (s : State), s.accepts opFieldMap r → s.power = 2 → leAt r.params 0 1 = 1 → leAt r.params 1 1 = 1 →
    leAt r.params 2 2 = 0 → 1 ≤ leAt r.params 8 2 → leAt r.params 8 2 ≤ 32767 → 1 ≤ leAt r.params 10 2 → leAt r.params 10 2 ≤ 32767 →
    s.beam.part0 = some q → (q.drop 4).take 8 = (r.params.drop 4).take 8 → (mapOf q r.params).valid = true →
    Answers (.beamFieldMap r) s (fun t =>
      t.beam.work.map = some (mapOf q r.params) ∧ KeptBut [.now, .pwr, .beam, .regs, .rings, .proto, .casc] s t)) ∧
  (∀ (r : Req) (c : Ctx) (s : State), s.accepts opFadeSet r → s.beam.work.ctxs.find (leAt r.params 0 1) = some c → leAt r.params 1 1 ≤ 3 →
    leAt r.params 2 2 ≤ 10000 → leAt r.params 6 2 = 0 → (c.entry.type = 1 → leAt r.params 4 2 ≤ 4096) →
    Answers (.fadeSet r) s (fun t =>
      (∃ c', t.beam.work.ctxs.find (leAt r.params 0 1) = some c' ∧ c'.entry.level = leAt r.params 4 2 ∧ c'.entry.fadeMs = leAt r.params 2 2
          ∧ c'.entry.perceptual = bit (leAt r.params 1 1) 1)
        ∧ KeptBut [.now, .pwr, .beam, .regs, .rings, .proto, .casc] s t))

/-- R185 to R188: in ACTIVE with WATCH_EN, T1 after the last complete list WATCH becomes GROWING and T2 after it FALLBACK, each
with its event; with the stale-list pattern still not resident 20 ms after T2 the base goes dark and WATCH becomes DARK. -/
def Obligations.TheSilentHostIsNoticedInThreeSteps : Prop :=
  (∀ s : State, s.watching = true → s.get Reg.BEAM_STATUS.WATCH = 0 →
    Answers .watchT1Expiry s (fun t =>
      t.get Reg.BEAM_STATUS.WATCH = 1 ∧ t.now = max s.now (s.listBase + ms (s.get Reg.BEAM_WATCH.T1))
        ∧ KeptBut [.now, .beam, .regs, .rings, .proto] s t ∧ RegsKeptBut [Reg.BEAM_STATUS.WATCH] s t)) ∧
  (∀ s : State, s.watching = true → s.get Reg.BEAM_STATUS.WATCH = 1 →
    Answers .watchT2Expiry s (fun t =>
      t.get Reg.BEAM_STATUS.WATCH = 2 ∧ t.now = max s.now (s.listBase + ms (s.get Reg.BEAM_WATCH.T2))
        ∧ KeptBut [.now, .beam, .regs, .rings, .proto] s t)) ∧
  (∀ (t2 : Nat) (s : State), s.bufferOf (s.get Reg.BEAM_STALE.PATTERN) = none → s.beam.t2At = some t2 → s.link.fallAt = none →
    s.get Reg.BEAM_STATUS.WATCH = 2 →
    Answers .staleLoadTimeout s (fun t =>
      t.get Reg.BEAM_STATUS.WATCH = 3 ∧ t.beam.work.base.source = 2 ∧ t.beam.work.dimmer.target = 0
        ∧ t.get Reg.SAF_STATUS.SP_LIMP = 1 ∧ t.now = max s.now (t2 + ms 20)
        ∧ KeptBut [.now, .beam, .link, .regs, .rings, .proto, .ks, .scan] s t))

/-- R164, R167: a load ends: an entry that can be read and passes its checks then stands in the base buffer that takes it; while all three
are in use the load waits (the model's choice: notes/assumptions/76.md); an entry that cannot be read leaves the buffers as
they were. R166: an ended crossfade clears XFADE and a queued selection becomes the base of the working copy. R178, R179: a releasing
context whose fade has ended is FREE; a later setting of it in the working copy stands (R26). -/
def Obligations.LoadsAndFadesEnd : Prop :=
  (∀ (l : Loading) (e : LibEntry) (s : State), s.beam.loading = some l → Assoc.get none s.lib.patterns l.pattern = some e →
    Answers (.patternLoadComplete false) s (fun t =>
      s.loadEnded t ∧ t.beam.buffers = s.beam.buffers ∧ KeptBut [.beam, .regs, .rings, .proto] s t)) ∧
  (∀ (l : Loading) (e : LibEntry) (s : State), s.beam.loading = some l → Assoc.get none s.lib.patterns l.pattern = some e →
    Answers (.patternLoadComplete true) s (fun t =>
      (∀ n, s.patternGood e = true → s.bufferFor l.pattern = some n →
        s.loadEnded t ∧ t.beam.buffers.find n = some (some l.pattern) ∧ KeptBut [.sram, .beam, .link, .regs, .rings, .proto] s t)
        ∧ (s.patternGood e = true → s.bufferFor l.pattern = none → t = s)
        ∧ (s.patternGood e = false → s.loadEnded t))) ∧
  (∀ (f : Fade) (s : State), s.beam.baseFade = some f →
    Answers .crossfadeComplete s (fun t =>
      t.beam.baseFade = none ∧ t.get Reg.BEAM_STATUS.XFADE = 0 ∧ t.now = max s.now (s.fadeDone f)
        ∧ (∀ q, s.beam.queued = some q → t.beam.queued = none ∧ t.beam.work.base.source = q.source ∧ t.beam.work.base.pattern = q.pattern
            ∧ t.beam.work.base.fadeMs = q.fadeMs ∧ t.beam.work.base.perceptual = q.perceptual)
        ∧ (s.beam.queued = none → t.beam.work.base = s.beam.work.base) ∧ KeptBut [.now, .beam, .regs, .rings, .proto] s t)) ∧
  (∀ (n : Nat) (c : Ctx) (f : Fade) (s : State), s.beam.front.ctxs.find n = some c → s.beam.fades.find n = some f → c.releasing = true →
    Answers (.fadeComplete n) s (fun t =>
      t.beam.front.ctxs.find n = none ∧ t.beam.fades.find n = none ∧ t.now = max s.now (s.fadeDone f)
        ∧ (((s.beam.work.ctxs.find n).map (·.edition) = some c.edition → t.beam.work.ctxs.find n = none)
          ∧ ((s.beam.work.ctxs.find n).map (·.edition) ≠ some c.edition → t.beam.work.ctxs.find n = s.beam.work.ctxs.find n))
        ∧ KeptBut [.now, .beam] s t))

/-! ### Layers and libraries (07) -/

/-- R221, R222, R203, R207, Tables 7-9 and 7-10: an accepted LAYER_CONFIG gives the working copy the descriptor, or stages it where
it changes the flattened run; of the memory only the back copy of the layer's new place may change. An accepted LAYER_ENABLE sets
the enables likewise, and every flip it asks for is pending. -/
def Obligations.LayerCommandsChangeDescriptorsOrAreStaged : Prop :=
  (∀ (r : Req) (s : State), s.accepts opLayerConfig r → s.layerBad r.params = false →
    (leAt r.params 0 1 = 7 → s.flag Reg.HST_CTRL.DALI_EN = false) → s.flag (Reg.CMP_LAYER_STATUS.FLIP_PENDING (leAt r.params 0 1)) = false →
    Answers (.layerConfig r) s (fun t =>
      let n := leAt r.params 0 1
      let d := readLayer r.params
      (if changesRun s.beam.work (s.beam.work.configure n d) [n] then Staged.config n d ∈ t.beam.stage ++ t.beam.queuedStage
        else t.beam.work.layers = setNth s.beam.work.layers n { d with enabled := (s.beam.work.layer n).enabled, static := (s.beam.work.layer n).static })
        ∧ (∀ x, (x < d.copyAt (1 - s.get (Reg.CMP_LAYER_STATUS.FRONT_COPY n)) ∨ d.copyAt (1 - s.get (Reg.CMP_LAYER_STATUS.FRONT_COPY n)) + d.copySize ≤ x) →
            Memory.read 0 t.sram x = Memory.read 0 s.sram x)
        ∧ KeptBut [.now, .pwr, .sram, .beam, .regs, .rings, .proto, .casc] s t)) ∧
  (∀ (r : Req) (s : State), s.accepts opLayerEnable r →
    (s.flag Reg.HST_CTRL.DALI_EN = true → bit (leAt r.params 1 1) 7 = false ∧ bit (leAt r.params 0 1) 7 = (s.staged.layer 7).enabled) → leAt r.params 2 1 ≤ 1 → leAt r.params 3 1 = 0 →
    (∀ n < 8, bit (leAt r.params 1 1) n = true → s.flag (Reg.CMP_LAYER_STATUS.FLIP_PENDING n) = false
      ∧ ((s.staged.layer n).source = 2 ∨ (s.staged.layer n).source = 3)) →
    Answers (.layerEnable r) s (fun t =>
      (if changesRun s.beam.work (s.beam.work.enable (leAt r.params 0 1) (leAt r.params 1 1)) ((List.range 8).filter (bit (leAt r.params 1 1)))
        then Staged.enable (leAt r.params 0 1) (leAt r.params 1 1) ∈ t.beam.stage ++ t.beam.queuedStage
        else t.beam.work.layers = s.beam.work.layers.mapIdx (fun i l => { l with enabled := bit (leAt r.params 0 1) i }))
        ∧ (∀ n < 8, bit (leAt r.params 1 1) n = true → t.get (Reg.CMP_LAYER_STATUS.FLIP_PENDING n) = 1)
        ∧ KeptBut [.now, .pwr, .beam, .regs, .rings, .proto, .casc] s t))

/-- R223, R224, R207, Tables 7-11 and 7-12: an accepted SYMBOL_PLACE puts the object it stands for into its context; an accepted
BISQUE_FLATTEN that changes the static set is staged, and with no build running a build begins. -/
def Obligations.SymbolsArePlacedAndFlatteningIsStaged : Prop :=
  (∀ (r : Req) (s : State), s.accepts opSymbolPlace r → s.entryState (placeEntry r.params) = false → s.entryBad (placeEntry r.params) = false →
    s.pinsOver [readEntry (placeEntry r.params)] = false →
    leAt r.params 1 1 ≤ 15 → leAt r.params 2 1 ≤ 7 → leAt r.params 3 1 = 0 → leAt r.params 18 2 = 0 →
    Answers (.symbolPlace r) s (fun t =>
      (∃ c, t.beam.work.ctxs.find (leAt r.params 0 1) = some c ∧ c.entry.type = 3 ∧ c.entry.symbol = leAt r.params 4 2
          ∧ c.entry.level = leAt r.params 10 2 ∧ c.releasing = false)
        ∧ KeptBut [.now, .pwr, .beam, .lib, .regs, .rings, .proto, .casc] s t)) ∧
  (∀ (r : Req) (s : State), s.accepts opFlatten r → (s.flag Reg.HST_CTRL.DALI_EN = true → bit (leAt r.params 0 1) 7 = false) → leAt r.params 1 1 ≤ 1 → leAt r.params 2 2 = 0 →
    (∀ n < 8, bit (leAt r.params 0 1) n = true → (s.staged.layer n).source = 2
      ∧ ∀ c ∈ s.staged.ctxs, ¬ (c.2.entry.type = 3 ∧ c.2.entry.layer = n)) →
    (s.staged.flatten (leAt r.params 0 1) ≠ s.staged ∨ bit (leAt r.params 1 1) 0 = true) →
    Answers (.bisqueFlatten r) s (fun t =>
      Staged.flatten (leAt r.params 0 1) ∈ t.beam.stage ++ t.beam.queuedStage ∧ t.beam.buildAt.isSome = true
        ∧ (s.beam.buildAt = none → t.get Reg.CMP_STATUS.BUILD = 1)
        ∧ KeptBut [.now, .pwr, .beam, .regs, .rings, .proto, .casc] s t))

/-- R207, R208: a build ends: what was staged stands in the working copy with the bisque copy it wrote, and nothing is staged any
more when nothing was queued. R203: a flipped layer's new front copy stands in its back copy too, the flip is no longer pending,
and no other byte changes. R199: a symbol that is read and passes its check is resident and no longer waited for; one that cannot be read is
not loaded, and its context no longer waits; both within 10 ms of the command that began to wait, and the commit is made once nothing is
waited for. -/
def Obligations.BuildsFlipsAndSymbolLoadsComplete : Prop :=
  (∀ (t0 : Nat) (s : State), s.beam.buildAt = some t0 → s.beam.queuedStage = [] →
    Answers .bisqueBuildComplete s (fun t =>
      t.beam.buildAt = none ∧ t.beam.stage = [] ∧ t.get Reg.CMP_STATUS.BUILD = 2
        ∧ t.beam.work.layers = (s.beam.stage.foldl Tables.stage s.beam.work).layers
        ∧ t.beam.work.bisque = (if (s.beam.stage.foldl Tables.stage s.beam.work).run.isEmpty then none else some (1 - s.get Reg.CMP_STATUS.FRONT))
        ∧ KeptBut [.now, .draws, .sram, .beam, .flt, .regs, .rings, .proto] s t)) ∧
  (∀ (n b : Nat) (s : State), s.beam.flipLanded.find n = some b → (s.lib.legacyWaiting = none ∨ n ≠ 1) →
    Answers (.flipCopyComplete n) s (fun t =>
      let l := s.beam.front.layer n
      let front := s.get (Reg.CMP_LAYER_STATUS.FRONT_COPY n)
      t.get (Reg.CMP_LAYER_STATUS.FLIP_PENDING n) = 0 ∧ t.beam.flipLanded.find n = none
        ∧ (∀ i < l.copySize, Memory.read 0 t.sram (l.copyAt (1 - front) + i) = Memory.read 0 s.sram (l.copyAt front + i))
        ∧ (∀ x, (x < l.copyAt (1 - front) ∨ l.copyAt (1 - front) + l.copySize ≤ x) → Memory.read 0 t.sram x = Memory.read 0 s.sram x)
        ∧ KeptBut [.now, .draws, .sram, .beam, .regs] s t ∧ RegsKeptBut [Reg.CMP_LAYER_STATUS.FLIP_PENDING n] s t)) ∧
  (∀ (ctx id : Nat) (rest : List (Nat × Nat)) (e : LibEntry) (s : State), s.beam.symbolWait = (ctx, id) :: rest →
    Assoc.get none s.lib.symbols id = some e → s.entryGood 2 e = true →
    Answers (.symbolLoadComplete true) s (fun t =>
      (∃ x ∈ t.lib.resident, x.1 = id ∧ x.2.1 = e.length) ∧ t.beam.symbolWait = rest.filter (fun x => x.2 != id)
        ∧ (t.beam.symbolWait = [] → t.beam.waiting.isSome = true) ∧ t.now ≤ max s.now (s.beam.symbolSince + ms 10)
        ∧ KeptBut [.now, .draws, .beam, .lib, .regs, .rings, .proto] s t)) ∧
  (∀ (ctx id : Nat) (rest : List (Nat × Nat)) (s : State), s.beam.symbolWait = (ctx, id) :: rest →
    Answers (.symbolLoadComplete false) s (fun t =>
      t.lib.resident = s.lib.resident ∧ t.beam.symbolWait = rest ∧ (rest = [] → t.beam.waiting.isSome = true)
        ∧ t.now ≤ max s.now (s.beam.symbolSince + ms 10) ∧ KeptBut [.now, .draws, .beam, .regs, .rings, .proto] s t))

/-- R217, Table 7-13: an installation begins with its place found; DATA at the next offset with its check writes exactly its bytes
there and moves the installation on; END ends it and a symbol that passes its checks enters the index at its place (one that a context has named since BEGIN is refused, the
model's choice: notes/assumptions/77.md); ABORT ends it;
R218: DELETE takes an entry not in use out of the index; without DATA or END for 10 s the installation ends. -/
def Obligations.InstallationsRunFromBeginToEnd : Prop :=
  (∀ (r : Req) (o : Nat) (s : State), s.accepts opInstall (withOp 0 r) → s.lib.install = none → libIdBad (withOp 0 r).params = false →
    leAt (withOp 0 r).params 4 4 ≠ 0 → (leAt (withOp 0 r).params 1 1 = 2 → s.entryInUse 2 (leAt (withOp 0 r).params 2 2) = false) →
    s.findSpace (leAt (withOp 0 r).params 1 1) (leAt (withOp 0 r).params 4 4) = some o →
    Answers (.libraryInstallBegin r) s (fun t =>
      t.lib.install = some ⟨leAt (withOp 0 r).params 1 1, leAt (withOp 0 r).params 2 2, leAt (withOp 0 r).params 4 4, leAt (withOp 0 r).params 8 4,
          0, 0, 0, o, s.now + r.wait⟩
        ∧ t.get Reg.CMP_LIB_STATUS.INSTALL = 1 ∧ KeptBut [.now, .pwr, .lib, .regs, .rings, .proto, .casc] s t)) ∧
  (∀ (r : Req) (i : Install) (s : State), s.accepts opInstall (withOp 1 r) → s.installing (withOp 1 r).params = some i →
    leAt (withOp 1 r).params 4 4 = i.received → i.received + ((withOp 1 r).params.drop 12).length ≤ i.length →
    crc32cFold i.received ((withOp 1 r).params.drop 12) = leAt (withOp 1 r).params 8 4 →
    Answers (.libraryInstallData r) s (fun t =>
      let bs := (withOp 1 r).params.drop 12
      let ram := s.inRam i.kind
      let a := s.storePlace i.kind (i.base + i.received)
      (∃ j, t.lib.install = some j ∧ j.received = i.received + bs.length ∧ j.base = i.base ∧ j.kind = i.kind ∧ j.id = i.id)
        ∧ (if ram then Memory.readN 0 t.sram a bs.length = bs ∧ t.flash = s.flash else Memory.readN 0xFF t.flash a bs.length = bs ∧ t.sram = s.sram)
        ∧ (∀ x, (x < a ∨ a + bs.length ≤ x) → Memory.read 0xFF t.flash x = Memory.read 0xFF s.flash x ∧ Memory.read 0 t.sram x = Memory.read 0 s.sram x)
        ∧ KeptBut [.now, .pwr, .lib, .sram, .flash, .regs, .rings, .proto, .casc] s t)) ∧
  (∀ (r : Req) (i : Install) (s : State), s.accepts opInstall (withOp 2 r) → s.installing (withOp 2 r).params = some i →
    (i.kind = 2 → s.entryInUse 2 i.id = false) →
    Answers (.libraryInstallEnd r) s (fun t =>
      t.lib.install = none ∧ t.get Reg.CMP_LIB_STATUS.INSTALL = 0
        ∧ (i.kind = 2 → s.installGood i = true → ∃ e, Assoc.get none t.lib.symbols i.id = some e ∧ e.offset = i.base ∧ e.length = i.length)
        ∧ KeptBut [.now, .pwr, .lib, .flash, .beam, .regs, .rings, .proto, .casc] s t)) ∧
  (∀ (r : Req) (s : State), s.accepts opInstall (withOp 3 r) → libIdBad (withOp 3 r).params = false →
    s.entryInUse (leAt (withOp 3 r).params 1 1) (leAt (withOp 3 r).params 2 2) = false →
    Answers (.libraryInstallDelete r) s (fun t =>
      (leAt (withOp 3 r).params 1 1 = 1 → Assoc.get none t.lib.patterns (leAt (withOp 3 r).params 2 2) = none)
        ∧ (leAt (withOp 3 r).params 1 1 = 2 → Assoc.get none t.lib.symbols (leAt (withOp 3 r).params 2 2) = none)
        ∧ KeptBut [.now, .pwr, .lib, .flash, .regs, .rings, .proto, .casc] s t)) ∧
  (∀ (r : Req) (i : Install) (s : State), s.accepts opInstall (withOp 4 r) → s.installing (withOp 4 r).params = some i →
    Answers (.libraryInstallAbort r) s (fun t =>
      t.lib.install = none ∧ t.get Reg.CMP_LIB_STATUS.INSTALL = 0 ∧ KeptBut [.now, .pwr, .lib, .regs, .rings, .proto, .casc] s t)) ∧
  (∀ (i : Install) (s : State), s.lib.install = some i →
    Answers .installTimeout s (fun t =>
      t.lib.install = none ∧ t.get Reg.CMP_LIB_STATUS.INSTALL = 0 ∧ t.now = max s.now (i.lastAt + ms 10000)
        ∧ KeptBut [.now, .lib, .regs] s t ∧ RegsKeptBut [Reg.CMP_LIB_STATUS.INSTALL] s t))

/-- R226: STORE_READ answers the bytes of the container and changes nothing; STORE_WRITE leaves its bytes at its place, an offset
on a sector start erases that sector first, and no byte outside both changes. -/
def Obligations.StoresAreReadAndWritten : Prop :=
  (∀ (r : Req) (s : State), s.accepts opStoreRead r → s.answers r → s.flag Reg.CMP_LIB_STATUS.RAM_STORE = false → leAt r.params 1 3 = 0 →
    1 ≤ leAt r.params 8 4 → leAt r.params 8 4 ≤ 1000 → s.storeRange (leAt r.params 0 1) (leAt r.params 4 4) (leAt r.params 8 4) = true →
    Answers (.storeRead r) s (fun t =>
      Replied s t opStoreRead r (Memory.readN 0xFF s.flash ((s.container (leAt r.params 0 1)).base + leAt r.params 4 4) (leAt r.params 8 4))
        ∧ KeptBut [.now, .pwr, .regs, .rings, .proto, .casc] s t ∧ RegsKeptBut answerFields s t)) ∧
  (∀ (r : Req) (s : State), s.accepts opStoreWrite r → s.flag Reg.CMP_LIB_STATUS.RAM_STORE = false → leAt r.params 1 3 = 0 →
    3 ≤ leAt r.params 0 1 → s.storeRange (leAt r.params 0 1) (leAt r.params 4 4) (r.params.drop 12).length = true →
    crc32cFold (leAt r.params 4 4) (r.params.drop 12) = leAt r.params 8 4 →
    Answers (.storeWrite r) s (fun t =>
      let bs := r.params.drop 12
      let a := (s.container (leAt r.params 0 1)).base + leAt r.params 4 4
      Memory.readN 0xFF t.flash a bs.length = bs
        ∧ (∀ x, (x < a ∨ a + (if leAt r.params 4 4 % 4096 = 0 then max 4096 bs.length else bs.length) ≤ x) →
            Memory.read 0xFF t.flash x = Memory.read 0xFF s.flash x)
        ∧ KeptBut [.now, .pwr, .flash, .regs, .rings, .proto, .casc] s t ∧ RegsKeptBut answerFields s t))

/-! ### Pixel link (08) -/

/-- Table 8-9, R243: a clock found in DOWN begins ALIGN at Gen1 on one lane; a clock lost for 1.0 µs or more in any state but DISABLED
leads to DOWN, and input loss is declared where input was acquired or live; ALIGN without lock for 2 ms leads to DOWN and a new try
1 s later; REALIGN without lock for 5 ms leads one generation down, or from Gen1, or where the back-channel has failed so that no step can take place (R242), to DOWN. -/
def Obligations.TheLinkFollowsItsClock : Prop :=
  (∀ s : State, s.get Reg.LNK_STATUS.STATE = 1 →
    Answers .linkClockDetect s (fun t =>
      t.get Reg.LNK_STATUS.STATE = 2 ∧ t.get Reg.LNK_STATUS.GEN = 1 ∧ t.get Reg.LNK_STATUS.LANES = 1 ∧ t.get Reg.LNK_STATUS.LOCK = 0
        ∧ t.link.stateAt = t.now ∧ KeptBut [.now, .link, .regs] s t
        ∧ RegsKeptBut [Reg.LNK_STATUS.STATE, Reg.LNK_STATUS.GEN, Reg.LNK_STATUS.LANES, Reg.LNK_STATUS.LOCK] s t)) ∧
  (∀ (gap : Nat) (s : State), s.get Reg.LNK_STATUS.STATE ≠ 0 → us 1 ≤ gap →
    Answers (.linkClockLoss gap) s (fun t =>
      t.get Reg.LNK_STATUS.STATE = 1 ∧ (s.losable = true → s.get Reg.LNK_TIMING.HOLD_MS ≠ 0 → t.get Reg.LNK_STATUS.INPUT = 3)
        ∧ t.sram = s.sram ∧ t.nvm = s.nvm ∧ t.flash = s.flash)) ∧
  (∀ s : State, s.get Reg.LNK_STATUS.STATE = 2 →
    Answers .alignTimeout s (fun t =>
      t.get Reg.LNK_STATUS.STATE = 1 ∧ t.now = max s.now (s.link.stateAt + ms 2) ∧ t.link.retryAt = some (t.now + ms 1000)
        ∧ KeptBut [.now, .link, .scan, .regs, .rings, .proto] s t)) ∧
  (∀ s : State, s.get Reg.LNK_STATUS.STATE = 8 →
    Answers .realignTimeout s (fun t =>
      t.now = max s.now (s.link.stateAt + ms 5)
        ∧ (if 2 ≤ s.get Reg.LNK_STATUS.GEN ∧ s.flag Reg.LNK_STATUS.BC_OK = true then
            t.get Reg.LNK_STATUS.STATE = 7 ∧ t.link.wantGen = s.get Reg.LNK_STATUS.GEN - 1
            ∧ KeptBut [.now, .link, .scan, .regs, .rings, .proto] s t
          else t.get Reg.LNK_STATUS.STATE = 1)))

/-- R251: a used lane that sees its run of good commas, headers or codewords is locked, and lane 0 in ALIGN begins the capability exchange;
a used lane that loses lock in UP takes the link to REALIGN. R229: the receivers of unused lanes are off, and nothing they would see counts. -/
def Obligations.LanesLockAndLoseLock : Prop :=
  (∀ (lane good codewords : Nat) (s : State), 2 ≤ s.get Reg.LNK_STATUS.STATE → lane < 4 → bit s.usedMask lane = true →
    locks (s.get Reg.LNK_STATUS.GEN) good codewords = true →
    Answers (.laneLock lane good codewords) s (fun t =>
      bit (t.get Reg.LNK_STATUS.LOCK) lane = true
        ∧ (s.get Reg.LNK_STATUS.STATE = 2 → lane = 0 → t.get Reg.LNK_STATUS.STATE = 3 ∧ t.link.request = 1)
        ∧ KeptBut [.link, .scan, .regs, .rings, .proto] s t)) ∧
  (∀ (lane good codewords : Nat) (s : State), bit s.usedMask lane = false → Answers (.laneLock lane good codewords) s (fun t => t = s)) ∧
  (∀ (lane errors corrected uncorr : Nat) (s : State), s.get Reg.LNK_STATUS.STATE = 6 → lane < 4 → bit s.usedMask lane = true →
    unlocks (s.get Reg.LNK_STATUS.GEN) errors uncorr = true →
    Answers (.laneLockLoss lane errors corrected uncorr) s (fun t =>
      bit (t.get Reg.LNK_STATUS.LOCK) lane = false ∧ t.get Reg.LNK_STATUS.STATE = 8 ∧ t.link.rx = none
        ∧ KeptBut [.link, .scan, .regs, .rings, .proto] s t)) ∧
  (∀ (lane errors corrected uncorr : Nat) (s : State), bit s.usedMask lane = false →
    Answers (.laneLockLoss lane errors corrected uncorr) s (fun t => t = s))

/-- R241, R242: the reply to a POLL gives the source's SEQ and flags, the reply to CAPS_REQ its capability record; the third missing
reply in a row is a failure of the back-channel, which repeats CAPS_REQ every 1 s; POLL is sent every 10 ms while UP. -/
def Obligations.TheBackChannelAsksAndIsAnswered : Prop :=
  (∀ (m p : List Byte) (trip : Nat) (s : State), s.link.request ≠ 0 → readMessage m = some (s.link.request + 0x80, p) → s.link.request ≠ 0x7F →
    Answers (.bcReply m trip) s (fun t =>
      (s.link.request = 5 → t.link.pollSeq = leAt p 0 2 ∧ t.link.pollFlags = leAt p 2 1)
        ∧ (s.link.request = 1 → t.link.partner = p ∧ t.get Reg.LNK_STATUS.BC_OK = 1 ∧ t.get Reg.LNK_PARTNER.VALID = 1)
        ∧ t.sram = s.sram ∧ t.nvm = s.nvm ∧ t.flash = s.flash)) ∧
  (∀ s : State, s.link.request ≠ 0 →
    Answers .bcReplyTimeout s (fun t =>
      (if s.link.missing < 2 then t.link.missing = s.link.missing + 1 ∧ t.link.request = s.link.request
        else t.link.request = 0 ∧ t.get Reg.LNK_STATUS.BC_OK = 0 ∧ t.link.failedAt = some (max s.now (s.link.requestAt + us 20)))
        ∧ t.now = max s.now (s.link.requestAt + us 20) ∧ KeptBut [.now, .link, .regs, .rings, .proto] s t)) ∧
  (∀ (at_ : Nat) (s : State), s.link.failedAt = some at_ →
    Answers .capsRetry s (fun t =>
      t.link.request = 1 ∧ t.now = max s.now (at_ + ms 1000) ∧ t.link.failedAt = some t.now ∧ KeptBut [.now, .link] s t)) ∧
  (∀ s : State, s.get Reg.LNK_STATUS.STATE = 6 → s.flag Reg.LNK_STATUS.BC_OK = true → s.link.request = 0 →
    Answers .linkPoll s (fun t =>
      t.link.request = 5 ∧ t.now = max s.now (s.link.polledAt + ms 10) ∧ t.link.polledAt = t.now ∧ KeptBut [.now, .link] s t))

/-- R246, R247, R250: a sample 100 µs after the one before gives every used lane its figure of merit; ten good samples on locked
lanes within 20 ms, with every preset of the partner tried, bring the link UP, from where a MAX_GEN below the generation in use steps down
at once (R249); training that fails above Gen1 steps down a generation, and a failed return, or any failure while the back-channel has
failed, leads to DOWN. -/
def Obligations.TrainingSucceedsOrStepsDown : Prop :=
  (∀ (eyes : List (Nat × Nat)) (s : State), 5 ≤ s.get Reg.LNK_STATUS.STATE → s.get Reg.LNK_STATUS.STATE ≤ 7 → s.get Reg.LNK_STATUS.LANES ≤ 4 →
    Answers (.fomSample eyes) s (fun t =>
      (∀ n < s.get Reg.LNK_STATUS.LANES, t.get (Reg.LNK_FOM.FOM n) = figure (nth (0, 0) eyes n).1 (nth (0, 0) eyes n).2)
        ∧ t.now = max s.now (s.link.fomAt + us 100) ∧ t.link.fomAt = t.now ∧ KeptBut [.now, .draws, .link, .scan, .regs, .rings, .proto] s t)) ∧
  (∀ s : State, (s.get Reg.LNK_STATUS.STATE = 5 ∨ s.get Reg.LNK_STATUS.STATE = 7) → s.allLocked = true → s.presetsDone = true →
    10 ≤ s.link.good96 → s.now ≤ s.link.stateAt + ms 20 →
    (s.flag Reg.LNK_STATUS.BC_OK = true → s.get Reg.LNK_STATUS.GEN ≤ s.get Reg.LNK_POLICY.MAX_GEN ∧ s.get Reg.LNK_STATUS.LANES ≤ s.get Reg.LNK_POLICY.MAX_LANES) →
    Answers .trainComplete s (fun t =>
      t.get Reg.LNK_STATUS.STATE = 6 ∧ t.link.upAt = s.now
        ∧ t.get Reg.LNK_STATUS.INPUT = (if s.get Reg.LNK_STATUS.INPUT = 3 ∨ s.get Reg.LNK_STATUS.INPUT = 4 then s.get Reg.LNK_STATUS.INPUT else 1)
        ∧ KeptBut [.link, .regs, .rings, .proto] s t)) ∧
  (∀ s : State, (s.get Reg.LNK_STATUS.STATE = 5 ∨ s.get Reg.LNK_STATUS.STATE = 7) → s.allLocked = true → s.presetsDone = true →
    10 ≤ s.link.good96 → s.now ≤ s.link.stateAt + ms 20 → s.flag Reg.LNK_STATUS.BC_OK = true →
    s.get Reg.LNK_POLICY.MAX_GEN < s.get Reg.LNK_STATUS.GEN →
    Answers .trainComplete s (fun t =>
      t.get Reg.LNK_STATUS.STATE = 7 ∧ t.link.wantGen = s.get Reg.LNK_STATUS.GEN - 1 ∧ KeptBut [.link, .scan, .regs, .rings, .proto] s t)) ∧
  (∀ s : State, s.get Reg.LNK_STATUS.STATE = 5 → s.flag Reg.LNK_STATUS.BC_OK = true → 2 ≤ s.link.wantGen →
    Answers .trainTimeout s (fun t =>
      t.get Reg.LNK_STATUS.STATE = 7 ∧ t.link.wantGen = s.link.wantGen - 1 ∧ t.link.returning = true
        ∧ t.now = max s.now (s.link.stateAt + ms 20) ∧ KeptBut [.now, .link, .scan, .regs, .rings, .proto] s t)) ∧
  (∀ s : State, ((s.get Reg.LNK_STATUS.STATE = 7 ∧ s.link.returning = true)
        ∨ ((s.get Reg.LNK_STATUS.STATE = 5 ∨ s.get Reg.LNK_STATUS.STATE = 7) ∧ s.flag Reg.LNK_STATUS.BC_OK = false)) →
    Answers .trainTimeout s (fun t => t.get Reg.LNK_STATUS.STATE = 1))

/-- R233 to R239: a good header begins a frame; the row that is due, whole and with its checks good, is stored in the frame's buffer
and in no other byte; a good trailer ends the frame, which is accepted when its number is new while LIVE, or follows that of the
valid frame before. -/
def Obligations.FramesAreReceivedRowByRow : Prop :=
  (∀ (h : List Byte) (s : State), s.carries = true → h.length = 32 → crc32cFold 0 (h.take 28) = leAt h 28 4 → 1 ≤ leAt h 3 1 →
    leAt h 3 1 ≤ s.widest → leAt h 2 1 ≤ 2 → (s.follower = true → leAt h 2 1 = 0) →
    Answers (.frameHeaderRx h 0) s (fun t =>
      (∃ rx, t.link.rx = some rx ∧ rx.seq = leAt h 0 2 ∧ rx.format = leAt h 2 1 ∧ rx.width = leAt h 3 1 ∧ rx.next = 0)
        ∧ t.get Reg.LNK_SEQ.RX = leAt h 0 2 ∧ KeptBut [.link, .beam, .casc, .scan, .regs, .rings, .proto] s t)) ∧
  (∀ (p : List Byte) (rx : Receiving) (s : State), s.link.rx = some rx → s.armed 0x25 = false → p.length = 32 + rowBytes rx.format rx.width →
    crc32cFold (rx.seq * 65536 + leAt p 0 2) (p.take (16 + rowBytes rx.format rx.width)) = leAt p (16 + rowBytes rx.format rx.width) 4 →
    leAt p 0 2 = rx.next → rx.next ≤ 511 → leAt p 2 2 = rx.seq →
    Answers (.rowPacketRx p 0) s (fun t =>
      (∃ rx', t.link.rx = some rx' ∧ rx'.next = rx.next + 1 ∧ rx'.seq = rx.seq)
        ∧ (match rx.buffer with
            | some b => Memory.readN 0 t.sram (b * 0x200000 + rx.next * 4096) 4096
                  = s.rowStore rx.format rx.width ((p.drop 16).take (rowBytes rx.format rx.width))
                ∧ ∀ x, (x < b * 0x200000 + rx.next * 4096 ∨ b * 0x200000 + rx.next * 4096 + 4096 ≤ x) → Memory.read 0 t.sram x = Memory.read 0 s.sram x
            | none => t.sram = s.sram)
        ∧ KeptBut [.sram, .link, .casc, .flt, .regs, .rings, .proto] s t)) ∧
  (∀ (p : List Byte) (rx : Receiving) (s : State), s.link.rx = some rx → p.length = 32 → crc32cFold 0 (p.take 28) = leAt p 28 4 →
    leAt p 0 2 = rx.seq → rx.next = 512 → leAt p 2 2 = 512 → leAt p 4 4 = frameCheck rx.seq rx.checks →
    Answers (.frameTrailerRx p 0) s (fun t =>
      t.link.rx = none
        ∧ ((s.get Reg.LNK_STATUS.INPUT = 2 ∧ rx.seq ≠ s.get Reg.LNK_SEQ.LAST)
              ∨ (s.get Reg.LNK_STATUS.INPUT ≠ 2 ∧ s.link.prevValid = some ((rx.seq + 65535) % 65536)) →
            t.get Reg.LNK_SEQ.LAST = rx.seq ∧ t.link.lastAccept = some s.now)
        ∧ t.sram = s.sram ∧ t.nvm = s.nvm ∧ t.flash = s.flash))

/-- R253: UP for GAP_MS without an accepted frame, input loss is declared and the hold timer runs; R254: at its end the input has
fallen. -/
def Obligations.InputLossIsDeclaredThenHeld : Prop :=
  (∀ s : State, s.get Reg.LNK_STATUS.STATE = 6 → s.losable = true → s.follower = false → s.get Reg.LNK_TIMING.HOLD_MS ≠ 0 →
    Answers .gapTimeout s (fun t =>
      t.get Reg.LNK_STATUS.INPUT = 3 ∧ t.now = max s.now (max s.link.upAt (s.link.lastAccept.getD 0) + ms (s.get Reg.LNK_TIMING.GAP_MS))
        ∧ t.link.holdAt = some (t.now + ms (s.get Reg.LNK_TIMING.HOLD_MS))
        ∧ KeptBut [.now, .link, .scan, .flt, .regs, .rings, .proto] s t)) ∧
  (∀ (at_ : Nat) (s : State), s.link.holdAt = some at_ → s.get Reg.LNK_STATUS.INPUT = 3 →
    Answers .holdTimeout s (fun t =>
      t.get Reg.LNK_STATUS.INPUT = 4 ∧ t.link.holdAt = none ∧ t.now = max s.now at_
        ∧ KeptBut [.now, .link, .beam, .regs, .rings, .proto] s t))

/-- R257 to R260, Tables 8-14 to 8-16: LINK_STATUS answers 46 bytes, the last accepted number and the frame counters among them;
LINK_TRAIN retrains, restarts, steps down or steps up, and after a back-channel failure is accepted without any step (the model's choice:
notes/assumptions/79.md); LINK_POLICY sets its fields, and without ENABLE the link is DISABLED. -/
def Obligations.LinkCommandsReportTrainAndSetPolicy : Prop :=
  (∀ (r : Req) (s : State), s.accepts opLinkStatus r → s.answers r →
    Answers (.linkStatus r) s (fun t => ∃ res, Replied s t opLinkStatus r res ∧ res.length = 46
      ∧ leAt res 26 2 = s.get Reg.LNK_SEQ.LAST % 65536 ∧ leAt res 38 4 = s.get Reg.LNK_FRAME_ACCEPT_COUNT.COUNT % 2 ^ 32
      ∧ leAt res 42 4 = s.get Reg.LNK_FRAME_ERR_COUNT.COUNT % 2 ^ 32 ∧ KeptBut [.now, .pwr, .regs, .rings, .proto, .casc] s t)) ∧
  (∀ (r : Req) (s : State), s.accepts opLinkTrain (withOp 0 r) → leAt (withOp 0 r).params 1 3 = 0 → s.get Reg.LNK_STATUS.STATE = 6 →
    s.flag Reg.LNK_STATUS.BC_OK = true →
    Answers (.linkTrainRetrain r) s (fun t =>
      t.get Reg.LNK_STATUS.STATE = 5 ∧ t.link.wantGen = s.get Reg.LNK_STATUS.GEN ∧ KeptBut [.now, .pwr, .link, .scan, .regs, .rings, .proto, .casc] s t)) ∧
  (∀ (r : Req) (s : State), s.accepts opLinkTrain (withOp 1 r) → leAt (withOp 1 r).params 1 3 = 0 →
    s.get Reg.LNK_STATUS.STATE ∈ [1, 2, 3, 4, 6] →
    Answers (.linkTrainRestart r) s (fun t => t.get Reg.LNK_STATUS.STATE = 1 ∧ t.sram = s.sram ∧ t.nvm = s.nvm ∧ t.flash = s.flash)) ∧
  (∀ (r : Req) (s : State), s.accepts opLinkTrain (withOp 2 r) → leAt (withOp 2 r).params 1 3 = 0 → s.get Reg.LNK_STATUS.STATE = 6 →
    s.flag Reg.LNK_STATUS.BC_OK = true → 2 ≤ s.get Reg.LNK_STATUS.GEN →
    Answers (.linkTrainStepDown r) s (fun t =>
      t.get Reg.LNK_STATUS.STATE = 7 ∧ t.link.wantGen = s.get Reg.LNK_STATUS.GEN - 1 ∧ KeptBut [.now, .pwr, .link, .scan, .regs, .rings, .proto, .casc] s t)) ∧
  (∀ (r : Req) (s : State), s.accepts opLinkTrain (withOp 3 r) → leAt (withOp 3 r).params 1 3 = 0 → s.get Reg.LNK_STATUS.STATE = 6 →
    s.flag Reg.LNK_STATUS.BC_OK = true → s.get Reg.LNK_STATUS.GEN < s.genCeiling →
    Answers (.linkTrainStepUp r) s (fun t =>
      t.get Reg.LNK_STATUS.STATE = 7 ∧ t.link.wantGen = s.get Reg.LNK_STATUS.GEN + 1 ∧ KeptBut [.now, .pwr, .link, .scan, .regs, .rings, .proto, .casc] s t)) ∧
  (∀ (op : Nat) (r : Req) (s : State), op ∈ [0, 2, 3] → s.accepts opLinkTrain (withOp op r) → leAt (withOp op r).params 1 3 = 0 →
    s.get Reg.LNK_STATUS.STATE = 6 → s.flag Reg.LNK_STATUS.BC_OK = false → (op = 2 → 2 ≤ s.get Reg.LNK_STATUS.GEN) →
    (op = 3 → s.get Reg.LNK_STATUS.GEN < s.genCeiling) →
    Answers (if op = 0 then .linkTrainRetrain r else if op = 2 then .linkTrainStepDown r else .linkTrainStepUp r) s (fun t =>
      t.link = s.link ∧ KeptBut [.now, .pwr, .regs, .rings, .proto, .casc] s t ∧ RegsKeptBut answerFields s t)) ∧
  (∀ (r : Req) (s : State), s.accepts opLinkPolicy r → linkPolicyBad r.params = false →
    (bit (leAt r.params 0 1) 3 = true → s.get Reg.LNK_STATUS.STATE = 6) →
    Answers (.linkPolicy r) s (fun t =>
      t.get Reg.LNK_POLICY.MAX_GEN = leAt r.params 1 1 ∧ t.get Reg.LNK_POLICY.MAX_LANES = leAt r.params 2 1
        ∧ t.get Reg.LNK_POLICY.VELOCITY = leAt r.params 3 1 ∧ t.get Reg.LNK_TIMING.HOLD_MS = leAt r.params 4 2
        ∧ t.get Reg.LNK_TIMING.GAP_MS = leAt r.params 6 2 ∧ (bit (leAt r.params 0 1) 0 = false → t.get Reg.LNK_STATUS.STATE = 0)
        ∧ KeptBut [.now, .pwr, .link, .scan, .regs, .rings, .proto, .casc] s t))

/-! ### Host buses (10) -/

/-- R296 to R300: a packet written whole on SPI within 50 ms, whose framing is good, enters ring 0 behind what waits there; a read
that clocks the whole head of ring 8 gives its length and bytes after the status byte and takes it off the ring. -/
def Obligations.SpiTransactionsCarryPackets : Prop :=
  (∀ (p : List Byte) (low : Nat) (s : State), s.spiOn = true → s.get Reg.HST_SPI_CFG.ADDR < 128 → p ≠ [] → low ≤ ms 50 → s.frames p = true →
    s.ringRoom 0 = true →
    Answers (.spiWriteTransaction (byte (2 * s.get Reg.HST_SPI_CFG.ADDR) :: p) low) s (fun t =>
      t.ring 0 = s.ring 0 ++ [⟨p, 0, s.now + low⟩] ∧ t.now = s.now + low ∧ t.bus.spiOut = [s.spiStatus]
        ∧ KeptBut [.now, .bus, .rings] s t)) ∧
  (∀ (p : Packet) (rest : List Packet) (clocked : Nat) (s : State), s.spiOn = true → s.ring 8 = p :: rest → p.bytes ≠ [] →
    2 + p.bytes.length ≤ clocked →
    Answers (.spiReadTransaction (2 * s.get Reg.HST_SPI_CFG.ADDR + 1) clocked) s (fun t =>
      t.ring 8 = rest ∧ t.bus.spiOut.take (3 + p.bytes.length) = s.spiStatus :: (le 2 p.bytes.length ++ p.bytes)
        ∧ KeptBut [.bus, .rings, .regs] s t))

/-- R302 to R305: a CAN frame that is a packet's only segment puts the packet into ring 1, the first of several begins an assembly,
which is abandoned 50 ms to 55 ms after its last segment; a segment sent is that of the head of ring 9, which leaves with its last;
bus-off and recovery set the state and the counters. -/
def Obligations.CanCarriesPacketsInSegments : Prop :=
  (∀ (data : List Byte) (s : State), s.canOn = true → s.get Reg.HST_CAN_STATUS.STATE ≠ 2 → s.bus.canRx = none → data.length = 64 →
    bit (leAt data 0 1) 7 = true → leAt data 0 1 % 64 = 0 →
    Answers (.canFrameRx (s.get Reg.HST_CAN_ID_RX.ID) (s.flag Reg.HST_CAN_CFG.IDE) true 15 data) s (fun t =>
      let b := data.drop 1
      let n := 10 + leAt b 4 2
      (bit (leAt data 0 1) 6 = true → n ≤ 63 → s.frames (b.take n) = true → s.ringRoom 1 = true → t.ring 1 = s.ring 1 ++ [⟨b.take n, 0, s.now⟩])
        ∧ (bit (leAt data 0 1) 6 = false → 63 < n → t.bus.canRx = some ⟨b, 1, s.now⟩ ∧ t.rings = s.rings)
        ∧ KeptBut [.bus, .regs, .rings, .proto] s t)) ∧
  (∀ (a : CanAssembly) (s : State), s.bus.canRx = some a →
    Answers .canAssemblyTimeout s (fun t =>
      t.bus.canRx = none ∧ a.lastAt + ms 50 < t.now ∧ t.now ≤ max s.now (a.lastAt + ms 55)
        ∧ KeptBut [.now, .draws, .bus, .regs, .rings, .proto] s t)) ∧
  (∀ (p : Packet) (rest : List Packet) (s : State), s.ring 9 = p :: rest → s.canOn = true → s.get Reg.HST_CAN_STATUS.STATE ≠ 2 →
    Answers .canSegmentSent s (fun t =>
      t.bus.canOut = canSegmentBytes p.bytes s.bus.canSent
        ∧ (if p.bytes.length ≤ 63 * (s.bus.canSent + 1) then t.bus.canSent = 0 ∧ ∃ more, t.ring 9 = rest ++ more
            else t.bus.canSent = s.bus.canSent + 1 ∧ t.rings = s.rings)
        ∧ KeptBut [.bus, .regs, .rings, .proto] s t)) ∧
  (∀ s : State, s.canOn = true → s.get Reg.HST_CAN_STATUS.STATE ≠ 2 →
    Answers .canBusoff s (fun t =>
      t.get Reg.HST_CAN_STATUS.STATE = 2 ∧ t.get Reg.HST_CAN_STATUS.TEC = 255 ∧ t.bus.canSent = 0
        ∧ KeptBut [.bus, .flt, .regs, .rings, .proto] s t)) ∧
  (∀ s : State, s.get Reg.HST_CAN_STATUS.STATE = 2 →
    Answers .canBusoffRecovery s (fun t =>
      t.get Reg.HST_CAN_STATUS.STATE = 0 ∧ t.get Reg.HST_CAN_STATUS.TEC = 0 ∧ t.get Reg.HST_CAN_STATUS.REC = 0
        ∧ KeptBut [.regs] s t ∧ RegsKeptBut [Reg.HST_CAN_STATUS.STATE, Reg.HST_CAN_STATUS.TEC, Reg.HST_CAN_STATUS.REC] s t))

/-- R306 to R309: a good 10BASE-T1S frame to this module puts its packet into ring 2 with its source address, to which replies and
events go; the head of ring 10 leaves with a frame, padded to 46 bytes; PLCA is lost and found again. -/
def Obligations.T1sCarriesPacketsAndPlcaFallsBack : Prop :=
  (∀ (src noise : Nat) (payload : List Byte) (s : State), s.t1sOn = true → s.frames (payload.take (10 + leAt payload 4 2)) = true →
    s.ringRoom 2 = true →
    Answers (.t1sFrameRx s.id.mac src 0x88B5 false true payload noise) s (fun t =>
      t.ring 2 = s.ring 2 ++ [⟨payload.take (10 + leAt payload 4 2), src, s.now⟩] ∧ t.proto.t1sSource = some src
        ∧ KeptBut [.regs, .rings, .proto] s t)) ∧
  (∀ (collisions : Nat) (p : Packet) (rest : List Packet) (s : State), s.ring 10 = p :: rest → s.t1sOn = true → leAt p.bytes 0 2 < 0xF000 →
    Answers (.t1sFrameSent collisions) s (fun t =>
      t.bus.t1sOut = (p.source, t1sPadded p.bytes) ∧ (∃ more, t.ring 10 = rest ++ more) ∧ KeptBut [.bus, .regs, .rings, .proto] s t)) ∧
  (∀ s : State, s.t1sOn = true → s.flag Reg.HST_T1S_PLCA.EN = true → s.get Reg.HST_T1S_STATUS.MODE = 0 →
    Answers .plcaStatusLoss s (fun t =>
      t.get Reg.HST_T1S_STATUS.PLCA_OK = 0 ∧ t.get Reg.HST_T1S_STATUS.MODE = 1 ∧ KeptBut [.regs, .rings, .proto] s t)) ∧
  (∀ s : State, s.t1sOn = true → s.flag Reg.HST_T1S_PLCA.EN = true →
    Answers .plcaBeaconResume s (fun t =>
      t.get Reg.HST_T1S_STATUS.PLCA_OK = 1 ∧ t.get Reg.HST_T1S_STATUS.MODE = 0 ∧ KeptBut [.regs] s t
        ∧ RegsKeptBut [Reg.HST_T1S_STATUS.PLCA_OK, Reg.HST_T1S_STATUS.MODE, Reg.HST_T1S_STATUS.COORD] s t))

/-- R311 to R315 (with IEC 62386-102 as notes/assumptions/20.md takes it): DALI arc power and scenes set the target the level fades to,
within MIN and MAX; a query is answered with its backward frame; a bus low for more than 550 ms is a system failure. -/
def Obligations.DaliSetsLevelsAndAnswers : Prop :=
  (∀ (addr data : Nat) (s : State), s.daliServes = true → s.daliMine addr = true → addr % 2 = 0 →
    (addr < 160 ∨ 252 ≤ addr) → data < 255 →
    Answers (.daliForwardFrame addr data) s (fun t =>
      t.bus.dali.target = s.bus.dali.limit data ∧ t.bus.dali.fadeMs = s.bus.dali.arcFade s.now
        ∧ t.bus.dali.origin = s.bus.dali.fadeFrom s.now (s.bus.dali.limit data)
        ∧ t.get Reg.HST_DALI_STATUS.SYS_FAIL = 0 ∧ KeptBut [.bus, .regs, .rings, .proto] s t)) ∧
  (∀ (n : Nat) (s : State), s.daliServes = true → n < 16 → s.bus.dali.scenes.getD n 255 < 255 →
    Answers (.daliGoToScene n) s (fun t =>
      t.bus.dali.target = s.bus.dali.limit (s.bus.dali.scenes.getD n 255) ∧ t.get Reg.HST_DALI_STATUS.SCENE = n
        ∧ KeptBut [.bus, .regs, .rings, .proto] s t)) ∧
  (∀ (level : Nat) (s : State), s.daliServes = true → level < 255 →
    Answers (.daliArcPower level) s (fun t =>
      t.bus.dali.target = s.bus.dali.limit level ∧ t.bus.dali.fadeMs = s.bus.dali.arcFade s.now ∧ KeptBut [.bus, .regs, .rings, .proto] s t)) ∧
  (∀ (query : Nat) (s : State), s.daliServes = true →
    Answers (.daliQuery query) s (fun t => t.bus.dali.backward = s.daliAnswer query ∧ KeptBut [.bus, .regs, .rings, .proto] s t)) ∧
  (∀ (low : Nat) (s : State), s.daliServes = true → ms 550 < low →
    Answers (.daliSystemFailure low) s (fun t =>
      t.get Reg.HST_DALI_STATUS.SYS_FAIL = 1 ∧ (s.bus.dali.sysFail ≠ 255 → t.bus.dali.target = s.bus.dali.limit s.bus.dali.sysFail)
        ∧ t.now = s.now + low ∧ KeptBut [.now, .bus, .regs] s t ∧ RegsKeptBut [Reg.HST_DALI_STATUS.SYS_FAIL] s t))

/-- R318 to R320, R211: in legacy mode, segment levels within range are kept for the update and stand in the back copy of L1, and in no
other byte, unless its flip is pending; an update flips L1 or waits; every frame shifts out the result of the frame before, registers
read among them; while the CP does not run a frame waits in ring 5; an invalid frame is discarded, counted and answered with its status. -/
def Obligations.LegacyFramesAreServed : Prop :=
  (∀ (first : Nat) (levels : List Nat) (s : State), s.legacyOn = true → s.ringRoom 5 = true → s.cpUp = true → s.ring 5 = [] → levels ≠ [] → levels.length ≤ 512 →
    first + levels.length ≤ 16384 → (∀ l ∈ levels, l ≤ 1023) →
    Answers (.legacyWriteSeg first levels) s (fun t =>
      let a := (s.beam.work.layer 1).copyAt (1 - s.get (Reg.CMP_LAYER_STATUS.FRONT_COPY 1))
      (∀ i < levels.length, Assoc.get 0 t.bus.legacyLevels (first + i) = levels.getD i 0 * 64 + levels.getD i 0 / 16)
        ∧ (s.flag (Reg.CMP_LAYER_STATUS.FLIP_PENDING 1) = false → ∀ i < levels.length,
            Memory.readN 0 t.sram (a + 2 * (first + i)) 2 = le 2 (levels.getD i 0 * 64 + levels.getD i 0 / 16))
        ∧ (∀ x, (x < a + 2 * first ∨ a + 2 * (first + levels.length) ≤ x) → Memory.read 0 t.sram x = Memory.read 0 s.sram x)
        ∧ t.bus.spiOut = s.bus.legacyResult ∧ KeptBut [.bus, .sram] s t)) ∧
  (∀ s : State, s.legacyOn = true → s.ringRoom 5 = true → s.cpUp = true → s.ring 5 = [] →
    Answers .legacyUpdate s (fun t =>
      t.bus.legacyLevels = []
        ∧ (if s.flag (Reg.CMP_LAYER_STATUS.FLIP_PENDING 1) then t.lib.legacyWaiting = some s.bus.legacyLevels
            else t.get (Reg.CMP_LAYER_STATUS.FLIP_PENDING 1) = 1 ∧ 1 ∈ t.beam.work.flips)
        ∧ KeptBut [.bus, .sram, .lib, .beam, .regs, .rings, .proto] s t)) ∧
  (∀ (first count : Nat) (s : State), s.legacyOn = true → s.ringRoom 5 = true → s.cpUp = true → s.ring 5 = [] → 1 ≤ count → count ≤ 16 →
    Answers (.legacyReadReg first count) s (fun t =>
      t.bus.spiOut = s.bus.legacyResult ∧ t.bus.legacyResult = legacyResult 0 ((List.range count).map (fun i => s.legacyReg (first + i)))
        ∧ KeptBut [.bus] s t)) ∧
  (∀ s : State, s.legacyOn = true → s.ringRoom 5 = true → s.cpUp = true → s.ring 5 = [] →
    Answers .legacyStatus s (fun t =>
      t.bus.spiOut = s.bus.legacyResult ∧ t.bus.legacyResult = legacyResult 0 [s.legacyReg 1] ∧ KeptBut [.bus] s t)) ∧
  (∀ s : State, s.legacyOn = true → s.ringRoom 5 = true → s.cpUp = false →
    Answers .legacyUpdate s (fun t =>
      t.ring 5 = s.ring 5 ++ [⟨legacyFrame 2 0 0 [], 0, s.now⟩] ∧ t.bus.spiOut = s.bus.legacyResult ∧ t.bus.legacyResult = legacyResult 0 []
        ∧ (∀ n, n ≠ 5 → t.ring n = s.ring n) ∧ KeptBut [.bus, .rings] s t)) ∧
  (∀ (status : Nat) (s : State), s.legacyOn = true → 1 ≤ status → status ≤ 3 →
    Answers (.legacyFrameInvalid status) s (fun t =>
      t.bus.legacyResult = legacyResult status [] ∧ t.bus.spiOut = s.bus.legacyResult
        ∧ (s.get Reg.HST_LEGACY_ERR_COUNT.COUNT < Reg.HST_LEGACY_ERR_COUNT.COUNT.max →
            t.get Reg.HST_LEGACY_ERR_COUNT.COUNT = s.get Reg.HST_LEGACY_ERR_COUNT.COUNT + 1)
        ∧ KeptBut [.bus, .regs, .rings, .proto] s t))

/-! ### The cascade (11) -/

/-- R241, R323, R344: the module answers a good request on the CO_ back channel with the reply of its type, a request it does not know
with TYPE 0xFF; EQ_SET and GEN_CHANGE set the hop's preset, generation and lanes. R327, R328: a follower whose input hop is up
sends HELLO, 1 s after the last; the master admits the follower whose HELLO meets R328, an admitted follower passes the HELLO on, one not admitted does not (R329). -/
def Obligations.TheHopAnswersAndFollowersAreDiscovered : Prop :=
  (∀ (m p : List Byte) (type : Nat) (s : State), s.sendsOn = true → readMessage m = some (type, p) → type < 0x10 →
    Answers (.bcRequestRx m) s (fun t =>
      (if 1 ≤ type ∧ type ≤ 5 then ∃ q, t.casc.coBcOut = bcMessage (type + 0x80) q else t.casc.coBcOut = bcMessage 0xFF [])
        ∧ (type = 3 → t.casc.coPreset = leAt p 0 1) ∧ (type = 4 → t.get Reg.CAS_STATUS.HOP_GEN = leAt p 0 1 % 4 ∧ t.casc.coLanes = leAt p 1 1)
        ∧ KeptBut [.draws, .casc, .link, .regs, .rings, .proto] s t)) ∧
  (∀ s : State, s.follower = true → s.get Reg.LNK_STATUS.STATE = 6 → s.admittedSelf = false → s.link.request = 0 →
    Answers .helloSend s (fun t =>
      t.now = (match s.casc.helloAt with | none => s.now | some h => max s.now (if h < s.link.upAt then s.link.upAt else h + ms 1000))
        ∧ t.casc.helloAt = some t.now ∧ t.link.request = 0x10 ∧ t.link.payload = s.helloPayload
        ∧ t.link.bcOut = bcMessage 0x10 s.helloPayload ∧ KeptBut [.now, .casc, .link] s t)) ∧
  (∀ (m p : List Byte) (s : State), s.sendsOn = true → readMessage m = some (0x10, p) → p.length = 20 → s.follower = false →
    Answers (.helloRx m) s (fun t =>
      t.casc.coBcOut = bcMessage 0x90 []
        ∧ (s.admits p = true → t.get (Reg.CAS_MEMBER.P (leAt p 0 1)) = 1 ∧ t.member (leAt p 0 1) = some (helloMember p s.now))
        ∧ (s.admits p = false → (∀ k, k ≤ 3 → t.get (Reg.CAS_MEMBER.P k) = s.get (Reg.CAS_MEMBER.P k)) ∧ t.casc.members = s.casc.members)
        ∧ KeptBut [.casc, .link, .regs, .rings, .proto] s t)) ∧
  (∀ (m p : List Byte) (s : State), s.sendsOn = true → readMessage m = some (0x10, p) → p.length = 20 → s.follower = true →
    s.link.request = 0 →
    Answers (.helloRx m) s (fun t =>
      t.casc.coBcOut = bcMessage 0x90 []
        ∧ (s.admittedSelf = true → t.link.request = 0x10 ∧ t.link.payload = p ∧ t.member (leAt p 0 1) = some (helloMember p s.now))
        ∧ (s.admittedSelf = false → t.link = s.link ∧ t.casc.members = s.casc.members)
        ∧ KeptBut [.casc, .link] s t))

/-- R327: a follower sends STATE 2 ms after the last, at once when it has changed. R348, R350: the master records the entry of a
follower it knows, in CAS_MEMBER as well. R349: 20 ms to 25 ms without one, the follower is unknown and it and all downstream are
no longer admitted. -/
def Obligations.FollowerStatusIsKeptOrLost : Prop :=
  (∀ s : State, s.follower = true → s.get Reg.LNK_STATUS.STATE = 6 → s.link.request = 0 →
    Answers .stateSend s (fun t =>
      t.now = (if s.statePayload = s.casc.sentState then max s.now (s.casc.stateAt + ms 2) else s.now) ∧ t.casc.stateAt = t.now
        ∧ t.casc.sentState = s.statePayload ∧ t.link.request = 0x12 ∧ t.link.payload = s.statePayload ∧ KeptBut [.now, .casc, .link] s t)) ∧
  (∀ (m p : List Byte) (x : Member) (s : State), s.sendsOn = true → s.follower = false → readMessage m = some (0x12, p) → p.length = 4 →
    1 ≤ leAt p 0 1 → leAt p 0 1 ≤ 3 → s.member (leAt p 0 1) = some x →
    Answers (.stateRx m) s (fun t =>
      t.casc.coBcOut = bcMessage 0x92 []
        ∧ (∃ y, t.member (leAt p 0 1) = some y ∧ y.flags = leAt p 1 1 ∧ y.input = leAt p 2 1 ∧ y.faults = leAt p 3 1 ∧ y.stateAt = s.now
            ∧ y.serial = x.serial ∧ y.tag = x.tag)
        ∧ t.get (Reg.CAS_MEMBER.P (leAt p 0 1)) = memberBits (s.get (Reg.CAS_MEMBER.P (leAt p 0 1)) % 2) (leAt p 1 1)
        ∧ (∀ k, k ≤ 3 → k ≠ leAt p 0 1 → t.get (Reg.CAS_MEMBER.P k) = s.get (Reg.CAS_MEMBER.P k))
        ∧ KeptBut [.casc, .regs, .rings, .proto] s t)) ∧
  (∀ (pos : Nat) (x : Member) (s : State), s.follower = false → s.member pos = some x → 1 ≤ pos → pos ≤ 3 →
    bit (s.get (Reg.CAS_MEMBER.P pos)) 4 = false →
    Answers (.followerStatusTimeout pos) s (fun t =>
      x.stateAt + ms 20 < t.now ∧ t.now ≤ max s.now (x.stateAt + ms 25) ∧ bit (t.get (Reg.CAS_MEMBER.P pos)) 4 = true
        ∧ (∀ k, pos ≤ k → k ≤ 3 → bit (t.get (Reg.CAS_MEMBER.P k)) 0 = false)
        ∧ (∀ k, k < pos → t.get (Reg.CAS_MEMBER.P k) = s.get (Reg.CAS_MEMBER.P k))
        ∧ KeptBut [.now, .draws, .casc, .link, .flt, .regs, .rings, .proto] s t))

/-- R333: the master sends its marker 40 µs to 30 µs before the coming boundary, which it names, with the mode and epoch that land
there. R334: a follower whose coming boundary is within 64 base cycles of the marked one moves it there. R336, R351: a marker that
is missing at the expected boundary is counted and ends the alignment; the fourth in a row is a loss of the input. -/
def Obligations.MarkersAlignFollowers : Prop :=
  (∀ s : State, s.follower = false → s.scan.running = true → s.sendsOn = true → us 40 ≤ s.nextBoundary →
    Answers .markSend s (fun t =>
      s.nextBoundary ≤ t.now + us 40 ∧ t.now ≤ max s.now (s.nextBoundary - us 30)
        ∧ (∃ m, t.casc.mark = some m ∧ t.casc.last = some m ∧ m.boundary = s.nextBoundary ∧ m.frame = s.comingCount
            ∧ m.mode = s.casc.modePending.getD s.cascMode ∧ m.admitMap = s.admitByte ∧ m.epoch = t.casc.epoch
            ∧ t.casc.coOut = markBytes m (s.nextBoundary - t.now))
        ∧ t.casc.modeLands = s.casc.modePending ∧ t.casc.modePending = none
        ∧ t.casc.epoch = (if s.casc.modePending.isSome then (s.casc.epoch + 1) % 256 else s.casc.epoch)
        ∧ t.get Reg.CAS_STATUS.ADMIT = s.admitByte / 2 % 8 ∧ t.get Reg.CAS_STATUS.EPOCH = t.casc.epoch % 256
        ∧ KeptBut [.now, .draws, .casc, .regs] s t ∧ RegsKeptBut [Reg.CAS_STATUS.ADMIT, Reg.CAS_STATUS.EPOCH] s t)) ∧
  (∀ (r : List Byte) (h : Nat) (m : Mark) (delay : Nat) (s : State), s.follower = true → readMark r = some (m, delay) → 200 ≤ delay →
    Answers (.markRx r h) s (fun t =>
      t.casc.mark = some { m with boundary := s.now + delay - h } ∧ t.casc.missed = 0 ∧ t.get Reg.CAS_STATUS.ADMIT = m.admitMap / 2 % 8
        ∧ t.get Reg.CAS_STATUS.EPOCH = m.epoch % 256
        ∧ (s.scan.running = true → s.nextBoundary ≤ s.now + delay - h + 64 → s.now + delay - h ≤ s.nextBoundary + 64 →
            t.get Reg.SCN_FRAME_PERIOD.PERIOD = (s.now + delay - h - s.scan.frameStart) % 2 ^ Reg.SCN_FRAME_PERIOD.PERIOD.width
              ∧ t.casc.goodMarks = s.casc.goodMarks + 1 ∧ t.get Reg.CAS_STATUS.ALIGN = (if 4 ≤ s.casc.goodMarks + 1 then 2 else 1))
        ∧ KeptBut [.casc, .regs, .rings, .proto] s t
        ∧ RegsKeptBut [Reg.CAS_STATUS.ADMIT, Reg.CAS_STATUS.EPOCH, Reg.CAS_STATUS.ALIGN, Reg.CAS_PHASE.ERR, Reg.SCN_FRAME_PERIOD.PERIOD,
            Reg.CAS_REALIGN_COUNT.COUNT, Reg.CAS_FLAGS.CNT_SAT] s t)) ∧
  (∀ s : State, s.follower = true → s.scan.running = true → s.casc.mark = none → s.casc.last.isSome = true →
    Answers .markerMissing s (fun t =>
      t.now = max s.now s.nextBoundary ∧ t.casc.missed = s.casc.missed + 1 ∧ t.casc.goodMarks = 0 ∧ t.get Reg.CAS_STATUS.ALIGN = 1
        ∧ (s.casc.missed = 3 → s.losable = true → s.get Reg.LNK_TIMING.HOLD_MS ≠ 0 → t.get Reg.LNK_STATUS.INPUT = 3)
        ∧ (s.casc.missed ≠ 3 → KeptBut [.now, .casc, .regs, .rings, .proto] s t)))

/-- R339: at B − 95,000 base cycles the master sends a TAKE for the coming boundary that names the newest frame forwarded whole and
held complete, or REPEAT; a follower keeps a good TAKE and passes it on. R342, R66: the master in a clone mode sends the composition of
the coming boundary whole, to be shown one boundary later. -/
def Obligations.TakesAndClonesNameTheFrameOfABoundary : Prop :=
  (∀ s : State, s.follower = false → s.scan.running = true → s.forwards = true →
    Answers .takeSend s (fun t =>
      t.now = max s.now (s.nextBoundary - 95000)
        ∧ (∃ k, t.casc.take = some k ∧ k.frame = s.comingCount ∧ k.input = s.get Reg.LNK_STATUS.INPUT
            ∧ t.casc.coOut = takeBytes k ∧ (k.rep = true → k.seq = 0)
            ∧ (k.rep = false → (∃ f, s.casc.forwarded = some (k.seq, f)) ∧ (∃ r ∈ s.link.ready, r.seq = k.seq) ∧ s.casc.named ≠ some k.seq
                ∧ t.casc.named = some k.seq))
        ∧ KeptBut [.now, .casc] s t)) ∧
  (∀ (r : List Byte) (s : State), s.follower = true → r.length = 32 → crc32cFold 0 (r.take 28) = leAt r 28 4 →
    Answers (.takeRx r) s (fun t =>
      t.casc.take = some ⟨leAt r 0 4, leAt r 4 2, bit (leAt r 6 1) 0, leAt r 7 1⟩
        ∧ t.casc.coOut = (if s.sendsOn && s.admittedSelf then r else s.casc.coOut) ∧ KeptBut [.casc] s t)) ∧
  (∀ s : State, s.scan.running = true → s.showsClone = true →
    Answers .cloneFrameSend s (fun t =>
      let n := (s.comingCount + 1) % 2 ^ 32
      let img := s.preview.composition s.nextBoundary
      t.casc.cloneNext = some (n, img) ∧ t.casc.boxNext = s.ownBoxes s.nextBoundary ∧ t.casc.cloneNew = s.contentLands
        ∧ t.casc.coOut = cloneFrame (s.get Reg.CAS_FWD_COUNT.COUNT) n s.time (s.ownBoxes s.nextBoundary) img
        ∧ (s.get Reg.CAS_FWD_COUNT.COUNT < Reg.CAS_FWD_COUNT.COUNT.max → t.get Reg.CAS_FWD_COUNT.COUNT = s.get Reg.CAS_FWD_COUNT.COUNT + 1)
        ∧ KeptBut [.casc, .regs, .rings, .proto] s t))

/-- R345: a packet in a CMD block enters ring 4 of an admitted follower it is for and is sent on when it is for others. R346: the first
of several segments from downstream begins a reassembly; a packet of one segment goes up by ring 12, and in the master, resealed,
to the reply ring of its request. R352, R353: CASCADE_STATUS reads, CASCADE_MODE asks for a mode. -/
def Obligations.PacketsTravelAlongTheChain : Prop :=
  (∀ (block : List Byte) (s : State), s.follower = true → s.admittedSelf = true → framed s.tag (block.take (10 + leAt block 4 2)) = true →
    s.ringRoom 4 = true →
    Answers (.cascadeCmdRx block) s (fun t =>
      let p := block.take (10 + leAt block 4 2)
      t.ring 4 = s.ring 4 ++ (if leAt p 6 1 = s.position ∨ leAt p 6 1 = 0x0F then [⟨p, 0, s.now⟩] else [])
        ∧ t.casc.coOut = (if leAt p 6 1 ≠ s.position ∧ s.sendsOn = true then cmdBlock s.nextTag p else s.casc.coOut)
        ∧ KeptBut [.rings, .casc] s t)) ∧
  (∀ (m p : List Byte) (s : State), s.sendsOn = true → readMessage m = some (0x11, p) → 2 ≤ p.length → bit (leAt p 0 1) 7 = true →
    bit (leAt p 0 1) 6 = false → (s.follower = true → s.admittedSelf = true) →
    Answers (.upPacketRx m) s (fun t =>
      t.casc.up = some ⟨(leAt p 0 1 % 64 + 1) % 64, p.drop 1⟩ ∧ t.casc.coBcOut = bcMessage 0x91 [] ∧ KeptBut [.casc] s t)) ∧
  (∀ (m p : List Byte) (x : Member) (s : State), s.sendsOn = true → readMessage m = some (0x11, p) → 2 ≤ p.length → bit (leAt p 0 1) 7 = true →
    bit (leAt p 0 1) 6 = true → s.member (leAt (p.drop 1) 6 1) = some x → framed x.tag (p.drop 1) = true → s.follower = true → s.admittedSelf = true →
    s.ringRoom 12 = true →
    Answers (.upPacketRx m) s (fun t =>
      t.ring 12 = s.ring 12 ++ [⟨p.drop 1, 0, s.now⟩] ∧ t.casc.up = none ∧ KeptBut [.casc, .rings] s t)) ∧
  (∀ (m p : List Byte) (x : Member) (ring : Nat) (s s' : State), s.sendsOn = true → readMessage m = some (0x11, p) → 2 ≤ p.length →
    bit (leAt p 0 1) 7 = true → bit (leAt p 0 1) 6 = true → s.member (leAt (p.drop 1) 6 1) = some x → framed x.tag (p.drop 1) = true →
    s.follower = false → leAt (p.drop 1) 0 2 < 0xF000 → s.takeRoute (p.drop 1) = some (ring, s') → s.ringRoom (ring + 8) = true →
    Answers (.upPacketRx m) s (fun t =>
      t.ring (ring + 8) = s.ring (ring + 8) ++ [⟨reseal s.tag (p.drop 1), 0, s.now⟩] ∧ t.casc.routes = s'.casc.routes ∧ t.casc.up = none
        ∧ KeptBut [.casc, .rings] s t)) ∧
  (∀ (r : Req) (s : State), s.accepts opCascadeStatus r → s.answers r →
    Answers (.cascadeStatus r) s (fun t => ∃ res, Replied s t opCascadeStatus r res ∧ res.length = 42
      ∧ leAt res 14 4 = s.get Reg.CAS_PHASE.ERR % 2 ^ 32
      ∧ (∀ k x, 1 ≤ k → k ≤ 3 → s.admitted k = true → s.follower = false → s.member k = some x → leAt res (18 + 8 * (k - 1)) 8 = x.serial % 2 ^ 64)
      ∧ KeptBut [.now, .pwr, .regs, .rings, .proto, .casc] s t)) ∧
  (∀ (r : Req) (s : State), s.accepts opCascadeMode r → s.power = 2 → r.target = 0 → s.follower = false → cascadeModeBad r.params = false →
    (((readMode r.params).mode = 1 ∨ (readMode r.params).clone = true) → s.targets 0x0F ≠ [] → 2 ≤ s.get Reg.CAS_STATUS.HOP_GEN) →
    Answers (.cascadeMode r) s (fun t =>
      t.casc.modePending = some (readMode r.params) ∧ KeptBut [.now, .pwr, .casc, .regs, .rings, .proto] s t))

/-! ### Safety functions (12) -/

/-- R366, R367: a comparator trips and releases in its band, TEMP_HIGH and overvoltage with lock-out, TEMP_CUT and overvoltage with every string
off. R358 to R360, R362: PERMIT follows its conditions, its fall with a string conducting starts covering, which ends 10 s after it rose again;
a heartbeat interval from 1.5 ms to 2.5 ms is good, one outside 1.3 ms to 2.7 ms or none for 2.7 ms is a lock-out cause. R380 to R382: a level
held for 1.2 ms is seen and an antivalent pair accepted, one held for 0.5 ms or less is not, and a disagreement past its band is a
discrepancy. R363, R364, R371: the limiter is asked for within 1 ms, the guard arms after 80,000 oscillator cycles, and a guarded row above
1.10 × CUTOFF_I_LIMIT + 2 µA trips it. -/
def Obligations.ComparatorsInputsHeartbeatAndGuardActInTheirBands : Prop :=
  (∀ (c theta : Nat) (s : State), theta ≤ 1569 → Answers (.tempHighTrip c theta) s (fun t => t = s)) ∧
  (∀ (c theta : Nat) (s : State), s.phase ≠ .dark → c < 8 → bit (s.get Reg.SAF_KS_STATUS.TEMP_HIGH) c = false → 1630 ≤ theta →
    s.ksTested = false → s.lockedOut = false → (∀ w ∈ s.flt.windows, w.reaction ≠ 6) →
    Answers (.tempHighTrip c theta) s (fun t =>
      bit (t.get Reg.SAF_KS_STATUS.TEMP_HIGH) c = true ∧ t.lockedOut = true ∧ t.get Reg.SAF_LOCKOUT.CAUSE = 4 ∧ t.get Reg.SAF_LOCKOUT.CHANNEL = 2
        ∧ t.get Reg.SAF_STATUS.KS_ALLOW = 0 ∧ t.get Reg.SAF_STATUS.SAFE_STATE = 1 ∧ t.get Reg.SAF_STATUS.PERMIT = 0 ∧ t.now = s.now)) ∧
  (∀ (c theta : Nat) (s : State), s.phase ≠ .dark → c < 8 → bit (s.get Reg.SAF_KS_STATUS.TEMP_HIGH) c = true → theta ≤ 1469 →
    Answers (.tempHighRelease c theta) s (fun t =>
      bit (t.get Reg.SAF_KS_STATUS.TEMP_HIGH) c = false ∧ t.lockedOut = s.lockedOut ∧ KeptBut [.ks, .scan, .regs] s t)) ∧
  (∀ (c theta : Nat) (s : State), s.phase ≠ .dark → c < 8 → bit (s.get Reg.SAF_KS_STATUS.TEMP_CUT) c = false → 1780 ≤ theta →
    Answers (.tempCutTrip c theta) s (fun t =>
      bit (t.get Reg.SAF_KS_STATUS.TEMP_CUT) c = true ∧ t.get Reg.SAF_STATUS.KS_ALLOW = 0 ∧ t.get Reg.STR_STATUS.LIMP_ENGAGED = 0
        ∧ KeptBut [.ks, .scan, .regs] s t)) ∧
  (∀ (c theta : Nat) (s : State), s.phase ≠ .dark → c < 8 → bit (s.get Reg.SAF_KS_STATUS.TEMP_CUT) c = true → theta ≤ 1619 →
    Answers (.tempCutRelease c theta) s (fun t => bit (t.get Reg.SAF_KS_STATUS.TEMP_CUT) c = false ∧ KeptBut [.ks, .scan, .regs] s t)) ∧
  (∀ (mv held : Nat) (s : State), mv ≤ 34500 → Answers (.vstrOvervoltageTrip mv held) s (fun t => KeptBut [.pads] s t)) ∧
  (∀ (mv held : Nat) (s : State), s.phase ≠ .dark → s.ks.vstrOff = false → 36000 < mv → us 5 ≤ held → s.lockedOut = false →
    (∀ w ∈ s.flt.windows, w.reaction ≠ 6) →
    Answers (.vstrOvervoltageTrip mv held) s (fun t =>
      t.get Reg.SAF_KS_STATUS.VSTR_OVER = 1 ∧ t.ks.vstrOff = true ∧ t.lockedOut = true ∧ t.get Reg.SAF_LOCKOUT.CAUSE = 3
        ∧ t.get Reg.SAF_STATUS.KS_ALLOW = 0 ∧ t.get Reg.STR_STATUS.LIMP_ENGAGED = 0 ∧ t.now = s.now)) ∧
  (∀ (mv : Nat) (s : State), s.ks.vstrOff = true → mv < 33000 →
    Answers (.vstrOvervoltageRelease mv) s (fun t =>
      t.now = s.now + ms 10 ∧ t.get Reg.SAF_KS_STATUS.VSTR_OVER = 0 ∧ t.ks.vstrOff = false ∧ t.lockedOut = s.lockedOut
        ∧ KeptBut [.now, .pads, .ks, .scan, .regs] s t)) ∧
  (∀ s : State, s.permitOk = true →
    Answers .permitRise s (fun t => t.flag Reg.SAF_STATUS.PERMIT = true ∧ KeptBut [.ks, .scan, .regs] s t)) ∧
  (∀ s : State, s.permitOk = false →
    Answers .permitFall s (fun t =>
      t.flag Reg.SAF_STATUS.PERMIT = false
        ∧ (s.flag Reg.SAF_STATUS.PERMIT = true → (s.ksTested = false → t.get Reg.SAF_STATUS.KS_ALLOW = 0)
          ∧ (s.conductedWithin (ms 10) = true → t.flag Reg.SAF_STATUS.COVERING = true))
        ∧ KeptBut [.ks, .scan, .regs, .rings, .proto] s t)) ∧
  (∀ s : State, s.flag Reg.SAF_STATUS.COVERING = true → s.flag Reg.SAF_STATUS.PERMIT = true →
    Answers .coveringTimeout s (fun t =>
      t.now = max s.now (s.ks.permitRose + ms 10000) ∧ t.get Reg.SAF_STATUS.COVERING = 0 ∧ KeptBut [.now, .ks, .scan, .regs, .rings, .proto] s t)) ∧
  (∀ (n a : Nat) (s : State), s.spUp = true → s.sp.coverageOk = true → s.flag Reg.SAF_STATUS.PERMIT = true → s.ks.lastToggle = some a →
    150000 ≤ n → n ≤ 250000 →
    Answers (.heartbeatToggle n) s (fun t =>
      t.now = max s.now (a + n) ∧ t.ks.lastToggle = some t.now ∧ t.ks.toggled = true ∧ n * 76 / 1000 ≤ t.get Reg.SAF_HB.INTERVAL
        ∧ t.get Reg.SAF_HB.INTERVAL ≤ n * 84 / 1000 + 1 ∧ t.lockedOut = s.lockedOut
        ∧ t.get Reg.SAF_KS_STATUS.HB_FAULT = s.get Reg.SAF_KS_STATUS.HB_FAULT ∧ KeptBut [.now, .draws, .ks, .scan, .regs] s t)) ∧
  (∀ (n a : Nat) (s : State), s.spUp = true → s.sp.coverageOk = true → s.flag Reg.SAF_STATUS.PERMIT = true → s.ks.lastToggle = some a →
    (n < 130000 ∨ 270000 < n) → s.lockedOut = false → (∀ w ∈ s.flt.windows, w.reaction ≠ 6) →
    Answers (.heartbeatToggle n) s (fun t =>
      t.get Reg.SAF_KS_STATUS.HB_FAULT = 1 ∧ t.lockedOut = true ∧ t.get Reg.SAF_LOCKOUT.CAUSE = 2 ∧ t.get Reg.SAF_STATUS.PERMIT = 0)) ∧
  (∀ s : State, s.flag Reg.SAF_STATUS.PERMIT = true → s.lockedOut = false → (∀ w ∈ s.flt.windows, w.reaction ≠ 6) →
    Answers .heartbeatTimeout s (fun t =>
      t.now ≤ max s.now (s.ks.lastToggle.getD s.ks.permitRose + 270000) ∧ s.ks.lastToggle.getD s.ks.permitRose + 250000 < t.now
        ∧ t.get Reg.SAF_KS_STATUS.HB_FAULT = 1 ∧ t.lockedOut = true ∧ t.get Reg.SAF_LOCKOUT.CAUSE = 2)) ∧
  (∀ (channel pair held : Nat) (a b : Bool) (s : State), held ≤ 50000 →
    Answers (.dualInputChange channel pair a b held) s (fun t => KeptBut [.pads] s t)) ∧
  (∀ (channel pair held : Nat) (a b : Bool) (s : State), s.phase ≠ .dark → (channel = 1 ∨ channel = 2) → pair ≤ 1 →
    (channel = 1 → s.spUp = true ∧ s.spTested = false) → ¬ ((s.pairView channel pair).a = a ∧ (s.pairView channel pair).b = b) → 120000 ≤ held →
    (s.pairView channel pair).since = none → (s.pairView channel pair).disc = false →
    Answers (.dualInputChange channel pair a b held) s (fun t =>
      (t.pairView channel pair).a = a ∧ (t.pairView channel pair).b = b
        ∧ (a ≠ b → (t.pairView channel pair).active = a ∧ (t.pairView channel pair).since = none)
        ∧ (a = b → (t.pairView channel pair).since = some s.now ∧ (t.pairView channel pair).active = (s.pairView channel pair).active)
        ∧ t.get Reg.SAF_INPUTS.HPERM = b2n t.hpermNow ∧ t.get Reg.SAF_INPUTS.LIMP = b2n t.limpNow)) ∧
  (∀ (channel pair a : Nat) (s : State), (channel = 1 ∨ channel = 2) → pair ≤ 1 → (channel = 1 → s.spUp = true) →
    (s.pairView channel pair).since = some a → s.lockedOut = false → (∀ w ∈ s.flt.windows, w.reaction ≠ 6) →
    Answers (.discrepancyTimeout channel pair) s (fun t =>
      a + discLow (s.discTime channel pair) ≤ t.now ∧ t.now ≤ max s.now (a + discHigh (s.discTime channel pair))
        ∧ (t.pairView channel pair).disc = true ∧ (t.pairView channel pair).since = none ∧ t.lockedOut = true
        ∧ t.get Reg.SAF_LOCKOUT.CAUSE = 5 + pair ∧ t.get Reg.SAF_LOCKOUT.CHANNEL = channel ∧ (pair = 0 → t.get Reg.SAF_INPUTS.HPERM = 0))) ∧
  (∀ s : State, s.spUp = true → ((s.sp.cutPending.map (·.1)).getD (s.flag Reg.SAF_CUTOFF.SET)) ≠ s.limiterWanted →
    Answers .cutoffLimiterUpdate s (fun t =>
      s.now ≤ t.now ∧ t.now ≤ s.now + ms 1 ∧ t.sp.cutPending = some (s.limiterWanted, t.now) ∧ t.get Reg.SAF_CUTOFF.PENDING = 1
        ∧ KeptBut [.now, .draws, .sp, .regs] s t ∧ RegsKeptBut [Reg.SAF_CUTOFF.PENDING] s t)) ∧
  (∀ (a : Nat) (s : State), s.ks.armAt = some a → Block.cutoffEn s.ksBlock = true → s.ks.armed = true → s.flag Reg.SAF_STATUS.CUTOFF_ARMED = false →
    Answers .cutoffGuardArm s (fun t =>
      a + 950000 ≤ t.now ∧ t.now ≤ max s.now (a + 1050000) ∧ t.get Reg.SAF_STATUS.CUTOFF_ARMED = 1 ∧ t.ks.armedAt = t.now
        ∧ KeptBut [.now, .draws, .ks, .regs] s t ∧ RegsKeptBut [Reg.SAF_STATUS.CUTOFF_ARMED] s t)) ∧
  (∀ (row mean : Nat) (s : State), s.flag Reg.SAF_STATUS.CUTOFF_ARMED = true → row < 512 → Block.guarded s.ksBlock row = true →
    10 * mean + 20000 ≤ 9000 * Block.cutoffLimit s.ksBlock →
    Answers (.cutoffWindowEnd row mean) s (fun t => t.now = max s.now s.window.2 ∧ KeptBut [.now] s t)) ∧
  (∀ (row mean : Nat) (s : State), s.flag Reg.SAF_STATUS.CUTOFF_ARMED = true → row < 512 → Block.guarded s.ksBlock row = true →
    11000 * Block.cutoffLimit s.ksBlock + 20000 < 10 * mean → s.ks.armedAt ≤ s.window.1 → s.lockedOut = false →
    (∀ w ∈ s.flt.windows, w.reaction ≠ 6) →
    Answers (.cutoffWindowEnd row mean) s (fun t =>
      t.now = max s.now s.window.2 ∧ t.get Reg.SAF_KS_STATUS.TRIP_ROW = row ∧ t.lockedOut = true ∧ t.get Reg.SAF_LOCKOUT.CAUSE = 1))

/-- R42, R43, R387: the Kiln Shutter takes its newer valid configuration within 8 ms of VAUX, or locks out; a recorded lock-out is taken up; a
lock-out is written to its three copies. R378: the coverage test lets the SP run or locks out. R389 to R391, R403, R404: ARM gives a nonce;
CONFIRM with it in its window leaves lock-out when nothing stands against it, else tells the reasons; either consumes the ARM. R395, R397, R398,
R401, R402: a LOAD stages a block for 60 s, a CONFIRM that matches starts the writes with PERMIT low, one that does not discards the block, and
the end of the writes puts the block in force. R400: SAFETY_STATUS answers the registers. -/
def Obligations.LockOutIsKeptAndLeftAndCommissioningIsWritten : Prop :=
  (∀ (k : Nat) (s : State), s.phase ≠ .dark → s.ks.armed = false → s.chooseCopy = some k → s.recordOf = none →
    Answers (.ksNvmCheck true) s (fun t =>
      s.now ≤ t.now ∧ t.now ≤ max s.now (s.clk.start + ms 8) ∧ t.ks.armed = true ∧ t.get Reg.SAF_KS_STATUS.KS_COPY = k
        ∧ t.get Reg.SAF_KS_CRC.CRC = Block.check s.id.serial (if k = 0 then s.ks.copy0 else s.ks.copy1).block % 2 ^ 32)) ∧
  (∀ s : State, s.phase ≠ .dark → s.ks.armed = false → s.chooseCopy = none → s.recordOf = none → s.lockedOut = false →
    s.bst.run = none →
    Answers (.ksNvmCheck true) s (fun t =>
      t.ks.armed = false ∧ t.lockedOut = true ∧ t.get Reg.SAF_LOCKOUT.CAUSE = 7 ∧ t.get Reg.SAF_LOCKOUT.LIMP_PATH = 1
        ∧ t.get Reg.STR_STATUS.LIMP_ENGAGED = 0)) ∧
  (∀ (x : LockRecord) (s : State), s.phase ≠ .dark → s.ks.armed = false → s.recordOf = some x → s.lockedOut = false →
    s.bst.run = none →
    Answers (.ksNvmCheck true) s (fun t =>
      t.lockedOut = true ∧ t.get Reg.SAF_LOCKOUT.CAUSE = x.cause % 256 ∧ t.get Reg.SAF_LOCKOUT.EPOCH = x.epoch % 65536
        ∧ t.get Reg.SAF_LOCKOUT_TIME_LO.TIME = x.time % 2 ^ 32 ∧ t.get Reg.SAF_STATUS.KS_ALLOW = 0)) ∧
  (∀ (copy : Nat) (s : State), s.lockedOut = true → copy < 3 →
    (match copy with | 0 => s.locks.aon | 1 => s.locks.ks | _ => s.locks.nvm) ≠ some s.lockRecord → (copy = 2 → s.mpUp = true) →
    Answers (.lockoutRecordWrite copy) s (fun t =>
      t.locks = (match copy with
        | 0 => { s.locks with aon := some s.lockRecord }
        | 1 => { s.locks with ks := some s.lockRecord }
        | _ => { s.locks with nvm := some s.lockRecord })
        ∧ KeptBut [.now, .draws, .locks] s t)) ∧
  (∀ s : State, s.spUp = true → s.sp.coverageOk = false → s.sp.halted = false → s.phase = .spStart → s.pwr.wake = none →
    Block.check s.id.serial s.spBlock % 2 ^ 32 = s.get Reg.SAF_KS_CRC.CRC →
    Answers (.spCoverageTest true) s (fun t =>
      s.now ≤ t.now ∧ t.now ≤ s.now + ms 5 ∧ t.sp.coverageOk = true ∧ t.phase = .abist ∧ t.lockedOut = s.lockedOut
        ∧ t.get Reg.SAF_PARAM_CRC.CRC = s.get Reg.SAF_KS_CRC.CRC ∧ KeptBut [.now, .draws, .phase, .sp, .regs] s t)) ∧
  (∀ s : State, s.spUp = true → s.sp.coverageOk = false → s.sp.halted = false → s.phase = .spStart → s.lockedOut = false →
    (∀ w ∈ s.flt.windows, w.reaction ≠ 6) →
    Answers (.spCoverageTest false) s (fun t =>
      t.sp.coverageOk = false ∧ t.sp.halted = true ∧ t.lockedOut = true ∧ t.get Reg.SAF_LOCKOUT.CAUSE = 0x15 ∧ t.get Reg.SAF_STATUS.CONFIG_OK = 0)) ∧
  (∀ (r : Req) (s : State), s.accepts opSafetyStatus r → s.answers r →
    Answers (.safetyStatus r) s (fun t => ∃ res, Replied s t opSafetyStatus r res ∧ res.length = 66
      ∧ (∀ k < 7, leAt res (4 * k) 4 = s.regWord (0x40C00000 + 4 * k) % 2 ^ 32) ∧ leAt res 28 2 = 0
      ∧ (∀ k < 8, leAt res (30 + 4 * k) 4 = s.get (Reg.SAF_SP_DIGEST.BYTES k) % 2 ^ 32)
      ∧ leAt res 62 4 = s.get Reg.SAF_COMMISSION_COUNT.COUNT % 2 ^ 32
      ∧ KeptBut [.now, .pwr, .regs, .rings, .proto, .casc] s t ∧ RegsKeptBut answerFields s t)) ∧
  (∀ (r : Req) (s : State), s.accepts opCommissionLoad r → s.inReady = true → s.com.writing = none → s.spAway = false → s.blockBad r.params = false →
    Answers (.commissionLoad r) s (fun t =>
      t.com = { s.com with staged := some (r.params, s.now + r.wait) }
        ∧ (s.answers r → Replied s t opCommissionLoad r (le 4 (Block.check s.id.serial r.params)))
        ∧ KeptBut [.now, .pwr, .com, .regs, .rings, .proto, .casc] s t ∧ RegsKeptBut answerFields s t)) ∧
  (∀ (x : List Byte × Nat) (s : State), s.com.staged = some x →
    Answers .commissionStageExpiry s (fun t =>
      t.now = max s.now (x.2 + ms 60000) ∧ t.com = { s.com with staged := none } ∧ KeptBut [.now, .com] s t)) ∧
  (∀ (r : Req) (b : List Byte) (t0 : Nat) (s : State), s.accepts opCommissionConfirm r → s.inReady = true → s.com.writing = none → s.spAway = false →
    s.com.staged = some (b, t0) → leAt r.params 0 4 = Block.check s.id.serial b → leAt r.params 4 4 = 0 → r.params.drop 8 = s.sp.digest →
    Answers (.commissionConfirm r) s (fun t =>
      t.com = { s.com with staged := none, writing := some (some b, s.sp.digest) } ∧ t.flag Reg.SAF_STATUS.PERMIT = false
        ∧ (s.answers r → ∃ p ∈ t.ring (r.ring + 8), p.bytes = sealed s.tag 0x8502 r.seq 0 s.position (le 2 Status.pending))
        ∧ KeptBut [.now, .pwr, .com, .ks, .scan, .regs, .rings, .proto, .casc] s t)) ∧
  (∀ (r : Req) (b : List Byte) (t0 : Nat) (s : State), s.accepts opCommissionConfirm r → s.inReady = true → s.com.writing = none → s.spAway = false →
    s.com.staged = some (b, t0) → bit (leAt r.params 4 1) 0 = false → leAt r.params 0 4 ≠ Block.check s.id.serial b →
    Answers (.commissionConfirm r) s (fun t =>
      t.com = { s.com with staged := none } ∧ KeptBut [.now, .pwr, .com, .regs, .rings, .proto, .casc] s t ∧ RegsKeptBut answerFields s t)) ∧
  (∀ (b digest : List Byte) (s : State), s.com.writing = some (some b, digest) → s.spUp = true →
    Answers (.commissionWritesDone true) s (fun t =>
      t.com.writing = none ∧ t.com.block = b ∧ t.com.confirmedDigest = digest ∧ t.ksCopy.block = b ∧ t.get Reg.SAF_STATUS.COMMISSIONED = 1
        ∧ t.get Reg.SAF_PARAM_CRC.CRC = Block.check s.id.serial b % 2 ^ 32 ∧ t.get Reg.SAF_KS_CRC.CRC = t.get Reg.SAF_PARAM_CRC.CRC
        ∧ t.tag = (if Block.nodeTag b = 0 then s.id.serial % 2 ^ 32 else Block.nodeTag b) ∧ t.lockedOut = s.lockedOut
        ∧ KeptBut [.com, .ks, .scan, .regs, .rings, .proto] s t)) ∧
  (∀ (x : Option (List Byte) × List Byte) (s : State), s.com.writing = some x → s.spUp = true →
    Answers (.commissionWritesDone false) s (fun t =>
      t.com = { s.com with writing := none } ∧ KeptBut [.com, .regs, .rings, .proto] s t ∧ RegsKeptBut [] s t)) ∧
  (∀ (r : Req) (s : State), s.accepts opSafetyResetArm r → s.lockedOut = true → s.spAway = false →
    Answers (.safetyResetArm r) s (fun t =>
      t.get Reg.SAF_STATUS.ARMED = 1 ∧ t.sp.armAt = s.now + r.wait ∧ t.sp.armNonce < 2 ^ 32
        ∧ (s.answers r → Replied s t opSafetyResetArm r (le 2 0 ++ le 4 t.sp.armNonce))
        ∧ KeptBut [.now, .draws, .pwr, .sp, .regs, .rings, .proto, .casc] s t ∧ RegsKeptBut (Reg.SAF_STATUS.ARMED :: answerFields) s t)) ∧
  (∀ (r : Req) (s : State), s.accepts opSafetyResetConfirm r → s.lockedOut = true → s.flag Reg.SAF_STATUS.ARMED = true → s.spAway = false →
    leAt r.params 0 4 = s.sp.armNonce → s.sp.armAt + ms 50 ≤ s.now + r.wait → s.now + r.wait ≤ s.sp.armAt + ms 2000 →
    (s.atHandler opSafetyResetConfirm r).resetReasons = 0 →
    Answers (.safetyResetConfirm r) s (fun t =>
      t.lockedOut = false ∧ t.locks = ⟨none, none, none⟩ ∧ t.get Reg.SAF_STATUS.ARMED = 0 ∧ t.get Reg.SAF_LOCKOUT.CAUSE = 0
        ∧ t.get Reg.SAF_KS_STATUS.HB_FAULT = 0 ∧ (s.answers r → Replied s t opSafetyResetConfirm r [])
        ∧ KeptBut [.now, .pwr, .ks, .scan, .locks, .regs, .rings, .proto, .casc] s t)) ∧
  (∀ (r : Req) (s : State), s.accepts opSafetyResetConfirm r → s.lockedOut = true → s.flag Reg.SAF_STATUS.ARMED = true → s.spAway = false →
    leAt r.params 0 4 = s.sp.armNonce → s.sp.armAt + ms 50 ≤ s.now + r.wait → s.now + r.wait ≤ s.sp.armAt + ms 2000 →
    (s.atHandler opSafetyResetConfirm r).resetReasons ≠ 0 → (s.follower = true → r.target ≠ 0x0F) →
    Answers (.safetyResetConfirm r) s (fun t =>
      t.lockedOut = true ∧ t.get Reg.SAF_STATUS.ARMED = 0
        ∧ (∃ p ∈ t.ring (r.ring + 8), p.bytes = sealed s.tag 0x8504 r.seq 0 s.position
            (le 2 Status.lockedOut ++ le 4 (s.atHandler opSafetyResetConfirm r).resetReasons))
        ∧ KeptBut [.now, .pwr, .regs, .rings, .proto, .casc] s t ∧ RegsKeptBut (Reg.SAF_STATUS.ARMED :: answerFields) s t)) ∧
  (∀ (r : Req) (s : State), s.accepts opSafetyResetArm r →
    (s.follower = true → r.target ≠ 0x0F) →
    s.lockedOut = false →
    Answers (.safetyResetArm r) s (fun t =>
      (∃ p ∈ t.ring (r.ring + 8), p.bytes = sealed s.tag 0x8503 r.seq 0 s.position (le 2 Status.badState))
        ∧ KeptBut [.now, .pwr, .regs, .rings, .proto, .casc] s t ∧ RegsKeptBut answerFields s t)) ∧
  (∀ (r : Req) (s : State), s.accepts opSafetyResetConfirm r →
    (s.follower = true → r.target ≠ 0x0F) →
    (s.lockedOut = false ∨ s.flag Reg.SAF_STATUS.ARMED = false) →
    Answers (.safetyResetConfirm r) s (fun t =>
      t.lockedOut = s.lockedOut ∧ t.get Reg.SAF_STATUS.ARMED = 0
        ∧ (∃ p ∈ t.ring (r.ring + 8), p.bytes = sealed s.tag 0x8504 r.seq 0 s.position (le 2 Status.badState))
        ∧ KeptBut [.now, .pwr, .regs, .rings, .proto, .casc] s t ∧ RegsKeptBut (Reg.SAF_STATUS.ARMED :: answerFields) s t)) ∧
  (∀ (r : Req) (s : State), s.accepts opSafetyResetConfirm r →
    (s.follower = true → r.target ≠ 0x0F) →
    s.lockedOut = true →
    s.flag Reg.SAF_STATUS.ARMED = true →
    s.spAway = false →
    leAt r.params 0 4 ≠ s.sp.armNonce →
    Answers (.safetyResetConfirm r) s (fun t =>
      t.lockedOut = s.lockedOut ∧ t.get Reg.SAF_STATUS.ARMED = 0
        ∧ (∃ p ∈ t.ring (r.ring + 8), p.bytes = sealed s.tag 0x8504 r.seq 0 s.position (le 2 Status.badParam))
        ∧ KeptBut [.now, .pwr, .regs, .rings, .proto, .casc] s t ∧ RegsKeptBut (Reg.SAF_STATUS.ARMED :: answerFields) s t)) ∧
  (∀ (r : Req) (s : State), s.accepts opSafetyResetConfirm r →
    (s.follower = true → r.target ≠ 0x0F) →
    s.lockedOut = true →
    s.flag Reg.SAF_STATUS.ARMED = true →
    s.spAway = false →
    leAt r.params 0 4 = s.sp.armNonce →
    s.sp.armAt ≤ s.now + r.wait →
    (s.now + r.wait < s.sp.armAt + ms 48 ∨ s.sp.armAt + ms 2010 < s.now + r.wait) →
    Answers (.safetyResetConfirm r) s (fun t =>
      t.lockedOut = s.lockedOut ∧ t.get Reg.SAF_STATUS.ARMED = 0
        ∧ (∃ p ∈ t.ring (r.ring + 8), p.bytes = sealed s.tag 0x8504 r.seq 0 s.position (le 2 Status.badState))
        ∧ KeptBut [.now, .pwr, .regs, .rings, .proto, .casc] s t ∧ RegsKeptBut (Reg.SAF_STATUS.ARMED :: answerFields) s t))

/-! ### Faults (13) -/

/-- R408, R410 to R412, R420, R421, R423, R425: outside every reaction window a report of a CONTAINED or FATAL source without reaction
adds one uncleared fault, a kiln log entry with the next sequence number, a record for the persistent log and an IRQ cause, is the first
fault where none is held, and takes FAULT_N low in static mode; nothing but the collector, its registers and the reply rings changes. -/
def Obligations.AContainedReportIsRaisedAndRecorded : Prop :=
  ∀ (f : FaultIn) (s : State), s.reports f = true → checkerOf f = none → Src.listed f.source = true → 2 ≤ Src.cls f.source →
    Src.reaction f.source = 0 → s.flt.windows = [] →
    Answers (.faultReport [f]) s (fun t =>
      t.flt.uncleared = s.flt.uncleared ++ [⟨s.flt.nextSeq, f.source, Src.cls f.source, f.addr⟩]
        ∧ t.get Reg.FLT_STATUS.UNCLEARED = min 511 (s.flt.uncleared.length + 1)
        ∧ t.flt.nextSeq = (s.flt.nextSeq + 1) % 65536 ∧ t.flt.plogPending.length = s.flt.plogPending.length + 1
        ∧ (∃ e, t.flt.kiln.head? = some e ∧ e.seq = s.flt.nextSeq ∧ e.source = f.source ∧ e.cls = Src.cls f.source ∧ e.addr = f.addr
            ∧ e.access = accessOf f.source f.access ∧ e.merged = false ∧ e.consequential = false)
        ∧ (s.flag Reg.FLT_STATUS.FIRST_VALID = false → s.get Reg.FLT_POLICY.FIRST_MIN ≤ Src.cls f.source →
            t.get Reg.FLT_STATUS.FIRST_VALID = 1 ∧ t.get Reg.FLT_FIRST_ID.SOURCE = f.source ∧ t.get Reg.FLT_FIRST_ID.SEQ = s.flt.nextSeq % 65536)
        ∧ bit (t.get Reg.FLT_IRQ_STATUS.CAUSE) (Src.cls f.source - 1) = true
        ∧ (s.flag Reg.FLT_STATUS.PULSE_MODE = false → t.get Reg.FLT_FAULTN.PIN = 0) ∧ KeptBut [.flt, .regs, .rings, .proto] s t)

/-- R407: a source whose domain is down reports nothing. R421: a pulse of FAULT_N ends 50 µs to 60 µs after it began. R424: a checker that made no check is disarmed 1 s after it was armed. R425: a
waiting record is written within 100 ms where its sequence number puts it, and nothing outside the log changes. R426: the export takes place
when 512 records wait or an hour of on-time has passed, and writes the export container alone. -/
def Obligations.PulsesInjectionAndLogs : Prop :=
  (∀ s : State, s.flag Reg.FLT_STATUS.PULSE_MODE = true → s.flt.pulses ≠ 0 →
    Answers .faultNPulseEnd s (fun t =>
      s.flt.pulseAt + us 50 ≤ t.now ∧ t.now ≤ max s.now (s.flt.pulseAt + us 60) ∧ t.flt.pulses = s.flt.pulses - 1
        ∧ t.flt.pulseAt = t.now + us 50 ∧ KeptBut [.now, .draws, .flt, .regs] s t
        ∧ RegsKeptBut [Reg.FLT_STATUS.UNCLEARED, Reg.FLT_STATUS.HIGHEST, Reg.FLT_STATUS.WINDOW, Reg.FLT_FAULTN.PIN] s t)) ∧
  (∀ (f : FaultIn) (s : State), s.reports f = false → Answers (.faultReport [f]) s (fun t => t = s)) ∧
  (∀ (f : FaultIn) (s : State), s.reports f = true → checkerOf f = none → Src.listed f.source = true → 2 ≤ Src.cls f.source →
    Src.reaction f.source = 0 → s.flt.windows = [] →
    Answers (.faultReport [f]) s (fun t => t.flt.nextSeq = (s.flt.nextSeq + 1) % 65536 ∧ t.flt.windows = [])) ∧
  (∀ s : State, s.flag Reg.FLT_INJECT.ARMED = true → s.flt.injectUsed = false →
    Answers .injectTimeout s (fun t =>
      t.now = max s.now (s.flt.injectAt + ms 1000) ∧ t.get Reg.FLT_INJECT.ARMED = 0 ∧ t.get Reg.FLT_INJECT.REMAIN = 0
        ∧ KeptBut [.now, .flt, .regs, .rings, .proto] s t)) ∧
  (∀ (r : PlogRecord) (s : State), s.flt.plogPending = [r] → s.mpUp = true → s.get Reg.FLT_PLOG_SEQ.SEQ < Reg.FLT_PLOG_SEQ.SEQ.max →
    Answers .persistentLogWrite s (fun t =>
      let n := s.get Reg.FLT_PLOG_SEQ.SEQ + 1
      s.now ≤ t.now ∧ t.now ≤ s.now + ms 100 ∧ t.flt.plogPending = [] ∧ t.get Reg.FLT_PLOG_SEQ.SEQ = n
        ∧ t.flt.plog.head? = some { r with pseq := n }
        ∧ (∀ i < 32, t.nvmByte (plogAddr n + i) = (({ r with pseq := n } : PlogRecord).bytes.getD i 0).toNat)
        ∧ (∀ x, (x < 0x205D8000 ∨ 0x205E8000 ≤ x) → Memory.read 0 t.nvm x = Memory.read 0 s.nvm x)
        ∧ KeptBut [.now, .draws, .nvm, .flt, .regs] s t)) ∧
  (∀ s : State, s.flag Reg.CMP_LIB_STATUS.RAM_STORE = false → s.mpUp = true →
    Answers .faultLogExport s (fun t =>
      t.now = (if 512 ≤ s.unexported.length then s.now else s.now + ms (s.flt.exportOn + 3600000 - s.onMs)) ∧ t.flt.exportOn = t.onMs
        ∧ (∀ x, x < (s.container 6).base → Memory.read 0xFF t.flash x = Memory.read 0xFF s.flash x)
        ∧ KeptBut [.now, .flash, .lib, .flt, .regs] s t
        ∧ RegsKeptBut [Reg.CMP_LIB_STATUS.PATTERNS, Reg.CMP_LIB_STATUS.SYMBOLS] s t))

/-- R428 to R432: the fault commands read the first-fault record and the logs, clear what does not stand, refuse a clear of another first
fault with its SEQ and nothing changed, arm a checker, and set the policy. -/
def Obligations.FaultCommandsReadClearArmAndSet : Prop :=
  (∀ (r : Req) (s : State), s.accepts opFaultReadFirst r → s.answers r →
    Answers (.faultReadFirst r) s (fun t => ∃ res, Replied s t opFaultReadFirst r res ∧ res.length = 34
      ∧ (s.flag Reg.FLT_STATUS.FIRST_VALID = false → res = le 34 0)
      ∧ (s.flag Reg.FLT_STATUS.FIRST_VALID = true → leAt res 0 1 = 1 ∧ leAt res 2 2 = s.get Reg.FLT_FIRST_ID.SEQ % 65536
          ∧ leAt res 18 2 = s.get Reg.FLT_FIRST_INFO.MERGES % 65536 ∧ leAt res 24 2 = min 65535 s.flt.uncleared.length)
      ∧ KeptBut [.now, .pwr, .regs, .rings, .proto, .casc] s t ∧ RegsKeptBut answerFields s t)) ∧
  (∀ (r : Req) (s : State), s.accepts opFaultReadHistory r → s.answers r → leAt r.params 0 1 ≤ 1 → leAt r.params 1 1 = 0 →
    (leAt r.params 2 2 = 0 ∨ leAt r.params 2 2 < (if leAt r.params 0 1 = 0 then s.flt.kiln.length else s.flt.plog.length)) →
    Answers (.faultReadHistory r) s (fun t =>
      let es := if leAt r.params 0 1 = 0 then ((s.flt.kiln.drop (leAt r.params 2 2)).take 16).map KilnEntry.bytes
        else ((s.flt.plog.drop (leAt r.params 2 2)).take 30).map PlogRecord.bytes
      Replied s t opFaultReadHistory r ([byte es.length, byte (leAt r.params 0 1)] ++ es.flatten)
        ∧ KeptBut [.now, .pwr, .regs, .rings, .proto, .casc] s t ∧ RegsKeptBut answerFields s t)) ∧
  (∀ (r : Req) (s : State), s.accepts opFaultClear r → (s.flag Reg.FLT_STATUS.FIRST_VALID = true → leAt r.params 0 2 = s.get Reg.FLT_FIRST_ID.SEQ) →
    leAt r.params 2 1 ≤ 1 → leAt r.params 3 1 = 0 →
    Answers (.faultClear r) s (fun t =>
      t.flt.uncleared = s.flt.uncleared.filter (fun u => Src.standing u.source && s.stands u) ∧ t.get Reg.SAF_STATUS.CNT_SAT = 0
        ∧ (t.flt.uncleared = [] → t.get Reg.FLT_STATUS.FIRST_VALID = 0) ∧ t.flt.kiln = (if leAt r.params 2 1 = 1 then [] else s.flt.kiln)
        ∧ (s.answers r → Replied s t opFaultClear r (le 2 (min 65535 t.flt.uncleared.length)))
        ∧ KeptBut [.now, .pwr, .flt, .regs, .rings, .proto, .casc] s t)) ∧
  (∀ (r : Req) (s : State), s.accepts opFaultClear r → s.flag Reg.FLT_STATUS.FIRST_VALID = true → leAt r.params 0 2 ≠ s.get Reg.FLT_FIRST_ID.SEQ →
    (s.follower = true → r.target ≠ 0x0F) →
    Answers (.faultClear r) s (fun t =>
      (∃ p ∈ t.ring (r.ring + 8), p.bytes = sealed s.tag 0x8602 r.seq 0 s.position (le 2 Status.badState ++ le 2 (s.get Reg.FLT_FIRST_ID.SEQ)))
        ∧ KeptBut [.now, .pwr, .regs, .rings, .proto, .casc] s t ∧ RegsKeptBut answerFields s t)) ∧
  (∀ (r : Req) (s : State), s.accepts opFaultInject r → s.checkerOff (leAt r.params 0 1) = false → s.flag Reg.FLT_INJECT.ARMED = false →
    leAt r.params 0 1 ≤ 0x29 → leAt r.params 1 1 % 16 ≠ 0 → bits (leAt r.params 1 1) 4 3 = 0 → (128 ≤ leAt r.params 1 1 → leAt r.params 0 1 < 32) →
    leAt r.params 2 2 = 0 →
    Answers (.faultInject r) s (fun t =>
      t.get Reg.FLT_INJECT.ARMED = 1 ∧ t.get Reg.FLT_INJECT.CHECKER = leAt r.params 0 1 ∧ t.get Reg.FLT_INJECT.REMAIN = leAt r.params 1 1 % 16
        ∧ t.flt.injectAt = t.now ∧ t.flt.injectUsed = false ∧ (s.answers r → Replied s t opFaultInject r [])
        ∧ KeptBut [.now, .pwr, .flt, .regs, .rings, .proto, .casc] s t)) ∧
  (∀ (r : Req) (s : State), s.accepts opFaultPolicy r → leAt r.params 0 1 ≠ 0 → leAt r.params 0 1 ≤ 3 → leAt r.params 1 1 ≤ 7 →
    leAt r.params 2 1 ≤ 1 → leAt r.params 3 1 = 0 → leAt r.params 4 4 ≤ 511 →
    Answers (.faultPolicy r) s (fun t =>
      t.get Reg.FLT_POLICY.FIRST_MIN = leAt r.params 0 1 ∧ t.get Reg.FLT_POLICY.EVENT_CLASSES = leAt r.params 1 1
        ∧ t.get Reg.FLT_POLICY.HOLD = leAt r.params 2 1 ∧ t.get Reg.FLT_IRQ_EN.EN = leAt r.params 4 4
        ∧ KeptBut [.now, .pwr, .regs, .rings, .proto, .casc] s t
        ∧ RegsKeptBut ([Reg.FLT_POLICY.FIRST_MIN, Reg.FLT_POLICY.EVENT_CLASSES, Reg.FLT_POLICY.HOLD, Reg.FLT_IRQ_EN.EN] ++ answerFields) s t)) ∧
  (∀ (r : Req) (s : State), s.accepts opFaultReadHistory r →
    (s.follower = true → r.target ≠ 0x0F) →
    (1 < leAt r.params 0 1 ∨ leAt r.params 1 1 ≠ 0
      ∨ (leAt r.params 2 2 ≠ 0 ∧ (if leAt r.params 0 1 = 0 then s.flt.kiln.length else s.flt.plog.length) ≤ leAt r.params 2 2)) →
    Answers (.faultReadHistory r) s (fun t =>
      (∃ p ∈ t.ring (r.ring + 8), p.bytes = sealed s.tag 0x8601 r.seq 0 s.position (le 2 Status.badParam))
        ∧ KeptBut [.now, .pwr, .regs, .rings, .proto, .casc] s t ∧ RegsKeptBut answerFields s t)) ∧
  (∀ (r : Req) (s : State), s.accepts opFaultClear r →
    (s.follower = true → r.target ≠ 0x0F) →
    (s.flag Reg.FLT_STATUS.FIRST_VALID = true → leAt r.params 0 2 = s.get Reg.FLT_FIRST_ID.SEQ) →
    (1 < leAt r.params 2 1 ∨ leAt r.params 3 1 ≠ 0) →
    Answers (.faultClear r) s (fun t =>
      (∃ p ∈ t.ring (r.ring + 8), p.bytes = sealed s.tag 0x8602 r.seq 0 s.position (le 2 Status.badParam))
        ∧ KeptBut [.now, .pwr, .regs, .rings, .proto, .casc] s t ∧ RegsKeptBut answerFields s t)) ∧
  (∀ (r : Req) (s : State), s.accepts opFaultInject r →
    (s.follower = true → r.target ≠ 0x0F) →
    s.checkerOff (leAt r.params 0 1) = true →
    Answers (.faultInject r) s (fun t =>
      (∃ p ∈ t.ring (r.ring + 8), p.bytes = sealed s.tag 0x8603 r.seq 0 s.position (le 2 Status.badState))
        ∧ KeptBut [.now, .pwr, .regs, .rings, .proto, .casc] s t ∧ RegsKeptBut answerFields s t)) ∧
  (∀ (r : Req) (s : State), s.accepts opFaultInject r →
    (s.follower = true → r.target ≠ 0x0F) →
    s.checkerOff (leAt r.params 0 1) = false →
    s.flag Reg.FLT_INJECT.ARMED = true →
    Answers (.faultInject r) s (fun t =>
      (∃ p ∈ t.ring (r.ring + 8), p.bytes = sealed s.tag 0x8603 r.seq 0 s.position (le 2 Status.busy))
        ∧ KeptBut [.now, .pwr, .regs, .rings, .proto, .casc] s t ∧ RegsKeptBut answerFields s t)) ∧
  (∀ (r : Req) (s : State), s.accepts opFaultInject r →
    (s.follower = true → r.target ≠ 0x0F) →
    s.checkerOff (leAt r.params 0 1) = false →
    s.flag Reg.FLT_INJECT.ARMED = false →
    (0x29 < leAt r.params 0 1 ∨ leAt r.params 1 1 % 16 = 0 ∨ bits (leAt r.params 1 1) 4 3 ≠ 0 ∨ (128 ≤ leAt r.params 1 1 ∧ 32 ≤ leAt r.params 0 1)
      ∨ leAt r.params 2 2 ≠ 0) →
    Answers (.faultInject r) s (fun t =>
      (∃ p ∈ t.ring (r.ring + 8), p.bytes = sealed s.tag 0x8603 r.seq 0 s.position (le 2 Status.badParam))
        ∧ KeptBut [.now, .pwr, .regs, .rings, .proto, .casc] s t ∧ RegsKeptBut answerFields s t))

/-! ### Power states, wake and time (14) -/

/-- R455, R456, R567: a supply in its warning band sets its bits, the interrupt cause and nothing else until it has been above the band for
1 ms; a supply in its reset band, or RESET_N low for 10 µs, resets the controller: memories, cores and the power limit word go to their reset
state, always-on memory, the NVM and lock-out stay, and the cause is told; RESET_N low for 1 µs or less does nothing. R462, R563, Table 14-8:
a loss of VAUX leaves the non-volatile memories alone. R461: a gap of four RC periods moves the counter to the RC oscillator, 1,024 good
cycles move it back, and either adds 61 µs to the error bound. -/
def Obligations.SuppliesResetsAndClockSourcesActInTheirBands : Prop :=
  (∀ (n : Nat) (s : State), n ≤ 100 → Answers (.resetNLow n) s (fun t => t.now = s.now + n ∧ KeptBut [.now] s t)) ∧
  (∀ (n : Nat) (s : State), s.phase ≠ .dark → 1000 ≤ n →
    Answers (.resetNLow n) s (fun t =>
      t.now = s.now + n ∧ t.phase = .alwaysOn ∧ t.cpUp = false ∧ t.mpUp = false ∧ t.spUp = false ∧ t.sram = [] ∧ t.rings = []
        ∧ t.aon = s.aon ∧ t.flash = s.flash ∧ (s.cal.writing = none → t.nvm = s.nvm) ∧ t.lockedOut = s.lockedOut
        ∧ t.get Reg.SYS_RESET_CAUSE.CAUSE = 1 ∧ t.power = 2 ∧ t.get Reg.STR_POWER_LIMIT.BUDGET = 300 ∧ t.get Reg.STR_POWER_LIMIT.LIMIT = 100
        ∧ t.get Reg.SAF_STATUS.PERMIT = 0 ∧ t.get Reg.SAF_STATUS.CONFIG_OK = 0 ∧ t.scan.sel = s.scan.sel ∧ t.scan.byp = s.scan.byp
        ∧ t.pwr.heldUntil = t.now + ms 1)) ∧
  (∀ (n mv : Nat) (s : State), 1 ≤ n → n ≤ 3 → s.phase ≠ .dark → mv ≤ (warnBand n).1 → bit (s.get Reg.PWR_SUPPLY.WARN_NOW) (n - 1) = false →
    Answers (.supplyWarning n mv) s (fun t =>
      t.now = s.now + us 2 ∧ t.supply n = mv ∧ bit (t.get Reg.PWR_SUPPLY.WARN_NOW) (n - 1) = true
        ∧ bit (t.get Reg.PWR_SUPPLY.WARN_SEEN) (n - 1) = true ∧ bit (t.get Reg.FLT_IRQ_STATUS.CAUSE) 5 = true
        ∧ KeptBut [.now, .pads, .regs, .rings, .proto] s t ∧ RegsKeptBut [Reg.PWR_SUPPLY.WARN_NOW, Reg.PWR_SUPPLY.WARN_SEEN] s t)) ∧
  (∀ (n mv : Nat) (s : State), (warnBand n).2 < mv →
    Answers (.supplyWarning n mv) s (fun t => t.now = s.now + us 2 ∧ KeptBut [.now, .pads] s t)) ∧
  (∀ (n mv : Nat) (s : State), 1 ≤ n → n ≤ 3 → s.phase ≠ .dark → (warnBand n).2 < mv → bit (s.get Reg.PWR_SUPPLY.WARN_NOW) (n - 1) = true →
    Answers (.supplyWarningClear n mv) s (fun t =>
      t.now = s.now + ms 1 ∧ bit (t.get Reg.PWR_SUPPLY.WARN_NOW) (n - 1) = false ∧ t.get Reg.PWR_SUPPLY.WARN_SEEN = s.get Reg.PWR_SUPPLY.WARN_SEEN
        ∧ KeptBut [.now, .pads, .regs, .rings, .proto] s t ∧ RegsKeptBut [Reg.PWR_SUPPLY.WARN_NOW] s t)) ∧
  (∀ (n mv : Nat) (s : State), (n = 1 ∨ n = 2) → s.phase ≠ .dark → mv ≤ (resetBand n).1 →
    Answers (.supplyMonitorReset n mv) s (fun t =>
      t.now = s.now + us 2 ∧ t.phase = .alwaysOn ∧ t.cpUp = false ∧ t.sram = [] ∧ t.aon = s.aon ∧ t.flash = s.flash ∧ t.lockedOut = s.lockedOut
        ∧ t.get Reg.SYS_RESET_CAUSE.CAUSE = n + 1 ∧ t.power = 2 ∧ t.clk = s.clk ∧ t.pwr.heldReset = n)) ∧
  (∀ (mv : Nat) (s : State), s.phase ≠ .dark → mv ≤ 2810 →
    Answers (.supplyMonitorReset 3 mv) s (fun t =>
      t.phase = .dark ∧ t.sram = [] ∧ t.aon = [] ∧ t.flash = s.flash ∧ t.get Reg.SYS_RESET_CAUSE.CAUSE = 4 ∧ t.clk.timeSet = false ∧ t.time = 0
        ∧ (∀ f : Field, f.key ≠ Reg.SYS_RESET_CAUSE.CAUSE.key → t.get f = f.reset))) ∧
  (∀ s : State, s.phase ≠ .dark →
    Answers .vauxLoss s (fun t =>
      t.now = s.now ∧ t.phase = .dark ∧ t.sram = [] ∧ t.aon = [] ∧ t.flash = s.flash ∧ (s.cal.writing = none → t.nvm = s.nvm)
        ∧ t.time = 0 ∧ t.quality = 3 ∧ t.supply 3 = 0 ∧ (∀ f : Field, t.get f = f.reset))) ∧
  (∀ (gap : Nat) (s : State), s.phase ≠ .dark → s.flag Reg.PWR_TIME_STATUS.XTAL = true → 4 ≤ gap →
    Answers (.xtalStop gap) s (fun t =>
      t.get Reg.PWR_TIME_STATUS.XTAL = 0 ∧ t.get Reg.PWR_TIME_STATUS.SRC_CHANGE = 1 ∧ t.timeErr = min 0xFFFFFFFF (s.timeErr + 61) ∧ t.time = s.time
        ∧ (s.get Reg.PWR_XTAL_LOSS_COUNT.COUNT < Reg.PWR_XTAL_LOSS_COUNT.COUNT.max →
            t.get Reg.PWR_XTAL_LOSS_COUNT.COUNT = s.get Reg.PWR_XTAL_LOSS_COUNT.COUNT + 1)
        ∧ KeptBut [.clk, .regs, .rings, .proto] s t)) ∧
  (∀ (gap : Nat) (s : State), gap ≤ 2 → Answers (.xtalStop gap) s (fun t => t = s)) ∧
  (∀ s : State, s.phase ≠ .dark → s.flag Reg.PWR_TIME_STATUS.XTAL = false →
    Answers .xtalReturn s (fun t =>
      t.now = s.now + 3125000 ∧ t.get Reg.PWR_TIME_STATUS.XTAL = 1 ∧ t.get Reg.PWR_TIME_STATUS.SRC_CHANGE = 1
        ∧ KeptBut [.now, .clk, .regs, .rings, .proto] s t ∧ RegsKeptBut [Reg.PWR_TIME_STATUS.XTAL, Reg.PWR_TIME_STATUS.SRC_CHANGE] s t))

/-- R436, R437, R442, R464, R320, R502: POWER_STATE to STANDBY, SLEEP or SHUTDOWN begins entry step 1 with its target; to READY from ACTIVE
the fade alone; to ACTIVE from READY it waits for its boundary; to the state in force it does nothing; the legacy write of SHUTDOWN asks for
SHUTDOWN with the shutdown test. R437 to R442, R449, R450: step 1 ends within 5 ms with the fade committed; step 2 ends 12 ms after the last
conducting string, and the shutdown test or step 3 with PERMIT low follows; step 3 saves the register image; step 4 checks the retained banks and
ends no sooner than 2.5 ms after PERMIT fell; steps 5 and 6 leave the state asked for. -/
def Obligations.PowerRequestsAndEntriesRunTheirSteps : Prop :=
  (∀ (r : Req) (s : State), s.accepts opPowerState r → (s.power = 1 ∨ s.power = 2) → s.pwr.entry = none → s.pwr.wake = none →
    s.get Reg.PWR_STATE.STEP = 0 → s.flag Reg.PWR_STATE.SERVICE = false → s.com.writing = none → s.lib.install = none → s.updateBusy = false →
    s.bst.run = none → 3 ≤ leAt r.params 0 1 → leAt r.params 0 1 ≤ 5 → leAt r.params 1 1 ≤ 1 → (leAt r.params 1 1 = 1 → leAt r.params 0 1 = 5) →
    leAt r.params 2 2 ≤ 10000 →
    Answers (.powerState r) s (fun t =>
      t.pwr.entry = some ⟨leAt r.params 0 1, leAt r.params 1 1 == 1, leAt r.params 2 2, leAt r.params 4 4, s.power, s.now + r.wait, false, 0⟩
        ∧ t.power = 0 ∧ t.get Reg.PWR_STATE.STEP = 1 ∧ t.get Reg.PWR_STATE.TARGET = leAt r.params 0 1
        ∧ (s.answers r → ∃ p ∈ t.ring (r.ring + 8), p.bytes = sealed s.tag 0x8700 r.seq 0 s.position (le 2 Status.pending))
        ∧ (s.cal.run = none → s.get Reg.TMP_STATUS.STATE < 2 → KeptBut [.now, .pwr, .regs, .rings, .proto, .casc] s t
          ∧ RegsKeptBut ([Reg.PWR_STATE.POWER, Reg.SYS_STATE.POWER, Reg.PWR_STATE.STEP, Reg.PWR_STATE.TARGET] ++ answerFields) s t))) ∧
  (∀ (r : Req) (s : State), s.accepts opPowerState r → s.power = 2 → s.pwr.entry = none → s.pwr.wake = none → s.get Reg.PWR_STATE.STEP = 0 →
    s.flag Reg.PWR_STATE.SERVICE = false → s.com.writing = none → s.lib.install = none → s.updateBusy = false → s.bst.run = none →
    leAt r.params 0 1 = 1 → leAt r.params 1 1 = 0 → leAt r.params 2 2 ≤ 10000 → s.upd.cores.any (·.migration) = false →
    Answers (.powerState r) s (fun t =>
      t.pwr.activePending = some (s.now + r.wait) ∧ (s.answers r → Replied s t opPowerState r [])
        ∧ KeptBut [.now, .pwr, .regs, .rings, .proto, .casc] s t ∧ RegsKeptBut answerFields s t)) ∧
  (∀ (r : Req) (s : State), s.accepts opPowerState r → s.power = 1 → s.pwr.entry = none → s.pwr.wake = none → s.get Reg.PWR_STATE.STEP = 0 →
    s.flag Reg.PWR_STATE.SERVICE = false → s.com.writing = none → s.lib.install = none → s.updateBusy = false → s.bst.run = none →
    leAt r.params 0 1 = 2 → leAt r.params 1 1 = 0 → leAt r.params 2 2 ≤ 10000 →
    Answers (.powerState r) s (fun t =>
      t.pwr.entry = some ⟨2, false, leAt r.params 2 2, 0, 1, s.now + r.wait, false, 0⟩ ∧ t.get Reg.PWR_STATE.STEP = 2
        ∧ t.get Reg.PWR_STATE.TARGET = 2 ∧ t.power = 1 ∧ t.beam.work.dimmer.target = 0 ∧ t.beam.waiting.isSome = true)) ∧
  (∀ (r : Req) (s : State), s.accepts opPowerState r → (s.power = 1 ∨ s.power = 2) → s.pwr.entry = none → s.pwr.wake = none →
    s.get Reg.PWR_STATE.STEP = 0 → s.com.writing = none → s.lib.install = none → s.updateBusy = false → leAt r.params 0 1 = s.power →
    leAt r.params 1 1 = 0 → leAt r.params 2 2 ≤ 10000 → (s.power = 1 → s.upd.cores.any (·.migration) = false) →
    Answers (.powerState r) s (fun t =>
      (s.answers r → Replied s t opPowerState r []) ∧ KeptBut [.now, .pwr, .regs, .rings, .proto, .casc] s t
        ∧ t.pwr.entry = none ∧ t.pwr.wake = none ∧ RegsKeptBut answerFields s t)) ∧
  (∀ s : State, s.legacyOn = true → s.ringRoom 5 = true → (s.power = 1 ∨ s.power = 2) → s.pwr.entry = none → s.pwr.wake = none →
    s.get Reg.PWR_STATE.STEP = 0 → s.flag Reg.PWR_STATE.SERVICE = false → s.com.writing = none → s.lib.install = none → s.updateBusy = false →
    s.bst.run = none → (s.cpUp = true → s.mpUp = true → s.ring 5 = []) →
    Answers (.legacyWriteReg 4 0xA5A5) s (fun t =>
      t.pwr.entry = some ⟨5, true, 0, 0, s.power, s.now, false, 0⟩ ∧ t.get Reg.PWR_STATE.STEP = 1 ∧ t.power = 0
        ∧ t.bus.legacyResult = legacyResult 0 [] ∧ t.bus.spiOut = s.bus.legacyResult)) ∧
  (∀ (e : Entry) (s : State), s.pwr.entry = some e → s.get Reg.PWR_STATE.STEP = 1 →
    Answers .entryQuiesceDone s (fun t =>
      s.now ≤ t.now ∧ t.now ≤ max s.now (e.stepAt + ms 5) ∧ t.get Reg.PWR_STATE.STEP = 2 ∧ t.pwr.entry = some { e with stepAt := t.now }
        ∧ t.beam.work.dimmer.target = 0 ∧ t.beam.work.dimmer.len = ms e.fadeMs ∧ t.beam.waiting = some (t.beam.work, t.now)
        ∧ KeptBut [.now, .draws, .beam, .pwr, .regs, .rings, .proto] s t)) ∧
  (∀ (e : Entry) (s : State), s.pwr.entry = some e → s.get Reg.PWR_STATE.STEP = 2 → e.target ≠ 2 → e.testing = false → s.dimmed = true →
    s.conducts = false →
    Answers .entryFadeDone s (fun t =>
      t.now = (match s.ks.lastConduct with | some a => max s.now (a + ms 12) | none => s.now)
        ∧ (e.shutdownTest = true → t.bst.run = some ⟨0, 2, [0, 1, 2, 3, 4, 5, 6], false, t.now, [], false, false⟩
          ∧ t.pwr.entry = some { e with testing := true } ∧ t.get Reg.PWR_STATE.STEP = 2)
        ∧ (e.shutdownTest = false → t.get Reg.PWR_STATE.STEP = 3 ∧ t.get Reg.SAF_STATUS.PERMIT = 0
          ∧ t.pwr.entry = some { e with stepAt := t.now, testing := false, permitFell := t.now }))) ∧
  (∀ (e : Entry) (s : State), s.pwr.entry = some e → e.testing = true → s.bst.run = none → s.bst.held.isSome = true →
    Answers .shutdownTestDone s (fun t =>
      t.now = s.now ∧ t.get Reg.PWR_STATE.STEP = 3 ∧ t.get Reg.SAF_STATUS.PERMIT = 0
        ∧ t.pwr.entry = some { e with stepAt := s.now, testing := false, permitFell := s.now } ∧ t.bst = s.bst)) ∧
  (∀ (e : Entry) (s : State), s.pwr.entry = some e → s.get Reg.PWR_STATE.STEP = 3 →
    Answers .entrySaveDone s (fun t =>
      s.now ≤ t.now ∧ t.now ≤ max s.now (e.stepAt + ms 200) ∧ t.get Reg.PWR_STATE.STEP = 4
        ∧ t.get Reg.PWR_RET_COUNT.COUNT = retentionWords.length
        ∧ (∀ i < retentionWords.length, leAt (Memory.readN 0 t.aon (0x10000000 + 8 * i) 8) 0 4 = nth 0 retentionWords i
            ∧ leAt (Memory.readN 0 t.aon (0x10000000 + 8 * i) 8) 4 4 = t.regWord (nth 0 retentionWords i) % 2 ^ 32)
        ∧ (s.lockedOut = true → t.locks = ⟨some s.lockRecord, some s.lockRecord, some s.lockRecord⟩) ∧ (s.lockedOut = false → t.locks = s.locks)
        ∧ t.bst.held = none ∧ (∀ x, s.bst.held = some x → t.bst.shut = some x ∧ t.bst.consumed = false))) ∧
  (∀ (e : Entry) (s : State), s.pwr.entry = some e → s.get Reg.PWR_STATE.STEP = 4 → s.commitsWait = false →
    Answers .entryCheckDone s (fun t =>
      max s.now (e.permitFell + us 2500) ≤ t.now ∧ t.now ≤ max (s.now + us 2200) (e.permitFell + us 2500) ∧ t.get Reg.PWR_STATE.STEP = 5
        ∧ (s.cal.writing = none →
          (e.target = 3 → e.origin ≤ 2 → ∀ n < 32, bit e.retain n = true →
            leAt (Memory.readN 0 t.aon (0x10004020 + 4 * n) 4) 0 4 = crc32cFold n (s.sramRun (n * 2 ^ 20) (2 ^ 20)) % 2 ^ 32)
          ∧ KeptBut [.now, .draws, .aon, .pwr, .regs, .rings, .proto] s t))) ∧
  (∀ (e : Entry) (s : State), s.pwr.entry = some e → s.get Reg.PWR_STATE.STEP = 5 → s.pwr.wakeAfter = none →
    Answers .entrySwitch s (fun t =>
      t.now ≤ max s.now (e.stepAt + ms 10) + us 700 ∧ t.power = (if e.target = 3 then 3 else 4) ∧ t.get Reg.PWR_STATE.STEP = 0
        ∧ t.get Reg.PWR_STATE.SHUTDOWN = b2n (e.target == 5) ∧ t.pwr.entry = none ∧ t.cpUp = false ∧ t.mpUp = false ∧ t.spUp = false
        ∧ t.scan.running = false
        ∧ (e.target = 3 → e.origin ≤ 2 → t.get Reg.PWR_RET_MASK.MASK = e.retain % 2 ^ 32 ∧ ∀ n < 32, t.get (bankField n) = b2n (bit e.retain n))
        ∧ (e.target ≠ 3 → t.sram = [] ∧ t.get Reg.PWR_DOMAIN.ON = 0x1001 ∧ ∀ n < 32, t.get (bankField n) = 0)))

/-- R440, R443, R444, R316, R326: an enabled wake source begins a wake to its target from STANDBY or SLEEP, abandons an entry at steps 1 to 4,
and otherwise does nothing; the alarm fires at the first tick at or past ALARM and is cleared. R445, R446, R449 to R451: the retention check
shows the invalid banks and lets the cores resume, a rebuild ends within its bound, SERVICE and READY are reached with WAKE_DONE, SERVICE ends
after SERVICE_IDLE. R453, R457, R465 to R467: domains switch off and come back within their bounds, a conversion ends within 20 µs, TIME_GET,
TIME_SET and WAKE_CONFIG do as their tables say. -/
def Obligations.WakesTimeAndOnDemandDomains : Prop :=
  (∀ (first : Nat) (s : State), bits first 1 7 ≠ s.get Reg.PWR_WAKE_CFG.WAKE_ADDR → Answers (.spiWakeMatch first) s (fun t => t = s)) ∧
  (∀ (first : Nat) (s : State), s.phase ≠ .dark → bits first 1 7 = s.get Reg.PWR_WAKE_CFG.WAKE_ADDR → bit (s.get Reg.PWR_WAKE_CFG.SOURCES) 0 = true →
    (s.power = 3 ∨ s.power = 4) → s.pwr.entry = none → s.pwr.wake = none → s.flag Reg.PWR_STATE.SERVICE = false →
    Answers (.spiWakeMatch first) s (fun t =>
      t.pwr.wake = some ⟨1, s.get Reg.PWR_WAKE_TARGET.SPI, s.power, s.now, false⟩ ∧ t.get Reg.PWR_STATE.WAKE = 1
        ∧ t.get Reg.PWR_WAKE_CAUSE.CAUSE = 1 ∧ t.get Reg.PWR_DOMAIN.ON = (if s.get Reg.PWR_WAKE_TARGET.SPI = 0 then 0x1007 else 0x1FFF)
        ∧ (s.get Reg.PWR_WAKE_COUNT.COUNT < Reg.PWR_WAKE_COUNT.COUNT.max → t.get Reg.PWR_WAKE_COUNT.COUNT = s.get Reg.PWR_WAKE_COUNT.COUNT + 1)
        ∧ KeptBut [.phase, .mpUp, .regs, .rings, .proto, .pwr, .tmp, .upd, .cal] s t)) ∧
  (∀ (first : Nat) (e : Entry) (s : State), s.phase ≠ .dark → bits first 1 7 = s.get Reg.PWR_WAKE_CFG.WAKE_ADDR →
    bit (s.get Reg.PWR_WAKE_CFG.SOURCES) 0 = true → s.pwr.entry = some e → e.target ≠ 2 → e.origin ≤ 2 → s.get Reg.PWR_STATE.STEP < 5 →
    Answers (.spiWakeMatch first) s (fun t =>
      s.now ≤ t.now ∧ t.now ≤ s.now + ms 1 ∧ t.pwr.entry = none ∧ t.power = e.origin ∧ t.get Reg.PWR_STATE.STEP = 0
        ∧ t.get Reg.PWR_STATE.TARGET = 0
        ∧ (s.get Reg.PWR_ABANDON_COUNT.COUNT < Reg.PWR_ABANDON_COUNT.COUNT.max →
            t.get Reg.PWR_ABANDON_COUNT.COUNT = s.get Reg.PWR_ABANDON_COUNT.COUNT + 1))) ∧
  (∀ s : State, s.phase ≠ .dark → s.clk.alarm ≠ 0 → s.pwr.entry = none → s.pwr.wake = none → s.power ≠ 3 → s.power ≠ 4 →
    Answers .alarmFire s (fun t =>
      t.now = max s.now (s.clk.start + (max (s.ticks + 1) (s.tickFor s.clk.alarm) * 390625 + 127) / 128) ∧ t.clk.alarm = 0
        ∧ t.get Reg.PWR_ALARM_LO.ALARM = 0 ∧ t.get Reg.PWR_ALARM_HI.ALARM = 0 ∧ KeptBut [.now, .clk, .regs, .rings, .proto] s t
        ∧ RegsKeptBut [Reg.PWR_ALARM_LO.ALARM, Reg.PWR_ALARM_HI.ALARM] s t)) ∧
  (∀ s : State, s.phase ≠ .dark → s.clk.alarm ≠ 0 → bit (s.get Reg.PWR_WAKE_CFG.SOURCES) 1 = true → (s.power = 3 ∨ s.power = 4) →
    s.pwr.entry = none → s.pwr.wake = none → s.flag Reg.PWR_STATE.SERVICE = false →
    Answers .alarmFire s (fun t =>
      t.pwr.wake = some ⟨2, s.get Reg.PWR_WAKE_TARGET.ALARM, s.power, t.now, false⟩ ∧ t.clk.alarm = 0 ∧ t.get Reg.PWR_WAKE_CAUSE.CAUSE = 2)) ∧
  (∀ (addr data : Nat) (s : State), s.id.variant = .iw → (s.power = 3 ∨ s.power = 4) → s.pwr.wake = none → s.pwr.entry = none →
    s.flag Reg.PWR_STATE.SERVICE = false → bit (s.get Reg.PWR_WAKE_CFG.SOURCES) 3 = true →
    Answers (.daliWake addr data) s (fun t =>
      t.pwr.wake = some ⟨4, s.get Reg.PWR_WAKE_TARGET.DALI, s.power, s.now, false⟩ ∧ t.pwr.daliFrame = some (addr, data)
        ∧ t.get Reg.PWR_WAKE_CAUSE.CAUSE = 4 ∧ KeptBut [.phase, .mpUp, .regs, .rings, .proto, .pwr, .tmp, .upd, .cal] s t)) ∧
  (∀ s : State, s.follower = true → s.phase ≠ .dark → (s.power = 3 ∨ s.power = 4) → s.pwr.wake = none → s.pwr.entry = none →
    s.flag Reg.PWR_STATE.SERVICE = false → bit (s.get Reg.PWR_WAKE_CFG.SOURCES) 4 = true →
    Answers .cascadeClockWake s (fun t =>
      t.pwr.wake = some ⟨5, 1, s.power, s.now, false⟩ ∧ t.get Reg.PWR_WAKE_CAUSE.CAUSE = 5
        ∧ KeptBut [.phase, .mpUp, .regs, .rings, .proto, .pwr, .tmp, .upd, .cal] s t)) ∧
  (∀ (crc vflag : Nat) (readable : Bool) (w : Wake) (s : State), s.pwr.wake = some w → w.origin = 3 → w.checked = false → w.target ≠ 0 →
    s.mpUp = false →
    Answers (.retentionCheck crc vflag false 0 readable) s (fun t =>
      t.now = max s.now (w.startAt + us 2900) ∧ t.pwr.wake = some { w with checked := true } ∧ t.cpUp = true ∧ t.mpUp = true ∧ t.spUp = true
        ∧ t.get Reg.PWR_RET_INFO.VFLAG = vflag % 256 ∧ t.get Reg.PWR_RET_INFO.IMAGE_BAD = 0 ∧ t.get Reg.PWR_RET_INFO.CORE_BAD = 0
        ∧ t.get Reg.PWR_RET_RESULT.INVALID
            = maskOf ((List.range 32).filter (fun n => bit (s.get Reg.PWR_RET_MASK.MASK) n && (bit crc n || bit vflag (n / 4)))))) ∧
  (∀ (bank : Nat) (readable : Bool) (s : State), bank < 32 → bank ∈ s.pwr.rebuilding →
    Answers (.bankRebuildDone bank readable) s (fun t =>
      s.now ≤ t.now ∧ t.now ≤ s.now + s.rebuildBound bank ∧ t.pwr.rebuilding = s.pwr.rebuilding.filter (fun b => b != bank)
        ∧ ∀ w ∈ t.flt.windows, ¬ (w.reaction = 4 ∧ w.item = bank))) ∧
  (∀ (w : Wake) (lost : List Nat) (readable : Bool) (s : State), s.pwr.wake = some w → w.target = 0 → w.origin = 3 → s.mpUp = true → s.cpUp = true →
    Answers (.wakeTargetReached lost readable) s (fun t =>
      s.now ≤ t.now ∧ t.now ≤ max s.now (w.startAt + ms 3) ∧ t.get Reg.PWR_STATE.SERVICE = 1 ∧ t.get Reg.PWR_STATE.WAKE = 0 ∧ t.power = s.power
        ∧ t.pwr.wake = none ∧ t.pwr.serviceFrom = 3 ∧ bit (t.get Reg.FLT_IRQ_STATUS.CAUSE) 8 = true)) ∧
  (∀ (w : Wake) (lost : List Nat) (readable : Bool) (s : State), s.pwr.wake = some w → w.target = 1 → s.power ≠ 1 → s.power ≠ 2 →
    s.wakeRuns w = true → s.pads.refclk = true → s.pwr.daliFrame = none →
    Answers (.wakeTargetReached lost readable) s (fun t =>
      t.power = 2 ∧ t.get Reg.PWR_STATE.WAKE = 0 ∧ t.get Reg.PWR_STATE.SERVICE = 0 ∧ t.pwr.wake = none
        ∧ bit (t.get Reg.FLT_IRQ_STATUS.CAUSE) 8 = true)) ∧
  (∀ s : State, s.flag Reg.PWR_STATE.SERVICE = true → s.pwr.entry = none →
    Answers .serviceIdleExpiry s (fun t =>
      t.now = max s.now (s.pwr.servicePacket + ms (s.get Reg.PWR_WAKE_CFG.SERVICE_IDLE)) ∧ t.get Reg.PWR_STATE.STEP = 3 ∧ t.power = 0
        ∧ t.pwr.entry = some ⟨s.pwr.serviceFrom, false, 0, 0, s.pwr.serviceFrom, t.now, false, 0⟩ ∧ KeptBut [.now, .pwr, .regs] s t
        ∧ RegsKeptBut [Reg.PWR_STATE.POWER, Reg.SYS_STATE.POWER, Reg.PWR_STATE.STEP, Reg.PWR_STATE.TARGET] s t)) ∧
  (∀ (code : Nat) (s : State), code < 32 → s.mpUp = true → (s.power = 1 ∨ s.power = 2) → s.bankIdle code = true → s.get (bankField code) = 2 →
    Answers (.domainSwitchOff code) s (fun t =>
      t.get (bankField code) = 0 ∧ (∀ a, (a < code * 2 ^ 20 ∨ (code + 1) * 2 ^ 20 ≤ a) → Memory.read 0 t.sram a = Memory.read 0 s.sram a)
        ∧ KeptBut [.sram, .regs] s t ∧ RegsKeptBut [bankField code] s t)) ∧
  (∀ s : State, s.mpUp = true → (s.power = 1 ∨ s.power = 2) → s.get Reg.LNK_STATUS.STATE = 0 → s.flag Reg.SCN_CTRL.CASC_TX_EN = false →
    bit (s.get Reg.PWR_DOMAIN.ON) 4 = true →
    Answers (.domainSwitchOff 36) s (fun t =>
      bit (t.get Reg.PWR_DOMAIN.ON) 4 = false ∧ KeptBut [.regs, .chk] s t ∧ RegsKeptBut [Reg.PWR_DOMAIN.ON] s t)) ∧
  (∀ (code : Nat) (s : State), (s.power = 1 ∨ s.power = 2) → s.isOff code = true →
    Answers (.ondemandWakeDone code) s (fun t =>
      t.isOff code = false ∧ s.now ≤ t.now ∧ t.now ≤ s.now + us (if code < 32 then 120 else 40)
        ∧ (s.get Reg.PWR_ONDEMAND_COUNT.COUNT < Reg.PWR_ONDEMAND_COUNT.COUNT.max →
            t.get Reg.PWR_ONDEMAND_COUNT.COUNT = s.get Reg.PWR_ONDEMAND_COUNT.COUNT + 1)
        ∧ KeptBut [.now, .draws, .regs, .rings, .proto] s t)) ∧
  (∀ (code addr master access n : Nat) (s : State), (s.power = 1 ∨ s.power = 2) → s.isOff code = true → us 510 ≤ n → master ≠ 1 →
    s.flt.windows = [] →
    Answers (.ondemandWakeTimeout code addr master access n) s (fun t =>
      t.now = s.now + n ∧ t.flt.uncleared = s.flt.uncleared ++ [⟨s.flt.nextSeq, Src.wakeTimeout, 2, addr⟩]
        ∧ KeptBut [.now, .flt, .regs, .rings, .proto] s t)) ∧
  (∀ (code addr access n : Nat) (s : State), (s.power = 1 ∨ s.power = 2) → s.isOff code = true → s.flt.windows = [] →
    Answers (.ondemandWakeTimeout code addr 1 access n) s (fun t =>
      t.now = s.now ∧ t.flt.uncleared = s.flt.uncleared ++ [⟨s.flt.nextSeq, Src.busError, 2, addr⟩] ∧ KeptBut [.flt, .regs, .rings, .proto] s t)) ∧
  (∀ (mv : Nat) (s : State), s.flag Reg.PWR_MEAS_CTRL.BUSY = true →
    Answers (.measDone mv) s (fun t =>
      s.now ≤ t.now ∧ t.now ≤ max s.now (s.pwr.measAt + us 20) ∧ t.get Reg.PWR_MEAS_CTRL.BUSY = 0 ∧ t.get Reg.PWR_MEAS_RESULT.MV = min 65535 mv
        ∧ t.get Reg.PWR_MEAS_RESULT.SUPPLY = s.get Reg.PWR_MEAS_CTRL.SUPPLY % 4
        ∧ (s.get Reg.PWR_MEAS_CTRL.SUPPLY ≠ 0 → t.get Reg.PWR_MEAS_RESULT.VALID = 1)
        ∧ (s.get Reg.PWR_MEAS_CTRL.SUPPLY = 0 → t.get Reg.PWR_MEAS_RESULT.VALID = b2n (bit (s.get Reg.PWR_DOMAIN.ON) 11))
        ∧ KeptBut [.now, .draws, .regs] s t)) ∧
  (∀ (n mv : Nat) (s : State), 1 ≤ n → n ≤ 3 → s.phase ≠ .dark → mv ≤ (warnBand n).1 → s.get Reg.PWR_SUPPLY.WARN_NOW = 0 →
    Answers (.supplyWarning n mv) s (fun t => t.get Reg.PWR_SUPPLY.WARN_NOW = 2 ^ (n - 1) ∧ t.now = s.now + us 2)) ∧
  (∀ (n mv : Nat) (s : State), 1 ≤ n → n ≤ 3 → s.phase ≠ .dark → (warnBand n).2 < mv → s.get Reg.PWR_SUPPLY.WARN_NOW = 2 ^ (n - 1) →
    Answers (.supplyWarningClear n mv) s (fun t => t.get Reg.PWR_SUPPLY.WARN_NOW = 0 ∧ t.now = s.now + ms 1)) ∧
  (∀ (r : Req) (s : State), s.accepts opTimeGet r → s.answers r →
    Answers (.timeGet r) s (fun t =>
      let h := s.atHandler opTimeGet r
      Replied s t opTimeGet r ([byte h.quality, byte (h.get Reg.PWR_TIME_STATUS.XTAL + 2 * h.get Reg.PWR_TIME_STATUS.SRC_CHANGE
          + 4 * b2n (s.power == 3 || s.power == 4))] ++ le 2 h.epoch ++ le 2 0 ++ le 8 h.time ++ le 4 h.timeErr)
        ∧ KeptBut [.now, .pwr, .regs, .rings, .proto, .casc] s t ∧ RegsKeptBut answerFields s t)) ∧
  (∀ (r : Req) (s : State), s.accepts opTimeSet r →
    ((s.atHandler opTimeSet r).quality = 3 ∨ ((s.atHandler opTimeSet r).time ≤ leAt r.params 0 8 ∧ leAt r.params 10 2 = 0)) →
    Answers (.timeSet r) s (fun t =>
      t.clk.timeSet = true ∧ (t.clk.offset + (t.ticks + 1) * 15625 / 512) % 2 ^ 64 = leAt r.params 0 8 ∧ t.timeErr = leAt r.params 12 4
        ∧ ((s.atHandler opTimeSet r).quality = 3 → bit (leAt r.params 10 1) 0 = true → t.epoch = leAt r.params 8 2)
        ∧ (s.answers r → Replied s t opTimeSet r []) ∧ KeptBut [.now, .clk, .pwr, .regs, .rings, .proto, .casc] s t
        ∧ RegsKeptBut (Reg.PWR_TIME_STATUS.EPOCH :: answerFields) s t)) ∧
  (∀ (r : Req) (s : State), s.accepts opWakeConfig r → leAt r.params 0 1 ≤ 31 → (bit (leAt r.params 0 1) 3 = true → s.id.variant = .iw) →
    (bit (leAt r.params 0 1) 4 = true → s.follower = true) → leAt r.params 1 1 ≤ 127 → (∀ k < 4, leAt r.params (2 + k) 1 ≤ 2) →
    100 ≤ leAt r.params 6 2 → leAt r.params 6 2 ≤ 60000 →
    Answers (.wakeConfig r) s (fun t =>
      t.get Reg.PWR_WAKE_CFG.SOURCES = leAt r.params 0 1 ∧ t.get Reg.PWR_WAKE_CFG.WAKE_ADDR = leAt r.params 1 1
        ∧ t.get Reg.PWR_WAKE_CFG.SERVICE_IDLE = leAt r.params 6 2 ∧ t.get Reg.PWR_WAKE_TARGET.SPI = leAt r.params 2 1
        ∧ t.get Reg.PWR_WAKE_TARGET.ALARM = leAt r.params 3 1 ∧ t.get Reg.PWR_WAKE_TARGET.INPUTS = leAt r.params 4 1
        ∧ t.get Reg.PWR_WAKE_TARGET.DALI = leAt r.params 5 1 ∧ t.clk.alarm = leAt r.params 8 8
        ∧ t.get Reg.PWR_ALARM_LO.ALARM = leAt r.params 8 4 ∧ t.get Reg.PWR_ALARM_HI.ALARM = leAt r.params 12 4
        ∧ (s.answers r → Replied s t opWakeConfig r []) ∧ KeptBut [.now, .clk, .pwr, .regs, .rings, .proto, .casc] s t))

/-! ### Temperature (15) -/

/-- R470 to R473: a sweep converts the 20 sensors; between 160 µs and 1 ms after its start the codes stand in the sensor registers and every
tile's estimate is that of R473 from the readings of its row and its mean power. R476, R477: every 200 ms LIMIT falls by 5 above STEP_HI,
rises by 5 below STEP_LO, and otherwise stays. R481: a stop ends at an evaluation below STEP_LO; R21: a CP that is away finds what the MP asked of it. -/
def Obligations.EstimatesFollowSweepsAndLimitFollowsEstimates : Prop :=
  (∀ (codes : List Nat) (s : State), s.sweeps = true → s.tmp.codes = none →
    Answers (.tempSweep codes) s (fun t =>
      t.now = max s.now s.sweepDue ∧ t.tmp.codes = some ((List.range 20).map (fun n => nth 0 codes n % 4096)) ∧ t.tmp.sweepAt = some t.now
        ∧ (s.get Reg.TMP_SWEEP_COUNT.COUNT < Reg.TMP_SWEEP_COUNT.COUNT.max → t.get Reg.TMP_SWEEP_COUNT.COUNT = s.get Reg.TMP_SWEEP_COUNT.COUNT + 1)
        ∧ KeptBut [.now, .tmp, .regs, .rings, .proto] s t)) ∧
  (∀ (cs : List Nat) (at_ : Nat) (s : State), s.tmp.codes = some cs → s.tmp.sweepAt = some at_ →
    Answers .tileEstimate s (fun t =>
      at_ + us 160 ≤ t.now ∧ t.now ≤ max s.now (at_ + ms 1) ∧ t.tmp.codes = none ∧ t.tmp.published = some at_
        ∧ (∀ n < 20, n < cs.length → t.get (Reg.TMP_SENSOR.CODE n) = nth 0 cs n % 4096)
        ∧ (∀ n < 256, t.get (Reg.TMP_TILE.THETA n) =
            ofSigned 16 (roundRat (tileTenths (t.rowCodes (n / 32)) (n % 32) (s.get Reg.TMP_MODEL.K) (s.tilePower n))))
        ∧ KeptBut [.now, .draws, .tmp, .regs, .rings, .proto, .scan, .beam, .flt, .sram, .cal, .clk] s t)) ∧
  (∀ s : State, s.mpUp = true → (s.power = 1 ∨ s.power = 2) → s.tmp.published.isSome = true → s.get Reg.TMP_STATUS.STATE < 2 →
    Answers .throttleEvaluation s (fun t =>
      let limit := bits s.wordNewest 9 7
      let top := toSigned 16 (s.get Reg.TMP_HOT.THETA)
      t.now = max s.now (s.tmp.evalAt + ms 200) ∧ t.tmp.evalAt = t.now
        ∧ bits t.wordNewest 9 7 = (if (s.get Reg.TMP_POLICY_T.STEP_HI : Int) < top ∧ s.get Reg.TMP_POLICY_B.FLOOR < limit then max 25 (limit - 5)
            else if top < (s.get Reg.TMP_POLICY_T.STEP_LO : Int) ∧ limit < 100 then min 100 (limit + 5) else limit)
        ∧ (bits t.wordNewest 9 7 ≠ limit → bit (t.get Reg.FLT_IRQ_STATUS.CAUSE) 6 = true ∧
            (s.get Reg.TMP_STEP_COUNT.COUNT < Reg.TMP_STEP_COUNT.COUNT.max → t.get Reg.TMP_STEP_COUNT.COUNT = s.get Reg.TMP_STEP_COUNT.COUNT + 1))
        ∧ KeptBut [.now, .tmp, .scan, .regs, .rings, .proto] s t)) ∧
  (∀ s : State, s.mpUp = true → (s.power = 1 ∨ s.power = 2) → s.tmp.published.isSome = true → 2 ≤ s.get Reg.TMP_STATUS.STATE →
    s.cpUp = true → toSigned 16 (s.get Reg.TMP_HOT.THETA) < (s.get Reg.TMP_POLICY_T.STEP_LO : Int) →
    Answers .throttleEvaluation s (fun t =>
      t.get Reg.TMP_STATUS.STATE < 2 ∧ t.beam.work.stop.target = 0 ∧ t.beam.work.stop.len = ms 300
        ∧ KeptBut [.now, .tmp, .scan, .beam, .regs, .rings, .proto] s t)) ∧
  (∀ s : State, s.mpUp = true → (s.power = 1 ∨ s.power = 2) → s.tmp.published.isSome = true → 2 ≤ s.get Reg.TMP_STATUS.STATE →
    s.cpUp = false → toSigned 16 (s.get Reg.TMP_HOT.THETA) < (s.get Reg.TMP_POLICY_T.STEP_LO : Int) →
    Answers .throttleEvaluation s (fun t =>
      t.get Reg.TMP_STATUS.STATE < 2 ∧ t.tmp.asked = some (0, 300) ∧ KeptBut [.now, .tmp, .scan, .regs, .rings, .proto] s t))

/-- R478: a boost ends BOOST_MS after it landed, BUDGET back at 300. R479: a stop whose image is shown in full is STOPPED. R484, R485:
THERMAL_STATUS answers the last sweep; THERMAL_POLICY sets the policy registers, and with BOOST_NOW, where R478 grants it, the boost word. -/
def Obligations.BoostsStopsAndThermalCommands : Prop :=
  (∀ (landed : Nat) (s : State), s.tmp.boostAt = some landed → s.mpUp = true → s.flag Reg.TMP_STATUS.BOOST = true →
    Answers .boostEnd s (fun t =>
      t.now = max s.now (landed + ms (s.get Reg.TMP_BOOST.BOOST_MS)) ∧ t.get Reg.TMP_STATUS.BOOST = 0 ∧ bits t.wordNewest 0 9 = 300
        ∧ bits t.wordNewest 9 7 = bits s.wordNewest 9 7 ∧ t.tmp.boostEnd = some t.now ∧ KeptBut [.now, .tmp, .scan, .regs, .rings, .proto] s t)) ∧
  (∀ s : State, s.get Reg.TMP_STATUS.STATE = 2 → s.beam.front.stop.target = 4096 → s.beam.stopFade.level s.scan.frameStart s.period = 4096 →
    Answers .stopFadeComplete s (fun t =>
      t.get Reg.TMP_STATUS.STATE = 3 ∧ KeptBut [.regs] s t ∧ RegsKeptBut [Reg.TMP_STATUS.STATE] s t)) ∧
  (∀ (r : Req) (s : State), s.accepts opThermalStatus r → s.answers r →
    Answers (.thermalStatus r) s (fun t => ∃ res, Replied s t opThermalStatus r res ∧ res.length = 62
      ∧ leAt res 0 1 = s.get Reg.TMP_STATUS.STATE % 256 ∧ leAt res 1 1 = s.get Reg.TMP_STATUS.LIMIT % 256
      ∧ leAt res 4 2 = s.get Reg.TMP_HOT.THETA % 65536 ∧ (∀ n < 20, leAt res (14 + 2 * n) 2 = s.get (Reg.TMP_SENSOR.CODE n) % 65536)
      ∧ KeptBut [.now, .pwr, .regs, .rings, .proto, .casc] s t ∧ RegsKeptBut answerFields s t)) ∧
  (∀ (r : Req) (s : State), s.accepts opThermalPolicy r → thermalBad r.params = false → bit (leAt r.params 9 1) 1 = false →
    Answers (.thermalPolicy r) s (fun t =>
      t.get Reg.TMP_POLICY_T.STEP_HI = leAt r.params 0 2 ∧ t.get Reg.TMP_POLICY_T.STEP_LO = leAt r.params 2 2
        ∧ t.get Reg.TMP_POLICY_S.STOP_T = leAt r.params 4 2 ∧ t.get Reg.TMP_POLICY_S.STOP_LEVEL = leAt r.params 6 2
        ∧ t.get Reg.TMP_POLICY_B.FLOOR = leAt r.params 8 1 ∧ t.get Reg.TMP_POLICY_B.STOP_EN = b2n (bit (leAt r.params 9 1) 0)
        ∧ t.get Reg.TMP_POLICY_B.BOOST_BUDGET = leAt r.params 10 2 ∧ t.get Reg.TMP_BOOST.BOOST_MS = leAt r.params 12 2
        ∧ t.get Reg.TMP_BOOST.BOOST_COOL = leAt r.params 14 2 ∧ t.get Reg.TMP_MODEL.K = leAt r.params 16 2
        ∧ KeptBut [.now, .pwr, .regs, .rings, .proto, .casc] s t
        ∧ RegsKeptBut ([Reg.TMP_POLICY_T.STEP_HI, Reg.TMP_POLICY_T.STEP_LO, Reg.TMP_POLICY_S.STOP_T, Reg.TMP_POLICY_S.STOP_LEVEL,
            Reg.TMP_POLICY_B.FLOOR, Reg.TMP_POLICY_B.STOP_EN, Reg.TMP_POLICY_B.BOOST_BUDGET, Reg.TMP_BOOST.BOOST_MS,
            Reg.TMP_BOOST.BOOST_COOL, Reg.TMP_MODEL.K] ++ answerFields) s t)) ∧
  (∀ (r : Req) (s : State), s.accepts opThermalPolicy r → thermalBad r.params = false → bit (leAt r.params 9 1) 1 = true →
    s.flag Reg.TMP_STATUS.BOOST = false → (s.atHandler opThermalPolicy r).boostGrants = true →
    Answers (.thermalPolicy r) s (fun t =>
      t.get Reg.TMP_STATUS.BOOST = 1 ∧ bits t.wordNewest 0 9 = leAt r.params 10 2 ∧ bits t.wordNewest 9 7 = 100 ∧ t.tmp.boostAt = none
        ∧ KeptBut [.now, .pwr, .tmp, .scan, .regs, .rings, .proto, .casc] s t))

/-! ### Self-test (16) -/

/-- R495 to R497, R501: start-up LBIST runs the five units from 0.5 ms on where Table 16-6 allows it; a unit that runs its patterns to the
reference signature passes, at its duration, and the next follows; a wrong signature or state gives lock-out with cause 0x16. R488 to R493,
R501, R503: start-up ABIST runs the seven items, or is spared once by a good stored shutdown result; an item whose elements read good passes
within its bound, the SENSE item is INCOMPLETE below 20 V, an element that fails is mapped out, and an item still running at twice its bound is
INCOMPLETE. R504 to R506: BIST_RUN runs the items it names in code order, in pulse mode, an LBIST with PERMIT low for 2 ms before; BIST_RESULT
answers the result. -/
def Obligations.SelfTestsRunJudgeAndReport : Prop :=
  (∀ s : State, s.phase = .lbist → s.bst.run = none → s.id.lifecycle ≠ .returned →
    (s.id.lifecycle = .manufacture → s.flag Reg.BST_CTRL.STARTUP_LBIST_EN = true) →
    Answers .startupLbist s (fun t =>
      t.bst.run = some ⟨1, 0, [0, 1, 2, 3, 4], false, s.now + us 500, [], false, false⟩ ∧ t.get Reg.BST_STATUS.RUNNING = 1
        ∧ t.get Reg.BST_STATUS.ENGINE = 1 ∧ t.get Reg.BST_STATUS.ORIGIN = 0 ∧ KeptBut [.bst, .regs] s t
        ∧ RegsKeptBut [Reg.BST_STATUS.RUNNING, Reg.BST_STATUS.ENGINE, Reg.BST_STATUS.ITEM, Reg.BST_STATUS.ORIGIN] s t)) ∧
  (∀ s : State, s.phase = .lbist → s.bst.run = none →
    (s.id.lifecycle = .returned ∨ (s.id.lifecycle = .manufacture ∧ s.flag Reg.BST_CTRL.STARTUP_LBIST_EN = false)) →
    Answers .startupLbist s (fun t => t.phase = .spStart ∧ t.sp.lbistOk = true ∧ KeptBut [.phase, .sp] s t)) ∧
  (∀ (x : TestRun) (u patterns signature : Nat) (rest : List Nat) (s : State), s.bst.run = some x → x.engine = 1 → x.left = u :: rest → rest ≠ [] →
    u < 5 → lbistTarget u ≤ patterns → signature % 2 ^ 64 = nth 0 s.id.lbistRefs u →
    Answers (.lbistUnitComplete patterns signature true) s (fun t =>
      t.now = max s.now (x.startAt + lbistLength u)
        ∧ t.bst.run = some { x with left := rest, startAt := t.now, done := x.done ++ [⟨u, 1, 0, patterns, signature % 2 ^ 64⟩] }
        ∧ t.get (Reg.BST_LBIST_SIG_LO.SIG u) = signature % 2 ^ 32 ∧ t.get (Reg.BST_LBIST_SIG_HI.SIG u) = signature / 2 ^ 32 % 2 ^ 32
        ∧ t.get (Reg.BST_LBIST_PAT.COUNT u) = patterns % 2 ^ 17 ∧ (x.origin = 0 → KeptBut [.now, .bst, .regs, .ks, .scan, .proto] s t))) ∧
  (∀ (x : TestRun) (u patterns signature : Nat) (restored : Bool) (rest : List Nat) (s : State), s.bst.run = some x → x.engine = 1 →
    x.left = u :: rest → rest ≠ [] → s.lockedOut = false → (∀ w ∈ s.flt.windows, w.reaction ≠ 6) →
    (patterns < lbistTarget u ∨ signature % 2 ^ 64 ≠ nth 0 s.id.lbistRefs u ∨ (restored = false ∧ (x.origin ≠ 0 ∨ u = 1))) →
    Answers (.lbistUnitComplete patterns signature restored) s (fun t =>
      t.lockedOut = true ∧ t.get Reg.SAF_LOCKOUT.CAUSE = 0x16 ∧ ∃ y, t.bst.run = some y ∧ y.left = rest)) ∧
  (∀ s : State, s.phase = .abist → s.bst.run = none → (s.flag Reg.BST_CTRL.REUSE_EN = false ∨ s.bst.shut = none ∨ s.bst.consumed = true) →
    Answers (.startupAbist true) s (fun t =>
      t.bst.run = some ⟨0, 0, [0, 1, 2, 3, 4, 5, 6], false, s.now, [], false, false⟩ ∧ t.get Reg.BST_STATUS.RUNNING = 1
        ∧ t.get Reg.BST_STATUS.ENGINE = 0 ∧ t.phase = .abist)) ∧
  (∀ (x : TestResult) (s : State), s.phase = .abist → s.bst.run = none → s.flag Reg.BST_CTRL.REUSE_EN = true →
    (s.id.lifecycle = .field ∨ s.id.lifecycle = .service) → s.bst.shut = some x → s.bst.consumed = false → x.skipped = false → x.verdict = 1 →
    x.epoch = s.epoch → s.quality ≠ 3 → s.time - x.time < 86400000000 → s.bst.maps.length ≤ 768 →
    Answers (.startupAbist true) s (fun t =>
      t.phase = .cpBoot ∧ t.bst.run = none ∧ t.bst.consumed = true ∧ t.get Reg.BST_SHUT_INFO.CONSUMED = 1
        ∧ (s.get Reg.BST_REUSE_COUNT.COUNT < Reg.BST_REUSE_COUNT.COUNT.max →
            t.get Reg.BST_REUSE_COUNT.COUNT = s.get Reg.BST_REUSE_COUNT.COUNT + 1)
        ∧ (∀ a, (a < 0x20607000 ∨ 0x20608000 ≤ a) → Memory.read 0 t.nvm a = Memory.read 0 s.nvm a))) ∧
  (∀ (x : TestRun) (i vstr : Nat) (rest : List Nat) (s : State), s.bst.run = some x → x.engine = 0 → x.left = i :: rest → rest ≠ [] → i ≤ 6 →
    Answers (.abistItemComplete [] vstr) s (fun t =>
      s.now ≤ t.now ∧ t.now ≤ max s.now (x.startAt + abistBound i)
        ∧ (∃ y e, t.bst.run = some y ∧ y.left = rest ∧ y.startAt = t.now ∧ y.done = x.done ++ [e] ∧ e.code = i ∧ e.fails = 0
            ∧ (i = 2 → vstr < 20000 → e.result = 5)
            ∧ (20000 ≤ vstr → i ≠ 4 → s.flag Reg.STR_STATUS.LIMP_ENGAGED = false → e.result = 1)))) ∧
  (∀ (x : TestRun) (n dev vstr : Nat) (rest : List Nat) (s : State), s.bst.run = some x → x.engine = 0 → x.left = 2 :: rest → rest ≠ [] →
    x.clear = false → 20000 ≤ vstr → 151 ≤ dev → s.limpLit n = false → s.mappedBy 1 n = false → s.bst.maps.length < 768 →
    Answers (.abistItemComplete [(n, dev)] vstr) s (fun t =>
      (1, n) ∈ t.bst.maps ∧ (∃ y e, t.bst.run = some y ∧ y.done = x.done ++ [e] ∧ e.code = 2 ∧ e.result = 2 ∧ e.fails = 1 ∧ e.data = n)
        ∧ (s.get Reg.BST_FAIL_COUNT.COUNT < Reg.BST_FAIL_COUNT.COUNT.max →
            t.get Reg.BST_FAIL_COUNT.COUNT = s.get Reg.BST_FAIL_COUNT.COUNT + 1))) ∧
  (∀ (x : TestRun) (i : Nat) (rest : List Nat) (s : State), s.bst.run = some x → x.engine = 0 → x.left = i :: rest → rest ≠ [] →
    Answers .abistItemTimeout s (fun t =>
      t.now = max s.now (x.startAt + 2 * abistBound i)
        ∧ t.bst.run = some { x with left := rest, startAt := t.now, done := x.done ++ [⟨i, 5, 0, 0, 0⟩] }
        ∧ (s.get Reg.BST_INCOMPLETE_COUNT.COUNT < Reg.BST_INCOMPLETE_COUNT.COUNT.max →
            t.get Reg.BST_INCOMPLETE_COUNT.COUNT = s.get Reg.BST_INCOMPLETE_COUNT.COUNT + 1))) ∧
  (∀ (r : Req) (s : State), s.accepts opBistRun r → s.power = 2 → s.pwr.entry = none → s.bst.run = none → s.calBusy = false →
    s.com.writing = none → s.get Reg.UPD_SESSION.STATE < 5 → leAt r.params 0 1 ≤ 1 → leAt r.params 1 1 ≤ 1 →
    (s.id.lifecycle = .field → leAt r.params 0 1 = 0 ∧ leAt r.params 1 1 = 0) → (leAt r.params 0 1 = 1 → leAt r.params 1 1 = 0) →
    leAt r.params 2 2 ≠ 0 → leAt r.params 2 2 < (if leAt r.params 0 1 = 0 then 128 else 32) → leAt r.params 4 4 = 0 →
    Answers (.bistRun r) s (fun t =>
      let list := (List.range (if leAt r.params 0 1 = 0 then 7 else 5)).filter (bit (leAt r.params 2 2))
      t.bst.run = some ⟨leAt r.params 0 1, 1, list, leAt r.params 1 1 == 1, s.now + r.wait + (if leAt r.params 0 1 = 0 then 0 else ms 2), [], false, false⟩
        ∧ t.get Reg.BST_STATUS.RUNNING = 1 ∧ t.get Reg.BST_STATUS.ENGINE = leAt r.params 0 1 ∧ t.get Reg.BST_STATUS.ORIGIN = 1
        ∧ t.get Reg.FLT_STATUS.PULSE_MODE = 1 ∧ (leAt r.params 0 1 = 1 → t.get Reg.SAF_STATUS.PERMIT = 0)
        ∧ (leAt r.params 0 1 = 0 → bit (leAt r.params 2 2) 0 = false → KeptBut [.now, .pwr, .flt, .bst, .regs, .rings, .proto, .casc] s t)
        ∧ (s.answers r → ∃ p ∈ t.ring (r.ring + 8), p.bytes = sealed s.tag 0x8900 r.seq 0 s.position (le 2 Status.pending)))) ∧
  (∀ (r : Req) (s : State), s.accepts opBistResult r → s.answers r → leAt r.params 0 1 ≤ 2 → leAt r.params 1 3 = 0 →
    Answers (.bistResult r) s (fun t =>
      Replied s t opBistResult r (if leAt r.params 0 1 = 0 then resultBytes 0 s.bst.abist false
        else if leAt r.params 0 1 = 1 then resultBytes 1 s.bst.lbist false else resultBytes 0 s.bst.shut s.bst.consumed)
        ∧ KeptBut [.now, .pwr, .regs, .rings, .proto, .casc] s t ∧ RegsKeptBut answerFields s t))

/-! ### Firmware update (17) -/

/-- R513 to R516, R531: UPDATE_BEGIN takes a header that passes the checks of R514, else answers HEADER_REJECTED with the REASON; the
preparation writes GREEN and erases the region, after archiving a CONFIRMED image; a chunk in turn with its check is written where R515 puts
it, any other is refused with NEXT_SEQ and not written; VERIFY leads to VERIFIED, or back to receiving. R518 to R520, R522, R525: ACTIVATE
fires the image and stops its core, which boots with ATTEMPTS raised; CONFIRM raises the OTP level; FALLBACK writes GREEN and then restores the
archive; R512: the loader goes on with three bootable images and holds otherwise; R521: the window expires, ON_TIME is written; R531: UPDATE_STATUS
answers Table 17-6. -/
def Obligations.UpdatesDownloadVerifyActivateConfirmAndFallBack : Prop :=
  (∀ (r : Req) (s : State), s.accepts opUpdateBegin r → s.restarting = false → s.get Reg.UPD_SESSION.STATE = 0 →
    (∀ c < 3, c ≠ Header.target r.params → (s.core c).state = 0 ∨ 4 ≤ (s.core c).state) → (s.core (Header.target r.params)).state ≠ 3 →
    (s.follower = true → r.target ≠ 0x0F) →
    Answers (.updateBegin r) s (fun t =>
      match s.headerReason r.params with
      | none => t.get Reg.UPD_SESSION.STATE = 1 ∧ t.get Reg.UPD_SESSION.TARGET = Header.target r.params ∧ t.get Reg.UPD_SESSION.NEXT_SEQ = 0
          ∧ t.get Reg.UPD_RECEIVED.BYTES = 0 ∧ t.upd.header = r.params ∧ t.upd.lastTarget = some (Header.target r.params)
          ∧ (r.reply = true → ∃ p ∈ t.ring (r.ring + 8), p.bytes = sealed s.tag 0x8A00 r.seq 0 s.position (le 2 Status.pending))
          ∧ KeptBut [.now, .pwr, .upd, .regs, .rings, .proto, .casc] s t
      | some n => (∃ p ∈ t.ring (r.ring + 8), p.bytes = sealed s.tag 0x8A00 r.seq 0 s.position (le 2 Status.headerRejected ++ [byte n]))
          ∧ KeptBut [.now, .pwr, .regs, .rings, .proto, .casc] s t ∧ RegsKeptBut answerFields s t)) ∧
  (∀ (c : Nat) (written : Bool) (s : State), s.get Reg.UPD_SESSION.STATE = 1 → s.mpUp = true → Header.target s.upd.header = c → c ≤ 2 → s.upd.header.length = 256 →
    (s.upd.again = true ∨ s.imageState c ≠ 4 ∨ s.flashFitted = false ∨ s.ramStore = true) →
    Answers (.updatePrepareDone written) s (fun t =>
      s.now ≤ t.now ∧ t.now ≤ max s.now (s.upd.since + ms 2000) ∧ t.get Reg.UPD_SESSION.STATE = 2 ∧ (t.core c).state = 1 ∧ (t.core c).attempts = 0
        ∧ (t.core c).version = Header.version s.upd.header ∧ (t.core c).digest = Header.digest s.upd.header
        ∧ (∀ i < 256, t.nvmByte ((imageRegion c).1 + i) = (s.upd.header.getD i 0).toNat)
        ∧ (∀ a, (imageRegion c).1 + 256 ≤ a → a < (imageRegion c).2 → Memory.read 0 t.nvm a = 0)
        ∧ (∀ a, (a < (imageRegion c).1 ∨ (imageRegion c).2 ≤ a) → (a < 0x205D0000 ∨ 0x205D3000 ≤ a) →
            Memory.read 0 t.nvm a = Memory.read 0 s.nvm a)
        ∧ KeptBut [.now, .draws, .nvm, .upd, .regs, .rings, .proto] s t)) ∧
  (∀ (c o : Nat) (s : State), s.get Reg.UPD_SESSION.STATE = 1 → s.mpUp = true → Header.target s.upd.header = c → c ≤ 2 → s.upd.again = false →
    s.imageState c = 4 → s.flashFitted = true → s.ramStore = false → s.findSpace 3 (s.imageHeader c ++ s.imageBytes c).length = some o →
    Answers (.updatePrepareDone true) s (fun t =>
      t.get Reg.UPD_SESSION.STATE = 2 ∧ (t.core c).state = 1 ∧ (t.core c).version = Header.version s.upd.header
        ∧ (∃ e, t.archiveEntry c = some e ∧ e.offset = o ∧ e.length = (s.imageHeader c ++ s.imageBytes c).length
            ∧ e.version = Header.version (s.imageHeader c)))) ∧
  (∀ (c : Nat) (s : State), s.get Reg.UPD_SESSION.STATE = 1 → s.mpUp = true → Header.target s.upd.header = c → s.upd.again = false → s.imageState c = 4 →
    s.flashFitted = true → s.ramStore = false →
    Answers (.updatePrepareDone false) s (fun t =>
      t.get Reg.UPD_SESSION.STATE = 0 ∧ t.get Reg.UPD_SESSION.TARGET = 255 ∧ KeptBut [.now, .draws, .regs, .rings, .proto] s t)) ∧
  (∀ (r : Req) (s : State), s.accepts opUpdateData r → s.get Reg.UPD_SESSION.STATE = 2 → leAt r.params 0 2 = s.get Reg.UPD_SESSION.NEXT_SEQ →
    s.upd.lastChunk ≠ some (leAt r.params 0 2, leAt r.params 2 4) →
    (r.params.drop 6).length = chunkLength (Header.size s.upd.header) (leAt r.params 0 2) →
    crc32cFold (1008 * leAt r.params 0 2) (r.params.drop 6) = leAt r.params 2 4 → s.armed 0x23 = false →
    Answers (.updateData r) s (fun t =>
      let a := (imageRegion (Header.target s.upd.header)).1 + 256 + 1008 * leAt r.params 0 2
      let n := (r.params.drop 6).length
      t.get Reg.UPD_SESSION.NEXT_SEQ = (leAt r.params 0 2 + 1) % 65536 ∧ t.get Reg.UPD_RECEIVED.BYTES = (s.get Reg.UPD_RECEIVED.BYTES + n) % 2 ^ 20
        ∧ (∀ i < n, t.nvmByte (a + i) = ((r.params.drop 6).getD i 0).toNat)
        ∧ (∀ x, (x < a ∨ a + n ≤ x) → Memory.read 0 t.nvm x = Memory.read 0 s.nvm x) ∧ (s.answers r → Replied s t opUpdateData r [])
        ∧ KeptBut [.now, .pwr, .nvm, .upd, .regs, .rings, .proto, .casc] s t
        ∧ RegsKeptBut ([Reg.UPD_SESSION.NEXT_SEQ, Reg.UPD_RECEIVED.BYTES] ++ answerFields) s t)) ∧
  (∀ (r : Req) (s : State), s.accepts opUpdateData r → s.get Reg.UPD_SESSION.STATE = 2 → leAt r.params 0 2 ≠ s.get Reg.UPD_SESSION.NEXT_SEQ →
    s.upd.lastChunk ≠ some (leAt r.params 0 2, leAt r.params 2 4) → s.armed 0x23 = false → (s.follower = true → r.target ≠ 0x0F) →
    Answers (.updateData r) s (fun t =>
      (∃ p ∈ t.ring (r.ring + 8), p.bytes = sealed s.tag 0x8A01 r.seq 0 s.position (le 2 Status.badParam ++ le 2 (s.get Reg.UPD_SESSION.NEXT_SEQ)))
        ∧ KeptBut [.now, .pwr, .regs, .rings, .proto, .casc] s t
        ∧ RegsKeptBut ([Reg.UPD_CHUNK_ERR_COUNT.COUNT, Reg.UPD_FLAGS.CNT_SAT] ++ answerFields) s t)) ∧
  (∀ (r : Req) (s : State), s.accepts opUpdateVerify r → s.get Reg.UPD_SESSION.STATE = 2 → leAt r.params 0 1 ≤ 2 → leAt r.params 1 3 = 0 →
    s.get Reg.UPD_SESSION.TARGET = leAt r.params 0 1 → s.get Reg.UPD_RECEIVED.BYTES = Header.size s.upd.header →
    Answers (.updateVerify r) s (fun t =>
      t.get Reg.UPD_SESSION.STATE = 3 ∧ t.upd = { s.upd with since := s.now + r.wait }
        ∧ (s.answers r → ∃ p ∈ t.ring (r.ring + 8), p.bytes = sealed s.tag 0x8A02 r.seq 0 s.position (le 2 Status.pending))
        ∧ KeptBut [.now, .pwr, .upd, .regs, .rings, .proto, .casc] s t ∧ RegsKeptBut (Reg.UPD_SESSION.STATE :: answerFields) s t)) ∧
  (∀ (c : Nat) (s : State), s.get Reg.UPD_SESSION.STATE = 3 → s.mpUp = true → Header.target s.upd.header = c → c ≤ 2 →
    Answers .updateVerifyDone s (fun t =>
      s.now ≤ t.now ∧ t.now ≤ max s.now (s.upd.since + ms 400)
        ∧ (if s.imageOk c then (t.core c).state = 2 ∧ t.get Reg.UPD_SESSION.STATE = 4
          else t.get Reg.UPD_SESSION.STATE = 2 ∧ t.upd = s.upd ∧ t.nvm = s.nvm)
        ∧ KeptBut [.now, .draws, .nvm, .upd, .regs, .rings, .proto] s t)) ∧
  (∀ (r : Req) (s : State), s.accepts opUpdateActivate r → leAt r.params 0 1 ≤ 2 → (s.core (leAt r.params 0 1)).state = 2 → leAt r.params 1 1 ≤ 1 →
    leAt r.params 2 2 = 0 → s.restarting = false → (s.atHandler opUpdateActivate r).spLitBar (leAt r.params 0 1) (leAt r.params 1 1) = false →
    Answers (.updateActivate r) s (fun t =>
      let c := leAt r.params 0 1
      (t.core c).state = 3 ∧ (t.core c).attempts = 0 ∧ (t.core c).onSaved = 0 ∧ t.upd.activated = some c
        ∧ (s.phase ≠ .loaderHold → t.upd.restart = some (c, false) ∧ t.isUp c = false ∧ t.get Reg.UPD_SESSION.STATE = 5
          ∧ t.get Reg.UPD_SESSION.TARGET = c ∧ (c = 2 → t.flag Reg.SAF_STATUS.PERMIT = false))
        ∧ (s.phase = .loaderHold → (∀ k ∈ s.upd.holds, k = c) → t.phase = .loader)
        ∧ (s.answers r → ∃ p ∈ t.ring (r.ring + 8), p.bytes = sealed s.tag 0x8A03 r.seq 0 s.position (le 2 Status.pending)))) ∧
  (∀ (r : Req) (s : State), s.accepts opUpdateConfirm r → leAt r.params 0 1 ≤ 2 → s.imageState (leAt r.params 0 1) = 3 → leAt r.params 1 1 ≤ 1 →
    leAt r.params 2 2 = 0 → ((s.core (leAt r.params 0 1)).expired = false ∨ s.archiveEntry (leAt r.params 0 1) = none) →
    ((s.core (leAt r.params 0 1)).migration = false ∨ leAt r.params 1 1 = 1) →
    Answers (.updateConfirm r) s (fun t =>
      let c := leAt r.params 0 1
      (t.core c).state = 4 ∧ (t.core c).migration = false ∧ t.otpLevel c = max (s.otpLevel c) (s.core c).rollback
        ∧ (∀ k ≤ 2, k ≠ c → t.core k = s.core k ∧ t.otpLevel k = s.otpLevel k) ∧ (s.answers r → Replied s t opUpdateConfirm r [])
        ∧ (∀ a, (a < 0x205D0000 ∨ 0x205D3000 ≤ a) → Memory.read 0 t.nvm a = Memory.read 0 s.nvm a)
        ∧ KeptBut [.now, .pwr, .nvm, .id, .upd, .regs, .rings, .proto, .casc] s t)) ∧
  (∀ (r : Req) (s : State), s.accepts opUpdateFallback r → leAt r.params 0 1 ≤ 2 → leAt r.params 1 1 ≤ 1 → leAt r.params 2 2 = 0 →
    (s.atHandler opUpdateFallback r).spLitBar (leAt r.params 0 1) (leAt r.params 1 1) = false → s.get Reg.UPD_SESSION.STATE ≠ 1 →
    s.get Reg.UPD_SESSION.STATE ≠ 3 → s.restarting = false → (s.follower = true → r.target ≠ 0x0F) →
    Answers (.updateFallback r) s (fun t =>
      let c := leAt r.params 0 1
      if s.archiveOk c then (t.core c).state = 1 ∧ (t.core c).version = Header.version (s.archiveHeader c) ∧ t.get Reg.UPD_SESSION.STATE = 6
          ∧ t.get Reg.UPD_SESSION.TARGET = c
          ∧ (r.reply = true → ∃ p ∈ t.ring (r.ring + 8), p.bytes = sealed s.tag 0x8A05 r.seq 0 s.position (le 2 Status.pending))
      else (∃ p ∈ t.ring (r.ring + 8), p.bytes = sealed s.tag 0x8A05 r.seq 0 s.position (le 2 Status.fallbackUnavailable))
          ∧ ((∀ e, s.archiveEntry c = some e → s.entryGood 3 e = true) →
              KeptBut [.now, .pwr, .regs, .rings, .proto, .casc] s t ∧ RegsKeptBut answerFields s t))) ∧
  (∀ (c : Nat) (e : LibEntry) (s : State), s.get Reg.UPD_SESSION.STATE = 6 → s.mpUp = true → s.get Reg.UPD_SESSION.TARGET = c → c ≤ 2 → s.archiveEntry c = some e →
    (imageRegion c).1 + e.length ≤ (imageRegion c).2 → s.phase ≠ .loaderHold →
    Answers .fallbackComplete s (fun t =>
      (∀ i < e.length, t.nvmByte ((imageRegion c).1 + i) = ((s.archiveBytes e).getD i 0).toNat)
        ∧ (if (s.core c).archived = true ∨ Config.sha256 ((s.archiveBytes e).drop 256) = Header.digest (s.archiveBytes e) then
            (t.core c).state = 4 ∧ (t.core c).attempts = 0 ∧ t.upd.restart = some (c, true) ∧ t.isUp c = false ∧ t.get Reg.UPD_SESSION.STATE = 5
          else t.get Reg.UPD_SESSION.STATE = 0 ∧ t.get Reg.UPD_SESSION.TARGET = 255 ∧ (t.core c).state = (s.core c).state))) ∧
  (∀ (c : Nat) (fb : Bool) (s : State), s.phase = .service → s.upd.restart = some (c, fb) → c ≤ 2 → s.upd.activated = none →
    (s.core c).state = 3 → (s.core c).attempts < 3 → (s.core c).expired = false →
    Answers (.imageBoot c true) s (fun t =>
      s.now ≤ t.now ∧ t.now ≤ max s.now (s.upd.since + ms 202) ∧ t.upd.restart = none ∧ t.isUp c = true
        ∧ (t.core c).attempts = (s.core c).attempts + 1 ∧ (t.core c).running = (s.core c).digest ∧ t.get Reg.UPD_SESSION.STATE = 0)) ∧
  (∀ (c : Nat) (s : State), s.phase = .service → s.upd.restart = some (c, false) → c ≤ 2 → s.upd.activated = some c →
    (s.core c).state = 3 → (s.core c).attempts < 3 → (s.core c).expired = false →
    Answers (.imageBoot c true) s (fun t =>
      t.upd.restart = none ∧ t.isUp c = true ∧ t.upd.activated = none ∧ (t.core c).running = (s.core c).digest
        ∧ t.get Reg.SYS_RESET_CAUSE.CAUSE = 7 ∧ t.get Reg.UPD_SESSION.TARGET = 255)) ∧
  (∀ s : State, s.phase = .loader → s.pwr.wake = none → (∀ c < 3, s.loaderVerdict c = .boots) →
    Answers .loaderImageCheck s (fun t => s.now ≤ t.now ∧ t.now ≤ s.now + ms 20 ∧ t.phase = .lbist ∧ t.upd.holds = [])) ∧
  (∀ (c : Nat) (s : State), s.phase = .loader → c < 3 → s.loaderVerdict c = .holds → (∀ k < 3, s.loaderVerdict k ≠ .restores) → s.armed 0x23 = false →
    Answers .loaderImageCheck s (fun t =>
      t.phase = .loaderHold ∧ c ∈ t.upd.holds ∧ t.get Reg.FLT_STATUS.PULSE_MODE = 1 ∧ t.mode = 2)) ∧
  (∀ (c : Nat) (s : State), c < 3 → s.mpUp = true → (s.core c).state = 3 → (s.core c).expired = false →
    Answers (.confirmWindowExpiry c) s (fun t =>
      t.now = s.now + (s.get Reg.UPD_CTRL.CONFIRM_WINDOW * 6000000000 - s.windowTime c) ∧ (t.core c).expired = true ∧ (t.core c).state = 3
        ∧ KeptBut [.now, .nvm, .upd, .regs, .rings, .proto] s t)) ∧
  (∀ (c : Nat) (s : State), c < 3 → s.mpUp = true → (s.core c).state = 3 →
    Answers .onTimeWrite s (fun t =>
      s.now ≤ t.now ∧ (t.core c).onSaved = t.windowTime c / 100000000 ∧ (t.core c).state = 3
        ∧ (∀ a, (a < 0x205D0000 ∨ 0x205D3000 ≤ a) → Memory.read 0 t.nvm a = Memory.read 0 s.nvm a)
        ∧ KeptBut [.now, .nvm, .upd, .regs] s t)) ∧
  (∀ (r : Req) (s : State), s.accepts opUpdateStatus r → s.answers r →
    Answers (.updateStatus r) s (fun t => ∃ res, Replied s t opUpdateStatus r res ∧ res.length = 82
      ∧ leAt res 0 1 = s.get Reg.UPD_SESSION.TARGET % 256 ∧ leAt res 1 1 = s.get Reg.UPD_SESSION.STATE % 256
      ∧ leAt res 2 4 = s.get Reg.UPD_RECEIVED.BYTES % 2 ^ 32 ∧ leAt res 6 2 = s.get Reg.UPD_SESSION.NEXT_SEQ % 65536
      ∧ (∀ c < 3, leAt res (10 + 24 * c) 1 = (s.core c).state % 256 ∧ leAt res (11 + 24 * c) 1 = (s.core c).attempts % 256
          ∧ leAt res (13 + 24 * c) 1 = s.otpLevel c % 256 ∧ leAt res (14 + 24 * c) 4 = (s.core c).version % 2 ^ 32)
      ∧ KeptBut [.now, .pwr, .regs, .rings, .proto, .casc] s t ∧ RegsKeptBut answerFields s t))

/-! ### The protocol, registers, check units and crossings (09, 18) -/

/-- R275, R276, R268, R273: nothing that can be taken leaves the state as it is; else the oldest safety packet, or the head of the ring whose
turn it is, is taken; an unknown opcode is answered BAD_OPCODE, a whole new request is executed, its reply placed within 5 ms (20 ms in the
loader). R278: an incomplete assembly is given up after 100 ms to 110 ms and answered BAD_LENGTH. R281: the events lost are reported once there is
room. R286 to R289: SYS_IDENTIFY and SYS_STATUS answer their tables, SYS_RESET is due 2 ms later and drops PERMIT, or is refused while strings
conduct; SYS_LIFECYCLE writes the state its token gives, and the nonce is new. R290, R550: REG_READ answers the words and latches high words, or
names the first address refused. -/
def Obligations.PacketsAreDispatchedAndSystemCommandsAnswered : Prop :=
  (∀ s : State, s.nextSafety = none → s.nextInTurn = none → Answers .packetDispatch s (fun t => t = s)) ∧
  (∀ (n : Nat) (p : Packet) (safety : Bool) (s : State),
    ((s.nextSafety = some (n, p) ∧ safety = true) ∨ (s.nextSafety = none ∧ s.nextInTurn = some (n, p) ∧ safety = false)) → n ≠ 5 → n ≠ 6 →
    s.assemblyOf n = none → opOf p.opcode = none → (s.follower = true → p.target ≠ 0x0F) →
    Answers .packetDispatch s (fun t =>
      s.now ≤ t.now ∧ t.now ≤ s.now + (if s.mode = 2 then ms 20 else ms 5) ∧ (n < 8 → t.ring n = (s.ring n).erase p)
        ∧ (∃ q ∈ t.ring (n + 8), q.bytes = sealed s.tag (p.opcode + 0x8000) p.seq 0 s.position (le 2 Status.badOpcode))
        ∧ t.proto.turn = (if safety then s.proto.turn else n)
        ∧ KeptBut [.now, .draws, .regs, .rings, .proto] s t ∧ RegsKeptBut answerFields s t)) ∧
  (∀ (n : Nat) (p : Packet) (op : Op) (safety : Bool) (s : State),
    ((s.nextSafety = some (n, p) ∧ safety = true) ∨ (s.nextSafety = none ∧ s.nextInTurn = some (n, p) ∧ safety = false)) → n ≠ 5 → n ≠ 6 →
    s.assemblyOf n = none → s.headerStatus p = none → p.frag = false → s.duplicateOf n p = none → opOf p.opcode = some op → s.foldOf p = s.tag →
    Answers .packetDispatch s (fun t => ∃ d ≤ (if s.mode = 2 then ms 20 else ms 5),
      let taken := s.setRing n ((s.ring n).erase p)
      t = State.commandAs { taken with
        now := s.now + d, draws := s.draws + 1
        proto := { s.proto with replyTo := p.source, turn := if safety then s.proto.turn else n } } s.tag op (p.req n))) ∧
  (∀ (ring : Nat) (a : Assembly) (s : State), s.assemblyOf ring = some a → s.ringRoom (ring + 8) = true → (s.follower = true → a.target ≠ 0x0F) →
    Answers (.fragmentTimeout ring) s (fun t =>
      a.firstAt + ms 100 ≤ t.now ∧ t.now ≤ max s.now (a.firstAt + ms 110) ∧ t.assemblyOf ring = none
        ∧ (s.get Reg.SYS_FRAG_ABANDON_COUNT.COUNT < Reg.SYS_FRAG_ABANDON_COUNT.COUNT.max →
            t.get Reg.SYS_FRAG_ABANDON_COUNT.COUNT = s.get Reg.SYS_FRAG_ABANDON_COUNT.COUNT + 1)
        ∧ (∃ p ∈ t.ring (ring + 8), p.bytes = sealed s.tag (a.opcode + 0x8000) a.seq 0 s.position (le 2 Status.badLength))
        ∧ KeptBut [.now, .draws, .regs, .rings, .proto] s t ∧ RegsKeptBut (Reg.SYS_FRAG_ABANDON_COUNT.COUNT :: answerFields) s t)) ∧
  (∀ (ring : Nat) (s : State), s.cpUp = true → 8 ≤ ring → ring < 16 → Assoc.get 0 s.proto.lost ring ≠ 0 → s.eventRoom ring = true →
    Answers (.eventsLostPlace ring) s (fun t =>
      (∃ p, t.ring ring = s.ring ring ++ [p] ∧ p.bytes = sealed s.tag 0xF0FF (Assoc.get 0 s.proto.evSeq ring) 0 s.position
          (le 2 (Assoc.get 0 s.proto.lost ring) ++ le 6 0 ++ le 8 s.time))
        ∧ Assoc.get 0 t.proto.lost ring = 0 ∧ bit (t.get Reg.FLT_IRQ_STATUS.CAUSE) 4 = true ∧ KeptBut [.regs, .rings, .proto] s t ∧ RegsKeptBut [] s t)) ∧
  (∀ (r : Req) (s : State), s.accepts opSysIdentify r → s.answers r →
    Answers (.sysIdentify r) s (fun t => ∃ res, Replied s t opSysIdentify r res ∧ res.length = 46
      ∧ leAt res 0 1 = s.id.variant.code ∧ leAt res 1 1 = s.id.lifecycle.code ∧ leAt res 2 8 = s.id.serial % 2 ^ 64 ∧ leAt res 10 4 = s.tag % 2 ^ 32
      ∧ leAt res 14 6 = s.id.mac % 2 ^ 48 ∧ leAt res 20 1 = s.position % 256 ∧ bit (leAt res 21 1) 0 = s.id.legacy ∧ bit (leAt res 21 1) 1 = (s.mode == 2)
      ∧ leAt res 22 2 = 0x0100 ∧ leAt res 24 2 = s.id.dieRevs % 4096 ∧ leAt res 26 4 = s.id.loaderVer % 2 ^ 32
      ∧ (∀ c < 3, leAt res (30 + 4 * c) 4 = s.imageVersion c % 2 ^ 32) ∧ leAt res 42 4 = s.id.lcNonce % 2 ^ 32
      ∧ KeptBut [.now, .pwr, .regs, .rings, .proto, .casc] s t ∧ RegsKeptBut answerFields s t)) ∧
  (∀ (r : Req) (s : State), s.accepts opSysStatus r → s.answers r →
    Answers (.sysStatus r) s (fun t => ∃ res, Replied s t opSysStatus r res ∧ res.length = 30
      ∧ leAt res 0 1 = s.power % 256 ∧ leAt res 1 1 = s.mode ∧ leAt res 2 1 = s.id.lifecycle.code ∧ leAt res 3 1 = s.safetyByte % 256
      ∧ leAt res 4 1 = min 255 s.flt.uncleared.length ∧ leAt res 6 1 = s.get Reg.LNK_STATUS.INPUT % 256
      ∧ leAt res 7 1 = s.get Reg.STR_POWER_LIMIT.LIMIT % 256 ∧ leAt res 10 4 = s.get Reg.SCN_FRAME_COUNT.COUNT % 2 ^ 32
      ∧ leAt res 14 8 = (s.atHandler opSysStatus r).time ∧ leAt res 22 1 = (s.atHandler opSysStatus r).quality
      ∧ leAt res 24 2 = s.epoch % 2 ^ 16 ∧ leAt res 26 4 = (s.get Reg.SYS_RESET_CAUSE.CAUSE + 65536 * s.get Reg.SYS_RESET_CAUSE.COUNT) % 2 ^ 32
      ∧ KeptBut [.now, .pwr, .regs, .rings, .proto, .casc] s t ∧ RegsKeptBut answerFields s t)) ∧
  (∀ (r : Req) (s : State), s.accepts opSysReset r → leAt r.params 0 1 ≤ 1 → leAt r.params 1 1 ≤ 1 → leAt r.params 2 2 = 0x5AA5 →
    s.proto.resetDue = none → (leAt r.params 0 1 = 0 → s.conducts = true → leAt r.params 1 1 = 1) →
    Answers (.sysReset r) s (fun t =>
      t.proto.resetDue = some (leAt r.params 0 1, s.now + r.wait + ms 2) ∧ (leAt r.params 0 1 = 0 → t.flag Reg.SAF_STATUS.PERMIT = false)
        ∧ (s.answers r → Replied s t opSysReset r [])
        ∧ KeptBut ([.now, .pwr, .regs, .rings, .proto, .casc] ++ (if leAt r.params 0 1 = 0 then [.ks, .scan] else [])) s t
        ∧ (leAt r.params 0 1 = 1 → RegsKeptBut answerFields s t))) ∧
  (∀ (r : Req) (s : State), s.accepts opSysReset r → leAt r.params 0 1 = 0 → s.conducts = true → bit (leAt r.params 1 1) 0 = false →
    (s.follower = true → r.target ≠ 0x0F) →
    Answers (.sysReset r) s (fun t =>
      (∃ p ∈ t.ring (r.ring + 8), p.bytes = sealed s.tag 0x8102 r.seq 0 s.position (le 2 Status.badState))
        ∧ KeptBut [.now, .pwr, .regs, .rings, .proto, .casc] s t ∧ t.proto.resetDue = s.proto.resetDue ∧ RegsKeptBut answerFields s t)) ∧
  (∀ (r : Req) (s : State), s.accepts opSysLifecycle r →
    Answers (.sysLifecycle r) s (fun t =>
      t.id = { s.id with lcNonce := Config.free s.draws % 2 ^ 32, nextLifecycle := (s.tokenState r.params).getD s.id.nextLifecycle }
        ∧ t.draws = s.draws + 1
        ∧ (s.answers r → ∃ p ∈ t.ring (r.ring + 8), p.bytes = sealed s.tag 0x8120 r.seq 0 s.position
            (le 2 (if (s.tokenState r.params).isSome then Status.ok else Status.badParam)))
        ∧ KeptBut [.now, .draws, .id, .pwr, .regs, .rings, .proto, .casc] s t ∧ RegsKeptBut answerFields s t)) ∧
  (∀ (r : Req) (s : State), s.accepts opRegRead r → s.answers r → accessFault (leAt r.params 0 4) (leAt r.params 4 2) 1012 = none →
    leAt r.params 6 2 = 0 →
    (region (leAt r.params 0 4) = some 20 → ∀ x ∈ wordsFrom (leAt r.params 0 4) (leAt r.params 4 2), ((s.atHandler opRegRead r).flashPlace x).isSome) →
    Answers (.regRead r) s (fun t => ∃ vs : List Nat, vs.length = leAt r.params 4 2
      ∧ (let h := (s.atHandler opRegRead r).wakeBanks (leAt r.params 0 4) (leAt r.params 4 2)
         ∀ k < leAt r.params 4 2, nth 0 vs k = (if 0 < k ∧ lowWords.contains (leAt r.params 0 4 + 4 * k - 4) then h.registerWord (leAt r.params 0 4 + 4 * k)
           else h.readWord (leAt r.params 0 4 + 4 * k)))
      ∧ (∀ b ∈ replyPackets s.tag 0x0110 r.seq s.position (le 4 0 ++ le 4 (leAt r.params 0 4) ++ vs.flatMap (le 4)),
          ∃ p ∈ t.ring (r.ring + 8), p.bytes = b)
      ∧ KeptBut [.now, .draws, .pwr, .regs, .latches, .rings, .proto, .casc] s t
      ∧ (region (leAt r.params 0 4) ≠ some 0 → RegsKeptBut answerFields s t))) ∧
  (∀ (r : Req) (e : Nat) (s : State), s.accepts opRegRead r → accessFault (leAt r.params 0 4) (leAt r.params 4 2) 1012 = some e →
    (s.follower = true → r.target ≠ 0x0F) →
    Answers (.regRead r) s (fun t =>
      (∃ p ∈ t.ring (r.ring + 8), p.bytes = sealed s.tag 0x8110 r.seq 0 s.position (le 2 Status.badParam ++ le 2 0 ++ le 4 e))
        ∧ KeptBut [.now, .pwr, .regs, .rings, .proto, .casc] s t ∧ RegsKeptBut answerFields s t))

/-- R291: REG_WRITE checks every word before it writes any; the first word refused is named and nothing is written; a register takes the word in
its RW fields and clears the W1C bits written 1. R46, R147, R202, R321, R457, R549: the frame tick is written in READY only, the diagnosis
switches in MANUFACTURE and SERVICE only, a layer's back buffer takes words, a bus that answers the write changes after its reply, a conversion
starts, a clearable counter is cleared. R537 to R541: a check unit latches its settings at GO, loses a second GO, refuses an empty range or one
that leaves a region, stops on ABORT, and ends with the check of its bytes or with an error. R415: a reaction window closes in its time. R545,
R546: a crossing that waits 2.2 ms is reset and counted, 1.8 ms never, and one that discarded items raises CROSSING_FLUSH. -/
def Obligations.RegistersAreWrittenAndCheckUnitsAndCrossingsRun : Prop :=
  (∀ (r : Req) (w : WordWrite) (f : Field) (s : State), s.accepts opRegWrite r → wordWrites r.params = [w] → leAt r.params 6 1 ≤ 1 →
    leAt r.params 7 1 = 0 → accessFault w.addr 1 506 = none → (∃ n, region w.addr = some n ∧ 3 ≤ n ∧ n ≤ 19) →
    w.addr ∉ [0x40300104, 0x40000010, 0x4010002C, 0x41000000] → hstRing w.addr = none →
    (s.atHandler opRegWrite r).wordStatus [w] w = Status.ok → f ∈ (regFields w.addr).getD [] →
    (∀ g ∈ (regFields w.addr).getD [], g.key = f.key → g = f) → f.key ∉ (answerFields ++ eventFields).map Field.key →
    Answers (.regWrite r) s (fun t =>
      (f.acc = .rw → t.get f = bits (w.over ((s.atHandler opRegWrite r).registerWord w.addr)) f.lo f.width)
        ∧ (f.acc = .w1c → t.get f = (s.get f ^^^ (s.get f &&& bits w.acts f.lo f.width)) % 2 ^ f.width)
        ∧ (f.acc = .ro → t.get f = s.get f) ∧ (s.answers r → Replied s t opRegWrite r [])
        ∧ KeptBut ([.now, .pwr, .regs, .rings, .proto, .casc] ++ (if w.addr = 0x40900000 then [.scan] else [])) s t ∧ RegsKeptBut ((regFields w.addr).getD [] ++ answerFields) s t)) ∧
  (∀ (r : Req) (w : WordWrite) (s : State), s.accepts opRegWrite r → leAt r.params 6 1 ≤ 1 → leAt r.params 7 1 = 0 →
    accessFault (leAt r.params 0 4) (leAt r.params 4 2) (if bit (leAt r.params 6 1) 0 then 506 else 1012) = none →
    ((wordWrites r.params).any (fun x => inLayers x.addr) = true →
      (s.atHandler opRegWrite r).layerWriteStatus ((wordWrites r.params).map (·.addr)) = Status.ok) →
    (wordWrites r.params).find? (fun w => (s.atHandler opRegWrite r).wordStatus (wordWrites r.params) w != Status.ok) = some w →
    (s.follower = true → r.target ≠ 0x0F) →
    Answers (.regWrite r) s (fun t =>
      (∃ p ∈ t.ring (r.ring + 8), p.bytes = sealed s.tag 0x8111 r.seq 0 s.position
          (le 2 ((s.atHandler opRegWrite r).wordStatus (wordWrites r.params) w) ++ le 2 0 ++ le 4 w.addr))
        ∧ KeptBut [.now, .pwr, .regs, .rings, .proto, .casc] s t ∧ RegsKeptBut answerFields s t)) ∧
  (∀ (r : Req) (w : WordWrite) (s : State), s.accepts opRegWrite r → leAt r.params 6 1 ≤ 1 → leAt r.params 7 1 = 0 →
    accessFault (leAt r.params 0 4) (leAt r.params 4 2) (if bit (leAt r.params 6 1) 0 then 506 else 1012) = none →
    (wordWrites r.params).find? (fun x => inLayers x.addr) = some w →
    (s.atHandler opRegWrite r).layerWriteStatus ((wordWrites r.params).map (·.addr)) ≠ Status.ok → (s.follower = true → r.target ≠ 0x0F) →
    Answers (.regWrite r) s (fun t =>
      (∃ p ∈ t.ring (r.ring + 8), p.bytes = sealed s.tag 0x8111 r.seq 0 s.position
          (le 2 ((s.atHandler opRegWrite r).layerWriteStatus ((wordWrites r.params).map (·.addr))) ++ le 2 0 ++ le 4 w.addr))
        ∧ KeptBut [.now, .pwr, .regs, .rings, .proto, .casc] s t ∧ RegsKeptBut answerFields s t)) ∧
  (∀ (r : Req) (v : Nat) (s : State), s.accepts opRegWrite (withWrite 0x40800004 [v] r) → s.power = 2 → 60 ≤ v % 128 → v % 128 ≤ 120 →
    Answers (.scnTickWrite r v) s (fun t =>
      t.get Reg.SCN_TICK.TICK = v % 128 ∧ (s.answers r → Replied s t opRegWrite r [])
        ∧ KeptBut [.now, .pwr, .regs, .rings, .proto, .casc] s t ∧ RegsKeptBut (Reg.SCN_TICK.TICK :: answerFields) s t)) ∧
  (∀ (r : Req) (v : Nat) (s : State), s.accepts opRegWrite (withWrite 0x40800004 [v] r) → s.power ≠ 2 → (s.follower = true → r.target ≠ 0x0F) →
    Answers (.scnTickWrite r v) s (fun t =>
      (∃ p ∈ t.ring (r.ring + 8), p.bytes = sealed s.tag 0x8111 r.seq 0 s.position (le 2 Status.badState ++ le 2 0 ++ le 4 0x40800004))
        ∧ KeptBut [.now, .pwr, .regs, .rings, .proto, .casc] s t ∧ RegsKeptBut answerFields s t)) ∧
  (∀ (r : Req) (v : Nat) (s : State), s.accepts opRegWrite (withWrite 0x40B00000 [v] r) → (s.id.lifecycle = .manufacture ∨ s.id.lifecycle = .service) →
    Answers (.diagCtrlWrite r v) s (fun t =>
      t.get Reg.DIAG_CTRL.FWD_EN = bits v 0 1 ∧ t.get Reg.DIAG_CTRL.PROBE_EN = bits v 1 1 ∧ t.get Reg.DIAG_CTRL.AUTO_REPAIR = bits v 2 1
        ∧ (s.answers r → Replied s t opRegWrite r []) ∧ KeptBut [.now, .pwr, .regs, .rings, .proto, .casc] s t
        ∧ RegsKeptBut ([Reg.DIAG_CTRL.FWD_EN, Reg.DIAG_CTRL.PROBE_EN, Reg.DIAG_CTRL.AUTO_REPAIR] ++ answerFields) s t)) ∧
  (∀ (r : Req) (v : Nat) (s : State), s.accepts opRegWrite (withWrite 0x40B00000 [v] r) → s.id.lifecycle ≠ .manufacture → s.id.lifecycle ≠ .service →
    (s.follower = true → r.target ≠ 0x0F) →
    Answers (.diagCtrlWrite r v) s (fun t =>
      (∃ p ∈ t.ring (r.ring + 8), p.bytes = sealed s.tag 0x8111 r.seq 0 s.position (le 2 Status.notPermitted ++ le 2 0 ++ le 4 0x40B00000))
        ∧ KeptBut [.now, .pwr, .regs, .rings, .proto, .casc] s t ∧ RegsKeptBut answerFields s t)) ∧
  (∀ (r : Req) (offset v : Nat) (s : State), s.accepts opRegWrite (withWrite (0x41000000 + 4 * (offset % 2 ^ 18)) [v] r) → v < 2 ^ 32 →
    offset ∈ [1, 2, 3, 4, 6, 7] →
    (s.atHandler opRegWrite r).hstBad (fun x => if x = 0x41000000 + 4 * offset then v else (s.atHandler opRegWrite r).registerWord x)
      (0x41000000 + 4 * offset) = false →
    Answers (.hstRegisterWrite r offset v) s (fun t =>
      (¬ (r.reply = true ∧ hstRing (0x41000000 + 4 * offset) = some r.ring) →
          (∀ f ∈ (regFields (0x41000000 + 4 * offset)).getD [], t.get f = bits v f.lo f.width) ∧ t.bus = s.bus
            ∧ (offset = 6 → bit v 0 = false →
                t.get Reg.HST_T1S_STATUS.PLCA_OK = 0 ∧ t.get Reg.HST_T1S_STATUS.MODE = 1 ∧ t.get Reg.HST_T1S_STATUS.COORD = 0))
        ∧ (r.reply = true → hstRing (0x41000000 + 4 * offset) = some r.ring →
          t.bus = { s.bus with deferred := s.bus.deferred ++ [(r.ring, r.seq, 0x41000000 + 4 * offset, v)] } ∧ RegsKeptBut answerFields s t)
        ∧ (s.answers r → Replied s t opRegWrite r []) ∧ KeptBut [.now, .pwr, .bus, .regs, .rings, .proto, .casc] s t
        ∧ RegsKeptBut ((regFields (0x41000000 + 4 * offset)).getD [] ++ plcaFields ++ answerFields) s t)) ∧
  (∀ (r : Req) (v : Nat) (s : State), s.accepts opRegWrite (withWrite 0x41000000 [v] r) → v < 2 ^ 32 → s.follower = false →
    s.hstEnables v ≠ 0 →
    Answers (.hstRegisterWrite r 0 v) s (fun t =>
      (∀ f ∈ [Reg.HST_CTRL.SPI_EN, Reg.HST_CTRL.CAN_EN, Reg.HST_CTRL.T1S_EN, Reg.HST_CTRL.DALI_EN],
          f ≠ (if s.id.variant = .aw then Reg.HST_CTRL.DALI_EN else Reg.HST_CTRL.CAN_EN) →
          ¬ (r.reply = true ∧ r.ring = f.lo) → t.get f = bits v f.lo 1)
        ∧ KeptBut [.now, .pwr, .bus, .regs, .rings, .proto, .casc] s t
        ∧ RegsKeptBut ([Reg.HST_CTRL.SPI_EN, Reg.HST_CTRL.CAN_EN, Reg.HST_CTRL.T1S_EN, Reg.HST_CTRL.DALI_EN] ++ plcaFields ++ answerFields) s t)) ∧
  (∀ (r : Req) (v : Nat) (s : State), s.accepts opRegWrite (withWrite 0x41000000 [v] r) → v < 2 ^ 32 → s.follower = true →
    Answers (.hstRegisterWrite r 0 v) s (fun t =>
      (s.answers r → Replied s t opRegWrite r []) ∧ KeptBut [.now, .pwr, .regs, .rings, .proto, .casc] s t ∧ RegsKeptBut answerFields s t)) ∧
  (∀ (r : Req) (offset : Nat) (words : List Nat) (s : State), offset < 2 ^ 20 → 1 ≤ words.length → words.length ≤ 1012 →
    4 * offset + 4 * words.length ≤ 0x400000 → s.accepts opRegWrite (withWrite (0x01000000 + 4 * offset) words r) →
    (s.atHandler opRegWrite r).layerWriteStatus (wordsFrom (0x01000000 + 4 * offset) words.length) = Status.ok →
    Answers (.layerBufferWrite r offset words) s (fun t =>
      (∀ i < 4 * words.length, Memory.read 0 t.sram (0x01000000 + 4 * offset + i) = byte (nth 0 words (i / 4) / 256 ^ (i % 4)))
        ∧ (∀ a, (a < 0x01000000 + 4 * offset ∨ 0x01000000 + 4 * offset + 4 * words.length ≤ a) → Memory.read 0 t.sram a = Memory.read 0 s.sram a)
        ∧ (s.answers r → Replied s t opRegWrite r []) ∧ KeptBut [.now, .draws, .pwr, .sram, .regs, .rings, .proto, .casc] s t)) ∧
  (∀ (r : Req) (address : Nat) (s : State), address < 2 ^ 32 → s.accepts opRegWrite (withWrite 0x40300104 [address] r) → clearStatus address = Status.ok →
    Answers (.chkCntClear r address) s (fun t =>
      (∀ f ∈ (regFields address).getD [], f.key ∉ (answerFields ++ eventFields).map Field.key → t.get f = 0)
        ∧ (s.answers r → Replied s t opRegWrite r []) ∧ KeptBut [.now, .pwr, .regs, .rings, .proto, .casc] s t
        ∧ RegsKeptBut ((regFields address).getD [] ++ answerFields) s t)) ∧
  (∀ (r : Req) (address : Nat) (s : State), s.accepts opRegWrite (withWrite 0x40300104 [address] r) → address ∈ keptCounters →
    (s.follower = true → r.target ≠ 0x0F) →
    Answers (.chkCntClear r address) s (fun t =>
      (∃ p ∈ t.ring (r.ring + 8), p.bytes = sealed s.tag 0x8111 r.seq 0 s.position (le 2 Status.notPermitted ++ le 2 0 ++ le 4 0x40300104))
        ∧ KeptBut [.now, .pwr, .regs, .rings, .proto, .casc] s t ∧ RegsKeptBut answerFields s t)) ∧
  (∀ (r : Req) (supply : Nat) (s : State), s.accepts opRegWrite (withWrite 0x4010002C [256 + supply % 4] r) →
    Answers (.pwrMeasStart r supply) s (fun t =>
      t.get Reg.PWR_MEAS_CTRL.SUPPLY = supply % 4 ∧ t.get Reg.PWR_MEAS_CTRL.BUSY = 1 ∧ t.pwr.measAt = s.now + r.wait
        ∧ (s.answers r → Replied s t opRegWrite r []) ∧ KeptBut [.now, .pwr, .regs, .rings, .proto, .casc] s t
        ∧ RegsKeptBut ([Reg.PWR_MEAS_CTRL.SUPPLY, Reg.PWR_MEAS_CTRL.BUSY] ++ answerFields) s t)) ∧
  (∀ (u poly start len fold expect : Nat) (foldEn compare : Bool) (s : State), u < 4 → s.ownerUp u = true → s.flag (Reg.CHK_STATUS.BUSY u) = false →
    rangeBad (start % 2 ^ 32) (len % 2 ^ 27) = false →
    Answers (.chkGo u poly foldEn compare start len fold expect false) s (fun t =>
      t.chk.scans.find u = some ⟨s.now, start % 2 ^ 32, len % 2 ^ 27, poly % 4, if foldEn then some (fold % 2 ^ 32) else none, compare, expect % 2 ^ 32⟩
        ∧ t.get (Reg.CHK_STATUS.BUSY u) = 1 ∧ (∀ m, m ≠ u → t.chk.scans.find m = s.chk.scans.find m) ∧ t.chk.resets = s.chk.resets
        ∧ KeptBut [.chk, .regs] s t
        ∧ RegsKeptBut [Reg.CHK_START.ADDRESS u, Reg.CHK_LENGTH.BYTES u, Reg.CHK_FOLD.FOLD u, Reg.CHK_EXPECT.VALUE u, Reg.CHK_CTRL.POLY u,
            Reg.CHK_CTRL.FOLD_EN u, Reg.CHK_CTRL.COMPARE u, Reg.CHK_STATUS.BUSY u] s t)) ∧
  (∀ (u poly start len fold expect : Nat) (foldEn compare : Bool) (s : State), u < 4 → s.ownerUp u = true → s.flag (Reg.CHK_STATUS.BUSY u) = true →
    Answers (.chkGo u poly foldEn compare start len fold expect false) s (fun t =>
      t.get (Reg.CHK_STATUS.GO_LOST u) = 1 ∧ KeptBut [.regs] s t)) ∧
  (∀ (u poly start len fold expect : Nat) (foldEn compare : Bool) (s : State), u < 4 → s.ownerUp u = true → s.flag (Reg.CHK_STATUS.BUSY u) = false →
    rangeBad (start % 2 ^ 32) (len % 2 ^ 27) = true →
    Answers (.chkGo u poly foldEn compare start len fold expect false) s (fun t =>
      t.get (Reg.CHK_STATUS.DONE u) = 1 ∧ t.get (Reg.CHK_STATUS.ERROR u) = 1 ∧ t.get (Reg.CHK_RESULT.VALUE u) = 0 ∧ t.get (Reg.CHK_STATUS.MATCH u) = 0
        ∧ t.get (Reg.CHK_STATUS.BUSY u) = 0 ∧ KeptBut [.chk, .regs] s t)) ∧
  (∀ (u poly start len fold expect : Nat) (foldEn compare : Bool) (s : State), u < 4 → s.ownerUp u = true →
    Answers (.chkGo u poly foldEn compare start len fold expect true) s (fun t =>
      (s.flag (Reg.CHK_STATUS.BUSY u) = false → t.get (Reg.CHK_START.ADDRESS u) = start % 2 ^ 32 ∧ KeptBut [.regs] s t)
        ∧ (s.flag (Reg.CHK_STATUS.BUSY u) = true → t.chk.scans.find u = none ∧ t.get (Reg.CHK_STATUS.BUSY u) = 0 ∧ t.get (Reg.CHK_STATUS.ERROR u) = 5
          ∧ KeptBut [.now, .draws, .chk, .regs] s t))) ∧
  (∀ (u : Nat) (s : State), u < 4 → s.ownerUp u = true → s.flag (Reg.CHK_STATUS.BUSY u) = true →
    Answers (.chkAbort u) s (fun t =>
      s.now ≤ t.now ∧ t.now ≤ s.now + 16 ∧ t.chk.scans.find u = none ∧ t.get (Reg.CHK_STATUS.BUSY u) = 0 ∧ t.get (Reg.CHK_STATUS.DONE u) = 1
        ∧ t.get (Reg.CHK_STATUS.ERROR u) = 5 ∧ t.get (Reg.CHK_RESULT.VALUE u) = 0 ∧ t.get (Reg.CHK_STATUS.MATCH u) = 0
        ∧ KeptBut [.now, .draws, .chk, .regs] s t ∧ RegsKeptBut [Reg.CHK_STATUS.BUSY u, Reg.CHK_STATUS.DONE u, Reg.CHK_STATUS.ERROR u,
            Reg.CHK_RESULT.VALUE u, Reg.CHK_STATUS.MATCH u] s t)) ∧
  (∀ (u : Nat) (c : CheckScan) (s : State), u < 4 → s.chk.scans.find u = some c → s.offAddress c = none → s.armed (0x20 + u) = false →
    Answers (.chkScanDone u [] none) s (fun t =>
      let h := (s.until (c.at_ + s.scanTime c)).drawn
      let v := polyCrc c.poly ((match c.fold with | some f => le 4 f | none => []) ++ (List.range c.len).map (fun i => h.scanByte (c.start + i)))
      t.now = max s.now (c.at_ + s.scanTime c) ∧ t.chk.scans.find u = none ∧ t.get (Reg.CHK_STATUS.BUSY u) = 0 ∧ t.get (Reg.CHK_STATUS.DONE u) = 1
        ∧ t.get (Reg.CHK_STATUS.ERROR u) = 0 ∧ t.get (Reg.CHK_RESULT.VALUE u) = v % 2 ^ 32
        ∧ t.get (Reg.CHK_STATUS.MATCH u) = b2n (c.compare && v == c.expect)
        ∧ KeptBut [.now, .draws, .chk, .regs] s t ∧ RegsKeptBut [Reg.CHK_STATUS.BUSY u, Reg.CHK_STATUS.DONE u, Reg.CHK_STATUS.ERROR u,
            Reg.CHK_RESULT.VALUE u, Reg.CHK_STATUS.MATCH u] s t)) ∧
  (∀ (u a : Nat) (c : CheckScan) (s : State), u < 4 → s.chk.scans.find u = some c → s.offAddress c = none → c.start ≤ a → a < c.start + c.len →
    s.flt.windows = [] →
    Answers (.chkScanDone u [] (some (.bus a))) s (fun t =>
      t.chk.scans.find u = none ∧ t.get (Reg.CHK_STATUS.DONE u) = 1 ∧ t.get (Reg.CHK_STATUS.ERROR u) = 2 ∧ t.get (Reg.CHK_RESULT.VALUE u) = 0
        ∧ t.get (Reg.CHK_STATUS.MATCH u) = 0 ∧ t.flt.uncleared = s.flt.uncleared ++ [⟨s.flt.nextSeq, Src.busError, 2, a⟩]
        ∧ KeptBut [.now, .draws, .chk, .flt, .regs, .rings, .proto] s t)) ∧
  (∀ (k item : Nat) (w : Window) (s : State), s.flt.windows.find? (fun w => w.reaction == k && w.item == item) = some w → k ∈ [2, 3, 4, 6] →
    Answers (.reactionWindowClose k item) s (fun t =>
      s.now ≤ t.now ∧ (∀ x ∈ t.flt.windows, ¬ (x.reaction = k ∧ x.item = item))
        ∧ (k = 2 → t.now = (if s.get Reg.LNK_STATUS.INPUT = 2 then s.now else max s.now (w.opened + ms 250)) ∧ KeptBut [.now, .flt, .regs] s t)
        ∧ (k = 4 → t.now ≤ max s.now (w.opened + s.rebuildBound item))
        ∧ (k = 6 → w.opened + ms 10 ≤ t.now ∧ KeptBut [.now, .draws, .flt, .regs] s t
          ∧ (s.get Reg.SAF_LOCKOUT.CHANNEL = 2 → t.now ≤ max s.now (w.opened + ms 20))))) ∧
  (∀ (x n items : Nat) (s : State), s.crossingRuns x = true → n ≤ us 1800 →
    Answers (.crossingStall x n items) s (fun t => s.now ≤ t.now ∧ t.now ≤ s.now + n ∧ KeptBut [.now] s t)) ∧
  (∀ (x n items : Nat) (s : State), s.crossingRuns x = true → x ≠ 11 → x ≠ 13 → us 2200 ≤ n → s.flt.windows = [] →
    Answers (.crossingStall x n items) s (fun t =>
      t.now = s.now + n ∧ t.chk.resets.find x = some items ∧ bit (t.get Reg.CHK_XING_STALL.MAP) x = true
        ∧ t.flt.uncleared = s.flt.uncleared ++ [⟨s.flt.nextSeq, Src.crossingOverrun, 2, x⟩]
        ∧ (s.get (Reg.CHK_XING_FLUSH.COUNT x) + items < (Reg.CHK_XING_FLUSH.COUNT x).max →
            t.get (Reg.CHK_XING_FLUSH.COUNT x) = s.get (Reg.CHK_XING_FLUSH.COUNT x) + items)
        ∧ KeptBut [.now, .chk, .flt, .regs, .rings, .proto] s t)) ∧
  (∀ (x n items : Nat) (s : State), s.chk.resets.find x = some n → s.crossingPowered x = true → n + items = 0 →
    Answers (.crossingResetDone x items) s (fun t => t.chk.resets.find x = none ∧ t.chk.scans = s.chk.scans ∧ KeptBut [.chk] s t)) ∧
  (∀ (x items : Nat) (s : State), s.crossingPowered x = false → Answers (.crossingResetDone x items) s (fun t => t = s)) ∧
  (∀ (x n items : Nat) (s : State), s.chk.resets.find x = some n → s.crossingPowered x = true → n + items ≠ 0 →
    Answers (.crossingResetDone x items) s (fun t =>
      t.chk.resets.find x = none
        ∧ (s.get Reg.FLT_CORRECTED_COUNT.COUNT < Reg.FLT_CORRECTED_COUNT.COUNT.max → t.get Reg.FLT_CORRECTED_COUNT.COUNT = s.get Reg.FLT_CORRECTED_COUNT.COUNT + 1)
        ∧ KeptBut [.chk, .flt, .regs, .rings, .proto] s t))

/-! ### The start, the clocks, the module reset (01, 09, 14) -/

/-- R41, R455: VAUX above its reset band (after a monitor reset above its warning band for 1 ms) lets PD0 and PD12 leave reset, and the counter
starts. R12, R33, R421, R462, R557: with VCORE and VANA good the loader starts in pulse mode, the straps are sampled unless SYS_RESET reset the
module, the epoch is new after VAUX, a missing reference raises REFCLK_MISSING, and TEST_EN locks out. R42, R434, R219: once images, reference and
a temperature sweep are there, READY is reached with boundaries running, in the RAM store when external flash cannot be read. R34: a clock
difference below 1 % is no fault, one above 2 % is. R35: a forwarded clock that stops hands PLL_MAIN back within 200 µs and takes the link down.
R288: scope MODULE resets the controller and keeps the straps, the life-cycle state and lock-out; scope COMMAND_CORE empties the rings, drops
what was not committed, and leaves the rest running. R455, R456, R461, R563, R567: RESET_N, the supply monitors, a loss of VAUX and the crystal
act as their bands say. -/
def Obligations.StartsClocksAndModuleResetsAct : Prop :=
  (∀ (mv : Nat) (s : State), s.phase = .dark → s.pwr.heldReset ≠ 3 → 2890 < mv →
    Answers (.powerUp mv) s (fun t =>
      t.phase = .alwaysOn ∧ t.now = s.now ∧ t.supply 3 = mv ∧ t.clk.start = s.now ∧ t.ks.armAt = some s.now
        ∧ t.pwr = { Power.initial with onTime := s.pwr.onTime, onAt := s.now }
        ∧ KeptBut [.phase, .pads, .clk, .pwr, .ks, .scan, .regs] s t)) ∧
  (∀ (mv : Nat) (s : State), s.phase = .dark → s.pwr.heldReset = 3 → 3090 < mv →
    Answers (.powerUp mv) s (fun t =>
      t.phase = .alwaysOn ∧ t.now = s.now + ms 1 ∧ t.supply 3 = mv ∧ t.clk.start = s.now + ms 1
        ∧ t.pwr = { Power.initial with onTime := s.pwr.onTime, onAt := s.now + ms 1 }
        ∧ KeptBut [.now, .phase, .pads, .clk, .pwr, .ks, .scan, .regs] s t)) ∧
  (∀ (mv : Nat) (s : State), mv ≤ 2810 → Answers (.powerUp mv) s (fun t => t = s)) ∧
  (∀ (bootMode testEn refclk : Bool) (role vcore vana : Nat) (s : State), s.phase = .alwaysOn → s.coreGood vcore vana = true → s.flt.windows = [] →
    Answers (.controllerResetRelease bootMode role testEn refclk vcore vana) s (fun t =>
      t.phase = .loader ∧ t.mpUp = true ∧ t.now = max s.now s.pwr.heldUntil ∧ t.supply 1 = vcore ∧ t.supply 2 = vana
        ∧ (s.pwr.keepStraps = false → t.id.role = role % 4 ∧ t.id.legacy = bootMode
          ∧ (s.clk.epochDone = true → t.get Reg.CAS_STATUS.POSITION = role % 4 ∧ t.get Reg.CAS_STATUS.FOLLOWER = b2n (role % 4 != 0)))
        ∧ (s.pwr.keepStraps = true → t.id.role = s.id.role ∧ t.id.legacy = s.id.legacy) ∧ t.id.testEn = testEn
        ∧ t.get Reg.FLT_STATUS.PULSE_MODE = 1 ∧ t.pwr.heldReset = 0 ∧ t.pwr.keepStraps = false
        ∧ (s.clk.epochDone = false → t.epoch = (s.clk.epochStored + 1) % 65536 ∧ t.clk.epochStored = t.epoch ∧ t.clk.epochDone = true)
        ∧ (refclk = false → ∃ u ∈ t.flt.uncleared, u.source = Src.refclkMissing) ∧ (testEn = true → t.lockedOut = true)
        ∧ KeptBut [.now, .draws, .regs, .rings, .phase, .mpUp, .id, .pads, .clk, .proto, .flt, .ks, .locks, .pwr, .scan, .upd] s t)) ∧
  (∀ (bootMode testEn refclk : Bool) (role vcore vana : Nat) (s : State), s.coreGood vcore vana = false →
    Answers (.controllerResetRelease bootMode role testEn refclk vcore vana) s (fun t => t = s)) ∧
  (∀ (lost : List Nat) (readable : Bool) (s : State), s.phase = .cpBoot → s.pwr.wake = none → s.imagesRun = true → s.mpUp = true →
    s.pads.refclk = true → s.tmp.published.isSome = true →
    Answers (.startupReady lost readable) s (fun t =>
      t.phase = .service ∧ t.cpUp = true ∧ t.power = 2 ∧ t.get Reg.FLT_STATUS.PULSE_MODE = 0 ∧ t.scan.running = true ∧ s.now ≤ t.now
        ∧ ((s.flashFitted && readable) = false → t.get Reg.CMP_LIB_STATUS.RAM_STORE = 1 ∧ t.get Reg.CMP_LIB_STATUS.DIR_VALID = 0))) ∧
  (∀ (lost : List Nat) (readable : Bool) (s : State), s.imagesRun = false → Answers (.startupReady lost readable) s (fun t => t = s)) ∧
  (∀ (diff : Nat) (s : State), s.spUp = true → s.phase ≠ .dark → s.phase ≠ .alwaysOn → diff ≤ 99 →
    Answers (.clockCompareWindow diff) s (fun t => t.now = s.now + ms 1 ∧ KeptBut [.now] s t)) ∧
  (∀ (diff : Nat) (s : State), s.spUp = true → s.phase ≠ .dark → s.phase ≠ .alwaysOn → 201 ≤ diff → s.flt.windows = [] →
    Answers (.clockCompareWindow diff) s (fun t =>
      t.now = s.now + ms 1 ∧ t.flt.uncleared = s.flt.uncleared ++ [⟨s.flt.nextSeq, Src.clockCompare, 2, diff⟩]
        ∧ KeptBut [.now, .flt, .regs, .rings, .proto] s t)) ∧
  (∀ s : State, s.flag Reg.LNK_STATUS.REF_FWD = false → Answers .forwardedClockStop s (fun t => t = s)) ∧
  (∀ s : State, s.flag Reg.LNK_STATUS.REF_FWD = true → s.get Reg.LNK_TIMING.HOLD_MS ≠ 0 →
    Answers .forwardedClockStop s (fun t =>
      s.now ≤ t.now ∧ t.now ≤ s.now + us 200 ∧ t.get Reg.LNK_STATUS.REF_FWD = 0 ∧ t.get Reg.LNK_STATUS.STATE = 1
        ∧ (s.losable = true → t.get Reg.LNK_STATUS.INPUT = 3)
        ∧ (s.get Reg.FLT_CORRECTED_COUNT.COUNT < Reg.FLT_CORRECTED_COUNT.COUNT.max → s.get Reg.FLT_CORRECTED_COUNT.COUNT < t.get Reg.FLT_CORRECTED_COUNT.COUNT)
        ∧ KeptBut [.now, .draws, .regs, .rings, .proto, .flt, .link] s t)) ∧
  (∀ (t0 : Nat) (s : State), s.proto.resetDue = some (0, t0) →
    Answers .sysResetBegin s (fun t =>
      t.now = max s.now t0 ∧ t.phase = .alwaysOn ∧ t.cpUp = false ∧ t.mpUp = false ∧ t.spUp = false ∧ t.sram = [] ∧ t.rings = []
        ∧ t.aon = s.aon ∧ t.flash = s.flash ∧ (s.cal.writing = none → t.nvm = s.nvm) ∧ t.lockedOut = s.lockedOut
        ∧ t.id = s.id ∧ t.pads = s.pads ∧ t.pwr.keepStraps = true ∧ t.get Reg.SYS_RESET_CAUSE.CAUSE = 5 ∧ t.power = 2
        ∧ t.get Reg.SAF_STATUS.PERMIT = 0 ∧ t.proto.resetDue = none ∧ t.scan.sel = s.scan.sel ∧ t.scan.byp = s.scan.byp)) ∧
  (∀ (t0 : Nat) (s : State), s.proto.resetDue = some (1, t0) →
    Answers .sysResetBegin s (fun t =>
      t.now = max s.now t0 ∧ t.cpUp = false ∧ (∀ n < 16, t.ring n = []) ∧ (∀ n, 16 ≤ n → t.ring n = s.ring n)
        ∧ t.proto.history = [] ∧ t.proto.assembly = [] ∧ t.proto.resetDue = none ∧ t.beam.work = s.committed ∧ t.beam.front = s.beam.front
        ∧ t.beam.waiting = s.beam.waiting ∧ t.lib = { s.lib with install := none } ∧ (t.core 0).running = [] ∧ t.get Reg.SYS_RESET_CAUSE.CAUSE = 6
        ∧ t.get Reg.SYS_RESET_CAUSE.COUNT = min 65535 (s.get Reg.SYS_RESET_CAUSE.COUNT + 1)
        ∧ t.id = { s.id with lcNonce := s.free % 2 ^ 32 }
        ∧ KeptBut [.now, .draws, .id, .cpUp, .rings, .proto, .beam, .lib, .upd, .regs] s t
        ∧ RegsKeptBut ([Reg.BEAM_STATUS.LOADING, Reg.BEAM_STATUS.QUEUED, Reg.BEAM_LIST_SEQ.PENDING, Reg.CMP_LIB_STATUS.INSTALL,
            Reg.SYS_RESET_CAUSE.CAUSE, Reg.SYS_RESET_CAUSE.COUNT, Reg.CMP_STATUS.QUEUED, Reg.CMP_STATUS.BUILD]
            ++ (List.range 8).flatMap (fun n => [Reg.CMP_LAYER_STATUS.STAGED n, Reg.CMP_LAYER_STATUS.FLIP_PENDING n])) s t)) ∧
  (∀ s : State, s.proto.resetDue = none → Answers .sysResetBegin s (fun t => t = s)) ∧
  (∀ (n : Nat) (s : State), s.phase ≠ .dark → 1000 ≤ n →
    Answers (.resetNLow n) s (fun t => t.phase = .alwaysOn ∧ t.now = s.now + n ∧ t.get Reg.SYS_RESET_CAUSE.CAUSE = 1)) ∧
  (∀ (mv : Nat) (s : State), s.phase ≠ .dark → mv ≤ 720 →
    Answers (.supplyMonitorReset 1 mv) s (fun t => t.phase = .alwaysOn ∧ t.now = s.now + us 2 ∧ t.get Reg.SYS_RESET_CAUSE.CAUSE = 2)) ∧
  (∀ s : State, s.phase ≠ .dark → Answers .vauxLoss s (fun t => t.phase = .dark ∧ t.flash = s.flash ∧ t.sram = [] ∧ t.aon = [])) ∧
  (∀ s : State, s.phase ≠ .dark → s.flag Reg.PWR_TIME_STATUS.XTAL = true →
    Answers (.xtalStop 4) s (fun t => t.flag Reg.PWR_TIME_STATUS.XTAL = false ∧ t.timeErr = min 0xFFFFFFFF (s.timeErr + 61))) ∧
  (∀ s : State, s.phase ≠ .dark → s.flag Reg.PWR_TIME_STATUS.XTAL = false →
    Answers .xtalReturn s (fun t => t.flag Reg.PWR_TIME_STATUS.XTAL = true ∧ t.now = s.now + 3125000))
end

