-- ==== Sys2Proof/Laws/Crc.lean ====
section
/-! SUPPORT. The reflected checks stay below 2^32. -/

namespace Sys2Proof.Machine

theorem crcLsbShift_lt (poly : Nat) (hp : poly < 2 ^ 32) : ∀ k c : Nat, c < 2 ^ 32 → crcLsbShift poly k c < 2 ^ 32 := by
  intro k
  induction k with
  | zero => intro c h; exact h
  | succ k ih =>
    intro c h
    unfold crcLsbShift
    apply ih
    split
    · exact Nat.xor_lt_two_pow (by omega) hp
    · omega

theorem crcLsb_lt (poly : Nat) (hp : poly < 2 ^ 32) (bs : List Byte) : ∀ c : Nat, c < 2 ^ 32 → crcLsb poly c bs < 2 ^ 32 := by
  induction bs with
  | nil => intro c h; exact h
  | cons b bs ih =>
    intro c h
    exact ih _ (crcLsbShift_lt poly hp 8 _ (Nat.xor_lt_two_pow h (by have := b.isLt; omega)))

theorem crc32c_lt (bs : List Byte) : crc32c bs < 2 ^ 32 :=
  Nat.xor_lt_two_pow (crcLsb_lt _ (by decide) bs _ (by decide)) (by decide)

theorem crc32cFold_lt (f : Nat) (bs : List Byte) : crc32cFold f bs < 2 ^ 32 := crc32c_lt _

end Sys2Proof.Machine
end

