-- ==== Sys2Proof/Laws/State.lean ====
section
/-! SUPPORT. One lemma per field per update of the state, so that no proof unfolds a record update. -/

namespace Sys2Proof.Machine

section
variable (s : State) (b : Buses)
@[simp] theorem State.setBus_now : (s.setBus b).now = s.now := rfl
@[simp] theorem State.setBus_pending : (s.setBus b).pending = s.pending := rfl
@[simp] theorem State.setBus_draws : (s.setBus b).draws = s.draws := rfl
@[simp] theorem State.setBus_regs : (s.setBus b).regs = s.regs := rfl
@[simp] theorem State.setBus_latches : (s.setBus b).latches = s.latches := rfl
@[simp] theorem State.setBus_sram : (s.setBus b).sram = s.sram := rfl
@[simp] theorem State.setBus_aon : (s.setBus b).aon = s.aon := rfl
@[simp] theorem State.setBus_nvm : (s.setBus b).nvm = s.nvm := rfl
@[simp] theorem State.setBus_flash : (s.setBus b).flash = s.flash := rfl
@[simp] theorem State.setBus_rings : (s.setBus b).rings = s.rings := rfl
@[simp] theorem State.setBus_phase : (s.setBus b).phase = s.phase := rfl
@[simp] theorem State.setBus_cpUp : (s.setBus b).cpUp = s.cpUp := rfl
@[simp] theorem State.setBus_mpUp : (s.setBus b).mpUp = s.mpUp := rfl
@[simp] theorem State.setBus_spUp : (s.setBus b).spUp = s.spUp := rfl
@[simp] theorem State.setBus_id : (s.setBus b).id = s.id := rfl
@[simp] theorem State.setBus_pads : (s.setBus b).pads = s.pads := rfl
@[simp] theorem State.setBus_clk : (s.setBus b).clk = s.clk := rfl
@[simp] theorem State.setBus_proto : (s.setBus b).proto = s.proto := rfl
@[simp] theorem State.setBus_flt : (s.setBus b).flt = s.flt := rfl
@[simp] theorem State.setBus_ks : (s.setBus b).ks = s.ks := rfl
@[simp] theorem State.setBus_sp : (s.setBus b).sp = s.sp := rfl
@[simp] theorem State.setBus_com : (s.setBus b).com = s.com := rfl
@[simp] theorem State.setBus_locks : (s.setBus b).locks = s.locks := rfl
@[simp] theorem State.setBus_pwr : (s.setBus b).pwr = s.pwr := rfl
@[simp] theorem State.setBus_scan : (s.setBus b).scan = s.scan := rfl
@[simp] theorem State.setBus_beam : (s.setBus b).beam = s.beam := rfl
@[simp] theorem State.setBus_lib : (s.setBus b).lib = s.lib := rfl
@[simp] theorem State.setBus_link : (s.setBus b).link = s.link := rfl
@[simp] theorem State.setBus_casc : (s.setBus b).casc = s.casc := rfl
@[simp] theorem State.setBus_bus : (s.setBus b).bus = b := rfl
@[simp] theorem State.setBus_cal : (s.setBus b).cal = s.cal := rfl
@[simp] theorem State.setBus_diag : (s.setBus b).diag = s.diag := rfl
@[simp] theorem State.setBus_sns : (s.setBus b).sns = s.sns := rfl
@[simp] theorem State.setBus_tmp : (s.setBus b).tmp = s.tmp := rfl
@[simp] theorem State.setBus_bst : (s.setBus b).bst = s.bst := rfl
@[simp] theorem State.setBus_upd : (s.setBus b).upd = s.upd := rfl
@[simp] theorem State.setBus_chk : (s.setBus b).chk = s.chk := rfl
@[simp] theorem State.setBus_saved : (s.setBus b).saved = s.saved := rfl
end

section
variable (s : State) (c : Calib)
@[simp] theorem State.setCal_now : (s.setCal c).now = s.now := rfl
@[simp] theorem State.setCal_pending : (s.setCal c).pending = s.pending := rfl
@[simp] theorem State.setCal_draws : (s.setCal c).draws = s.draws := rfl
@[simp] theorem State.setCal_regs : (s.setCal c).regs = s.regs := rfl
@[simp] theorem State.setCal_latches : (s.setCal c).latches = s.latches := rfl
@[simp] theorem State.setCal_sram : (s.setCal c).sram = s.sram := rfl
@[simp] theorem State.setCal_aon : (s.setCal c).aon = s.aon := rfl
@[simp] theorem State.setCal_nvm : (s.setCal c).nvm = s.nvm := rfl
@[simp] theorem State.setCal_flash : (s.setCal c).flash = s.flash := rfl
@[simp] theorem State.setCal_rings : (s.setCal c).rings = s.rings := rfl
@[simp] theorem State.setCal_phase : (s.setCal c).phase = s.phase := rfl
@[simp] theorem State.setCal_cpUp : (s.setCal c).cpUp = s.cpUp := rfl
@[simp] theorem State.setCal_mpUp : (s.setCal c).mpUp = s.mpUp := rfl
@[simp] theorem State.setCal_spUp : (s.setCal c).spUp = s.spUp := rfl
@[simp] theorem State.setCal_id : (s.setCal c).id = s.id := rfl
@[simp] theorem State.setCal_pads : (s.setCal c).pads = s.pads := rfl
@[simp] theorem State.setCal_clk : (s.setCal c).clk = s.clk := rfl
@[simp] theorem State.setCal_proto : (s.setCal c).proto = s.proto := rfl
@[simp] theorem State.setCal_flt : (s.setCal c).flt = s.flt := rfl
@[simp] theorem State.setCal_ks : (s.setCal c).ks = s.ks := rfl
@[simp] theorem State.setCal_sp : (s.setCal c).sp = s.sp := rfl
@[simp] theorem State.setCal_com : (s.setCal c).com = s.com := rfl
@[simp] theorem State.setCal_locks : (s.setCal c).locks = s.locks := rfl
@[simp] theorem State.setCal_pwr : (s.setCal c).pwr = s.pwr := rfl
@[simp] theorem State.setCal_scan : (s.setCal c).scan = s.scan := rfl
@[simp] theorem State.setCal_beam : (s.setCal c).beam = s.beam := rfl
@[simp] theorem State.setCal_lib : (s.setCal c).lib = s.lib := rfl
@[simp] theorem State.setCal_link : (s.setCal c).link = s.link := rfl
@[simp] theorem State.setCal_casc : (s.setCal c).casc = s.casc := rfl
@[simp] theorem State.setCal_bus : (s.setCal c).bus = s.bus := rfl
@[simp] theorem State.setCal_cal : (s.setCal c).cal = c := rfl
@[simp] theorem State.setCal_diag : (s.setCal c).diag = s.diag := rfl
@[simp] theorem State.setCal_sns : (s.setCal c).sns = s.sns := rfl
@[simp] theorem State.setCal_tmp : (s.setCal c).tmp = s.tmp := rfl
@[simp] theorem State.setCal_bst : (s.setCal c).bst = s.bst := rfl
@[simp] theorem State.setCal_upd : (s.setCal c).upd = s.upd := rfl
@[simp] theorem State.setCal_chk : (s.setCal c).chk = s.chk := rfl
@[simp] theorem State.setCal_saved : (s.setCal c).saved = s.saved := rfl
end

section
variable (s : State) (d : Diag)
@[simp] theorem State.setDiag_now : (s.setDiag d).now = s.now := rfl
@[simp] theorem State.setDiag_pending : (s.setDiag d).pending = s.pending := rfl
@[simp] theorem State.setDiag_draws : (s.setDiag d).draws = s.draws := rfl
@[simp] theorem State.setDiag_regs : (s.setDiag d).regs = s.regs := rfl
@[simp] theorem State.setDiag_latches : (s.setDiag d).latches = s.latches := rfl
@[simp] theorem State.setDiag_sram : (s.setDiag d).sram = s.sram := rfl
@[simp] theorem State.setDiag_aon : (s.setDiag d).aon = s.aon := rfl
@[simp] theorem State.setDiag_nvm : (s.setDiag d).nvm = s.nvm := rfl
@[simp] theorem State.setDiag_flash : (s.setDiag d).flash = s.flash := rfl
@[simp] theorem State.setDiag_rings : (s.setDiag d).rings = s.rings := rfl
@[simp] theorem State.setDiag_phase : (s.setDiag d).phase = s.phase := rfl
@[simp] theorem State.setDiag_cpUp : (s.setDiag d).cpUp = s.cpUp := rfl
@[simp] theorem State.setDiag_mpUp : (s.setDiag d).mpUp = s.mpUp := rfl
@[simp] theorem State.setDiag_spUp : (s.setDiag d).spUp = s.spUp := rfl
@[simp] theorem State.setDiag_id : (s.setDiag d).id = s.id := rfl
@[simp] theorem State.setDiag_pads : (s.setDiag d).pads = s.pads := rfl
@[simp] theorem State.setDiag_clk : (s.setDiag d).clk = s.clk := rfl
@[simp] theorem State.setDiag_proto : (s.setDiag d).proto = s.proto := rfl
@[simp] theorem State.setDiag_flt : (s.setDiag d).flt = s.flt := rfl
@[simp] theorem State.setDiag_ks : (s.setDiag d).ks = s.ks := rfl
@[simp] theorem State.setDiag_sp : (s.setDiag d).sp = s.sp := rfl
@[simp] theorem State.setDiag_com : (s.setDiag d).com = s.com := rfl
@[simp] theorem State.setDiag_locks : (s.setDiag d).locks = s.locks := rfl
@[simp] theorem State.setDiag_pwr : (s.setDiag d).pwr = s.pwr := rfl
@[simp] theorem State.setDiag_scan : (s.setDiag d).scan = s.scan := rfl
@[simp] theorem State.setDiag_beam : (s.setDiag d).beam = s.beam := rfl
@[simp] theorem State.setDiag_lib : (s.setDiag d).lib = s.lib := rfl
@[simp] theorem State.setDiag_link : (s.setDiag d).link = s.link := rfl
@[simp] theorem State.setDiag_casc : (s.setDiag d).casc = s.casc := rfl
@[simp] theorem State.setDiag_bus : (s.setDiag d).bus = s.bus := rfl
@[simp] theorem State.setDiag_cal : (s.setDiag d).cal = s.cal := rfl
@[simp] theorem State.setDiag_diag : (s.setDiag d).diag = d := rfl
@[simp] theorem State.setDiag_sns : (s.setDiag d).sns = s.sns := rfl
@[simp] theorem State.setDiag_tmp : (s.setDiag d).tmp = s.tmp := rfl
@[simp] theorem State.setDiag_bst : (s.setDiag d).bst = s.bst := rfl
@[simp] theorem State.setDiag_upd : (s.setDiag d).upd = s.upd := rfl
@[simp] theorem State.setDiag_chk : (s.setDiag d).chk = s.chk := rfl
@[simp] theorem State.setDiag_saved : (s.setDiag d).saved = s.saved := rfl
end

section
variable (s : State) (x : Sensing)
@[simp] theorem State.setSns_now : (s.setSns x).now = s.now := rfl
@[simp] theorem State.setSns_pending : (s.setSns x).pending = s.pending := rfl
@[simp] theorem State.setSns_draws : (s.setSns x).draws = s.draws := rfl
@[simp] theorem State.setSns_regs : (s.setSns x).regs = s.regs := rfl
@[simp] theorem State.setSns_latches : (s.setSns x).latches = s.latches := rfl
@[simp] theorem State.setSns_sram : (s.setSns x).sram = s.sram := rfl
@[simp] theorem State.setSns_aon : (s.setSns x).aon = s.aon := rfl
@[simp] theorem State.setSns_nvm : (s.setSns x).nvm = s.nvm := rfl
@[simp] theorem State.setSns_flash : (s.setSns x).flash = s.flash := rfl
@[simp] theorem State.setSns_rings : (s.setSns x).rings = s.rings := rfl
@[simp] theorem State.setSns_phase : (s.setSns x).phase = s.phase := rfl
@[simp] theorem State.setSns_cpUp : (s.setSns x).cpUp = s.cpUp := rfl
@[simp] theorem State.setSns_mpUp : (s.setSns x).mpUp = s.mpUp := rfl
@[simp] theorem State.setSns_spUp : (s.setSns x).spUp = s.spUp := rfl
@[simp] theorem State.setSns_id : (s.setSns x).id = s.id := rfl
@[simp] theorem State.setSns_pads : (s.setSns x).pads = s.pads := rfl
@[simp] theorem State.setSns_clk : (s.setSns x).clk = s.clk := rfl
@[simp] theorem State.setSns_proto : (s.setSns x).proto = s.proto := rfl
@[simp] theorem State.setSns_flt : (s.setSns x).flt = s.flt := rfl
@[simp] theorem State.setSns_ks : (s.setSns x).ks = s.ks := rfl
@[simp] theorem State.setSns_sp : (s.setSns x).sp = s.sp := rfl
@[simp] theorem State.setSns_com : (s.setSns x).com = s.com := rfl
@[simp] theorem State.setSns_locks : (s.setSns x).locks = s.locks := rfl
@[simp] theorem State.setSns_pwr : (s.setSns x).pwr = s.pwr := rfl
@[simp] theorem State.setSns_scan : (s.setSns x).scan = s.scan := rfl
@[simp] theorem State.setSns_beam : (s.setSns x).beam = s.beam := rfl
@[simp] theorem State.setSns_lib : (s.setSns x).lib = s.lib := rfl
@[simp] theorem State.setSns_link : (s.setSns x).link = s.link := rfl
@[simp] theorem State.setSns_casc : (s.setSns x).casc = s.casc := rfl
@[simp] theorem State.setSns_bus : (s.setSns x).bus = s.bus := rfl
@[simp] theorem State.setSns_cal : (s.setSns x).cal = s.cal := rfl
@[simp] theorem State.setSns_diag : (s.setSns x).diag = s.diag := rfl
@[simp] theorem State.setSns_sns : (s.setSns x).sns = x := rfl
@[simp] theorem State.setSns_tmp : (s.setSns x).tmp = s.tmp := rfl
@[simp] theorem State.setSns_bst : (s.setSns x).bst = s.bst := rfl
@[simp] theorem State.setSns_upd : (s.setSns x).upd = s.upd := rfl
@[simp] theorem State.setSns_chk : (s.setSns x).chk = s.chk := rfl
@[simp] theorem State.setSns_saved : (s.setSns x).saved = s.saved := rfl
end

section
variable (s : State) (x : Thermal)
@[simp] theorem State.setTmp_now : (s.setTmp x).now = s.now := rfl
@[simp] theorem State.setTmp_pending : (s.setTmp x).pending = s.pending := rfl
@[simp] theorem State.setTmp_draws : (s.setTmp x).draws = s.draws := rfl
@[simp] theorem State.setTmp_regs : (s.setTmp x).regs = s.regs := rfl
@[simp] theorem State.setTmp_latches : (s.setTmp x).latches = s.latches := rfl
@[simp] theorem State.setTmp_sram : (s.setTmp x).sram = s.sram := rfl
@[simp] theorem State.setTmp_aon : (s.setTmp x).aon = s.aon := rfl
@[simp] theorem State.setTmp_nvm : (s.setTmp x).nvm = s.nvm := rfl
@[simp] theorem State.setTmp_flash : (s.setTmp x).flash = s.flash := rfl
@[simp] theorem State.setTmp_rings : (s.setTmp x).rings = s.rings := rfl
@[simp] theorem State.setTmp_phase : (s.setTmp x).phase = s.phase := rfl
@[simp] theorem State.setTmp_cpUp : (s.setTmp x).cpUp = s.cpUp := rfl
@[simp] theorem State.setTmp_mpUp : (s.setTmp x).mpUp = s.mpUp := rfl
@[simp] theorem State.setTmp_spUp : (s.setTmp x).spUp = s.spUp := rfl
@[simp] theorem State.setTmp_id : (s.setTmp x).id = s.id := rfl
@[simp] theorem State.setTmp_pads : (s.setTmp x).pads = s.pads := rfl
@[simp] theorem State.setTmp_clk : (s.setTmp x).clk = s.clk := rfl
@[simp] theorem State.setTmp_proto : (s.setTmp x).proto = s.proto := rfl
@[simp] theorem State.setTmp_flt : (s.setTmp x).flt = s.flt := rfl
@[simp] theorem State.setTmp_ks : (s.setTmp x).ks = s.ks := rfl
@[simp] theorem State.setTmp_sp : (s.setTmp x).sp = s.sp := rfl
@[simp] theorem State.setTmp_com : (s.setTmp x).com = s.com := rfl
@[simp] theorem State.setTmp_locks : (s.setTmp x).locks = s.locks := rfl
@[simp] theorem State.setTmp_pwr : (s.setTmp x).pwr = s.pwr := rfl
@[simp] theorem State.setTmp_scan : (s.setTmp x).scan = s.scan := rfl
@[simp] theorem State.setTmp_beam : (s.setTmp x).beam = s.beam := rfl
@[simp] theorem State.setTmp_lib : (s.setTmp x).lib = s.lib := rfl
@[simp] theorem State.setTmp_link : (s.setTmp x).link = s.link := rfl
@[simp] theorem State.setTmp_casc : (s.setTmp x).casc = s.casc := rfl
@[simp] theorem State.setTmp_bus : (s.setTmp x).bus = s.bus := rfl
@[simp] theorem State.setTmp_cal : (s.setTmp x).cal = s.cal := rfl
@[simp] theorem State.setTmp_diag : (s.setTmp x).diag = s.diag := rfl
@[simp] theorem State.setTmp_sns : (s.setTmp x).sns = s.sns := rfl
@[simp] theorem State.setTmp_tmp : (s.setTmp x).tmp = x := rfl
@[simp] theorem State.setTmp_bst : (s.setTmp x).bst = s.bst := rfl
@[simp] theorem State.setTmp_upd : (s.setTmp x).upd = s.upd := rfl
@[simp] theorem State.setTmp_chk : (s.setTmp x).chk = s.chk := rfl
@[simp] theorem State.setTmp_saved : (s.setTmp x).saved = s.saved := rfl
end

section
variable (s : State) (l : Link)
@[simp] theorem State.setLink_now : (s.setLink l).now = s.now := rfl
@[simp] theorem State.setLink_pending : (s.setLink l).pending = s.pending := rfl
@[simp] theorem State.setLink_draws : (s.setLink l).draws = s.draws := rfl
@[simp] theorem State.setLink_regs : (s.setLink l).regs = s.regs := rfl
@[simp] theorem State.setLink_latches : (s.setLink l).latches = s.latches := rfl
@[simp] theorem State.setLink_sram : (s.setLink l).sram = s.sram := rfl
@[simp] theorem State.setLink_aon : (s.setLink l).aon = s.aon := rfl
@[simp] theorem State.setLink_nvm : (s.setLink l).nvm = s.nvm := rfl
@[simp] theorem State.setLink_flash : (s.setLink l).flash = s.flash := rfl
@[simp] theorem State.setLink_rings : (s.setLink l).rings = s.rings := rfl
@[simp] theorem State.setLink_phase : (s.setLink l).phase = s.phase := rfl
@[simp] theorem State.setLink_cpUp : (s.setLink l).cpUp = s.cpUp := rfl
@[simp] theorem State.setLink_mpUp : (s.setLink l).mpUp = s.mpUp := rfl
@[simp] theorem State.setLink_spUp : (s.setLink l).spUp = s.spUp := rfl
@[simp] theorem State.setLink_id : (s.setLink l).id = s.id := rfl
@[simp] theorem State.setLink_pads : (s.setLink l).pads = s.pads := rfl
@[simp] theorem State.setLink_clk : (s.setLink l).clk = s.clk := rfl
@[simp] theorem State.setLink_proto : (s.setLink l).proto = s.proto := rfl
@[simp] theorem State.setLink_flt : (s.setLink l).flt = s.flt := rfl
@[simp] theorem State.setLink_ks : (s.setLink l).ks = s.ks := rfl
@[simp] theorem State.setLink_sp : (s.setLink l).sp = s.sp := rfl
@[simp] theorem State.setLink_com : (s.setLink l).com = s.com := rfl
@[simp] theorem State.setLink_locks : (s.setLink l).locks = s.locks := rfl
@[simp] theorem State.setLink_pwr : (s.setLink l).pwr = s.pwr := rfl
@[simp] theorem State.setLink_scan : (s.setLink l).scan = s.scan := rfl
@[simp] theorem State.setLink_beam : (s.setLink l).beam = s.beam := rfl
@[simp] theorem State.setLink_lib : (s.setLink l).lib = s.lib := rfl
@[simp] theorem State.setLink_link : (s.setLink l).link = l := rfl
@[simp] theorem State.setLink_casc : (s.setLink l).casc = s.casc := rfl
@[simp] theorem State.setLink_bus : (s.setLink l).bus = s.bus := rfl
@[simp] theorem State.setLink_cal : (s.setLink l).cal = s.cal := rfl
@[simp] theorem State.setLink_diag : (s.setLink l).diag = s.diag := rfl
@[simp] theorem State.setLink_sns : (s.setLink l).sns = s.sns := rfl
@[simp] theorem State.setLink_tmp : (s.setLink l).tmp = s.tmp := rfl
@[simp] theorem State.setLink_bst : (s.setLink l).bst = s.bst := rfl
@[simp] theorem State.setLink_upd : (s.setLink l).upd = s.upd := rfl
@[simp] theorem State.setLink_chk : (s.setLink l).chk = s.chk := rfl
@[simp] theorem State.setLink_saved : (s.setLink l).saved = s.saved := rfl
end

section
variable (s : State) (c : Cascade)
@[simp] theorem State.setCasc_now : (s.setCasc c).now = s.now := rfl
@[simp] theorem State.setCasc_pending : (s.setCasc c).pending = s.pending := rfl
@[simp] theorem State.setCasc_draws : (s.setCasc c).draws = s.draws := rfl
@[simp] theorem State.setCasc_regs : (s.setCasc c).regs = s.regs := rfl
@[simp] theorem State.setCasc_latches : (s.setCasc c).latches = s.latches := rfl
@[simp] theorem State.setCasc_sram : (s.setCasc c).sram = s.sram := rfl
@[simp] theorem State.setCasc_aon : (s.setCasc c).aon = s.aon := rfl
@[simp] theorem State.setCasc_nvm : (s.setCasc c).nvm = s.nvm := rfl
@[simp] theorem State.setCasc_flash : (s.setCasc c).flash = s.flash := rfl
@[simp] theorem State.setCasc_rings : (s.setCasc c).rings = s.rings := rfl
@[simp] theorem State.setCasc_phase : (s.setCasc c).phase = s.phase := rfl
@[simp] theorem State.setCasc_cpUp : (s.setCasc c).cpUp = s.cpUp := rfl
@[simp] theorem State.setCasc_mpUp : (s.setCasc c).mpUp = s.mpUp := rfl
@[simp] theorem State.setCasc_spUp : (s.setCasc c).spUp = s.spUp := rfl
@[simp] theorem State.setCasc_id : (s.setCasc c).id = s.id := rfl
@[simp] theorem State.setCasc_pads : (s.setCasc c).pads = s.pads := rfl
@[simp] theorem State.setCasc_clk : (s.setCasc c).clk = s.clk := rfl
@[simp] theorem State.setCasc_proto : (s.setCasc c).proto = s.proto := rfl
@[simp] theorem State.setCasc_flt : (s.setCasc c).flt = s.flt := rfl
@[simp] theorem State.setCasc_ks : (s.setCasc c).ks = s.ks := rfl
@[simp] theorem State.setCasc_sp : (s.setCasc c).sp = s.sp := rfl
@[simp] theorem State.setCasc_com : (s.setCasc c).com = s.com := rfl
@[simp] theorem State.setCasc_locks : (s.setCasc c).locks = s.locks := rfl
@[simp] theorem State.setCasc_pwr : (s.setCasc c).pwr = s.pwr := rfl
@[simp] theorem State.setCasc_scan : (s.setCasc c).scan = s.scan := rfl
@[simp] theorem State.setCasc_beam : (s.setCasc c).beam = s.beam := rfl
@[simp] theorem State.setCasc_lib : (s.setCasc c).lib = s.lib := rfl
@[simp] theorem State.setCasc_link : (s.setCasc c).link = s.link := rfl
@[simp] theorem State.setCasc_casc : (s.setCasc c).casc = c := rfl
@[simp] theorem State.setCasc_bus : (s.setCasc c).bus = s.bus := rfl
@[simp] theorem State.setCasc_cal : (s.setCasc c).cal = s.cal := rfl
@[simp] theorem State.setCasc_diag : (s.setCasc c).diag = s.diag := rfl
@[simp] theorem State.setCasc_sns : (s.setCasc c).sns = s.sns := rfl
@[simp] theorem State.setCasc_tmp : (s.setCasc c).tmp = s.tmp := rfl
@[simp] theorem State.setCasc_bst : (s.setCasc c).bst = s.bst := rfl
@[simp] theorem State.setCasc_upd : (s.setCasc c).upd = s.upd := rfl
@[simp] theorem State.setCasc_chk : (s.setCasc c).chk = s.chk := rfl
@[simp] theorem State.setCasc_saved : (s.setCasc c).saved = s.saved := rfl
end

section
variable (s : State) (b : Beam)
@[simp] theorem State.setBeam_now : (s.setBeam b).now = s.now := rfl
@[simp] theorem State.setBeam_pending : (s.setBeam b).pending = s.pending := rfl
@[simp] theorem State.setBeam_draws : (s.setBeam b).draws = s.draws := rfl
@[simp] theorem State.setBeam_regs : (s.setBeam b).regs = s.regs := rfl
@[simp] theorem State.setBeam_latches : (s.setBeam b).latches = s.latches := rfl
@[simp] theorem State.setBeam_sram : (s.setBeam b).sram = s.sram := rfl
@[simp] theorem State.setBeam_aon : (s.setBeam b).aon = s.aon := rfl
@[simp] theorem State.setBeam_nvm : (s.setBeam b).nvm = s.nvm := rfl
@[simp] theorem State.setBeam_flash : (s.setBeam b).flash = s.flash := rfl
@[simp] theorem State.setBeam_rings : (s.setBeam b).rings = s.rings := rfl
@[simp] theorem State.setBeam_phase : (s.setBeam b).phase = s.phase := rfl
@[simp] theorem State.setBeam_cpUp : (s.setBeam b).cpUp = s.cpUp := rfl
@[simp] theorem State.setBeam_mpUp : (s.setBeam b).mpUp = s.mpUp := rfl
@[simp] theorem State.setBeam_spUp : (s.setBeam b).spUp = s.spUp := rfl
@[simp] theorem State.setBeam_id : (s.setBeam b).id = s.id := rfl
@[simp] theorem State.setBeam_pads : (s.setBeam b).pads = s.pads := rfl
@[simp] theorem State.setBeam_clk : (s.setBeam b).clk = s.clk := rfl
@[simp] theorem State.setBeam_proto : (s.setBeam b).proto = s.proto := rfl
@[simp] theorem State.setBeam_flt : (s.setBeam b).flt = s.flt := rfl
@[simp] theorem State.setBeam_ks : (s.setBeam b).ks = s.ks := rfl
@[simp] theorem State.setBeam_sp : (s.setBeam b).sp = s.sp := rfl
@[simp] theorem State.setBeam_com : (s.setBeam b).com = s.com := rfl
@[simp] theorem State.setBeam_locks : (s.setBeam b).locks = s.locks := rfl
@[simp] theorem State.setBeam_pwr : (s.setBeam b).pwr = s.pwr := rfl
@[simp] theorem State.setBeam_scan : (s.setBeam b).scan = s.scan := rfl
@[simp] theorem State.setBeam_beam : (s.setBeam b).beam = b := rfl
@[simp] theorem State.setBeam_lib : (s.setBeam b).lib = s.lib := rfl
@[simp] theorem State.setBeam_link : (s.setBeam b).link = s.link := rfl
@[simp] theorem State.setBeam_casc : (s.setBeam b).casc = s.casc := rfl
@[simp] theorem State.setBeam_bus : (s.setBeam b).bus = s.bus := rfl
@[simp] theorem State.setBeam_cal : (s.setBeam b).cal = s.cal := rfl
@[simp] theorem State.setBeam_diag : (s.setBeam b).diag = s.diag := rfl
@[simp] theorem State.setBeam_sns : (s.setBeam b).sns = s.sns := rfl
@[simp] theorem State.setBeam_tmp : (s.setBeam b).tmp = s.tmp := rfl
@[simp] theorem State.setBeam_bst : (s.setBeam b).bst = s.bst := rfl
@[simp] theorem State.setBeam_upd : (s.setBeam b).upd = s.upd := rfl
@[simp] theorem State.setBeam_chk : (s.setBeam b).chk = s.chk := rfl
@[simp] theorem State.setBeam_saved : (s.setBeam b).saved = s.saved := rfl
end

section
variable (s : State) (b : SelfTest)
@[simp] theorem State.setBst_now : (s.setBst b).now = s.now := rfl
@[simp] theorem State.setBst_pending : (s.setBst b).pending = s.pending := rfl
@[simp] theorem State.setBst_draws : (s.setBst b).draws = s.draws := rfl
@[simp] theorem State.setBst_regs : (s.setBst b).regs = s.regs := rfl
@[simp] theorem State.setBst_latches : (s.setBst b).latches = s.latches := rfl
@[simp] theorem State.setBst_sram : (s.setBst b).sram = s.sram := rfl
@[simp] theorem State.setBst_aon : (s.setBst b).aon = s.aon := rfl
@[simp] theorem State.setBst_nvm : (s.setBst b).nvm = s.nvm := rfl
@[simp] theorem State.setBst_flash : (s.setBst b).flash = s.flash := rfl
@[simp] theorem State.setBst_rings : (s.setBst b).rings = s.rings := rfl
@[simp] theorem State.setBst_phase : (s.setBst b).phase = s.phase := rfl
@[simp] theorem State.setBst_cpUp : (s.setBst b).cpUp = s.cpUp := rfl
@[simp] theorem State.setBst_mpUp : (s.setBst b).mpUp = s.mpUp := rfl
@[simp] theorem State.setBst_spUp : (s.setBst b).spUp = s.spUp := rfl
@[simp] theorem State.setBst_id : (s.setBst b).id = s.id := rfl
@[simp] theorem State.setBst_pads : (s.setBst b).pads = s.pads := rfl
@[simp] theorem State.setBst_clk : (s.setBst b).clk = s.clk := rfl
@[simp] theorem State.setBst_proto : (s.setBst b).proto = s.proto := rfl
@[simp] theorem State.setBst_flt : (s.setBst b).flt = s.flt := rfl
@[simp] theorem State.setBst_ks : (s.setBst b).ks = s.ks := rfl
@[simp] theorem State.setBst_sp : (s.setBst b).sp = s.sp := rfl
@[simp] theorem State.setBst_com : (s.setBst b).com = s.com := rfl
@[simp] theorem State.setBst_locks : (s.setBst b).locks = s.locks := rfl
@[simp] theorem State.setBst_pwr : (s.setBst b).pwr = s.pwr := rfl
@[simp] theorem State.setBst_scan : (s.setBst b).scan = s.scan := rfl
@[simp] theorem State.setBst_beam : (s.setBst b).beam = s.beam := rfl
@[simp] theorem State.setBst_lib : (s.setBst b).lib = s.lib := rfl
@[simp] theorem State.setBst_link : (s.setBst b).link = s.link := rfl
@[simp] theorem State.setBst_casc : (s.setBst b).casc = s.casc := rfl
@[simp] theorem State.setBst_bus : (s.setBst b).bus = s.bus := rfl
@[simp] theorem State.setBst_cal : (s.setBst b).cal = s.cal := rfl
@[simp] theorem State.setBst_diag : (s.setBst b).diag = s.diag := rfl
@[simp] theorem State.setBst_sns : (s.setBst b).sns = s.sns := rfl
@[simp] theorem State.setBst_tmp : (s.setBst b).tmp = s.tmp := rfl
@[simp] theorem State.setBst_bst : (s.setBst b).bst = b := rfl
@[simp] theorem State.setBst_upd : (s.setBst b).upd = s.upd := rfl
@[simp] theorem State.setBst_chk : (s.setBst b).chk = s.chk := rfl
@[simp] theorem State.setBst_saved : (s.setBst b).saved = s.saved := rfl
end

section
variable (s : State) (u : Update)
@[simp] theorem State.setUpd_now : (s.setUpd u).now = s.now := rfl
@[simp] theorem State.setUpd_pending : (s.setUpd u).pending = s.pending := rfl
@[simp] theorem State.setUpd_draws : (s.setUpd u).draws = s.draws := rfl
@[simp] theorem State.setUpd_regs : (s.setUpd u).regs = s.regs := rfl
@[simp] theorem State.setUpd_latches : (s.setUpd u).latches = s.latches := rfl
@[simp] theorem State.setUpd_sram : (s.setUpd u).sram = s.sram := rfl
@[simp] theorem State.setUpd_aon : (s.setUpd u).aon = s.aon := rfl
@[simp] theorem State.setUpd_nvm : (s.setUpd u).nvm = s.nvm := rfl
@[simp] theorem State.setUpd_flash : (s.setUpd u).flash = s.flash := rfl
@[simp] theorem State.setUpd_rings : (s.setUpd u).rings = s.rings := rfl
@[simp] theorem State.setUpd_phase : (s.setUpd u).phase = s.phase := rfl
@[simp] theorem State.setUpd_cpUp : (s.setUpd u).cpUp = s.cpUp := rfl
@[simp] theorem State.setUpd_mpUp : (s.setUpd u).mpUp = s.mpUp := rfl
@[simp] theorem State.setUpd_spUp : (s.setUpd u).spUp = s.spUp := rfl
@[simp] theorem State.setUpd_id : (s.setUpd u).id = s.id := rfl
@[simp] theorem State.setUpd_pads : (s.setUpd u).pads = s.pads := rfl
@[simp] theorem State.setUpd_clk : (s.setUpd u).clk = s.clk := rfl
@[simp] theorem State.setUpd_proto : (s.setUpd u).proto = s.proto := rfl
@[simp] theorem State.setUpd_flt : (s.setUpd u).flt = s.flt := rfl
@[simp] theorem State.setUpd_ks : (s.setUpd u).ks = s.ks := rfl
@[simp] theorem State.setUpd_sp : (s.setUpd u).sp = s.sp := rfl
@[simp] theorem State.setUpd_com : (s.setUpd u).com = s.com := rfl
@[simp] theorem State.setUpd_locks : (s.setUpd u).locks = s.locks := rfl
@[simp] theorem State.setUpd_pwr : (s.setUpd u).pwr = s.pwr := rfl
@[simp] theorem State.setUpd_scan : (s.setUpd u).scan = s.scan := rfl
@[simp] theorem State.setUpd_beam : (s.setUpd u).beam = s.beam := rfl
@[simp] theorem State.setUpd_lib : (s.setUpd u).lib = s.lib := rfl
@[simp] theorem State.setUpd_link : (s.setUpd u).link = s.link := rfl
@[simp] theorem State.setUpd_casc : (s.setUpd u).casc = s.casc := rfl
@[simp] theorem State.setUpd_bus : (s.setUpd u).bus = s.bus := rfl
@[simp] theorem State.setUpd_cal : (s.setUpd u).cal = s.cal := rfl
@[simp] theorem State.setUpd_diag : (s.setUpd u).diag = s.diag := rfl
@[simp] theorem State.setUpd_sns : (s.setUpd u).sns = s.sns := rfl
@[simp] theorem State.setUpd_tmp : (s.setUpd u).tmp = s.tmp := rfl
@[simp] theorem State.setUpd_bst : (s.setUpd u).bst = s.bst := rfl
@[simp] theorem State.setUpd_upd : (s.setUpd u).upd = u := rfl
@[simp] theorem State.setUpd_chk : (s.setUpd u).chk = s.chk := rfl
@[simp] theorem State.setUpd_saved : (s.setUpd u).saved = s.saved := rfl
end

section
variable (s : State) (c : Checks)
@[simp] theorem State.setChk_now : (s.setChk c).now = s.now := rfl
@[simp] theorem State.setChk_pending : (s.setChk c).pending = s.pending := rfl
@[simp] theorem State.setChk_draws : (s.setChk c).draws = s.draws := rfl
@[simp] theorem State.setChk_regs : (s.setChk c).regs = s.regs := rfl
@[simp] theorem State.setChk_latches : (s.setChk c).latches = s.latches := rfl
@[simp] theorem State.setChk_sram : (s.setChk c).sram = s.sram := rfl
@[simp] theorem State.setChk_aon : (s.setChk c).aon = s.aon := rfl
@[simp] theorem State.setChk_nvm : (s.setChk c).nvm = s.nvm := rfl
@[simp] theorem State.setChk_flash : (s.setChk c).flash = s.flash := rfl
@[simp] theorem State.setChk_rings : (s.setChk c).rings = s.rings := rfl
@[simp] theorem State.setChk_phase : (s.setChk c).phase = s.phase := rfl
@[simp] theorem State.setChk_cpUp : (s.setChk c).cpUp = s.cpUp := rfl
@[simp] theorem State.setChk_mpUp : (s.setChk c).mpUp = s.mpUp := rfl
@[simp] theorem State.setChk_spUp : (s.setChk c).spUp = s.spUp := rfl
@[simp] theorem State.setChk_id : (s.setChk c).id = s.id := rfl
@[simp] theorem State.setChk_pads : (s.setChk c).pads = s.pads := rfl
@[simp] theorem State.setChk_clk : (s.setChk c).clk = s.clk := rfl
@[simp] theorem State.setChk_proto : (s.setChk c).proto = s.proto := rfl
@[simp] theorem State.setChk_flt : (s.setChk c).flt = s.flt := rfl
@[simp] theorem State.setChk_ks : (s.setChk c).ks = s.ks := rfl
@[simp] theorem State.setChk_sp : (s.setChk c).sp = s.sp := rfl
@[simp] theorem State.setChk_com : (s.setChk c).com = s.com := rfl
@[simp] theorem State.setChk_locks : (s.setChk c).locks = s.locks := rfl
@[simp] theorem State.setChk_pwr : (s.setChk c).pwr = s.pwr := rfl
@[simp] theorem State.setChk_scan : (s.setChk c).scan = s.scan := rfl
@[simp] theorem State.setChk_beam : (s.setChk c).beam = s.beam := rfl
@[simp] theorem State.setChk_lib : (s.setChk c).lib = s.lib := rfl
@[simp] theorem State.setChk_link : (s.setChk c).link = s.link := rfl
@[simp] theorem State.setChk_casc : (s.setChk c).casc = s.casc := rfl
@[simp] theorem State.setChk_bus : (s.setChk c).bus = s.bus := rfl
@[simp] theorem State.setChk_cal : (s.setChk c).cal = s.cal := rfl
@[simp] theorem State.setChk_diag : (s.setChk c).diag = s.diag := rfl
@[simp] theorem State.setChk_sns : (s.setChk c).sns = s.sns := rfl
@[simp] theorem State.setChk_tmp : (s.setChk c).tmp = s.tmp := rfl
@[simp] theorem State.setChk_bst : (s.setChk c).bst = s.bst := rfl
@[simp] theorem State.setChk_upd : (s.setChk c).upd = s.upd := rfl
@[simp] theorem State.setChk_chk : (s.setChk c).chk = c := rfl
@[simp] theorem State.setChk_saved : (s.setChk c).saved = s.saved := rfl
end

section
variable (s : State) (l : Library)
@[simp] theorem State.setLib_now : (s.setLib l).now = s.now := rfl
@[simp] theorem State.setLib_pending : (s.setLib l).pending = s.pending := rfl
@[simp] theorem State.setLib_draws : (s.setLib l).draws = s.draws := rfl
@[simp] theorem State.setLib_regs : (s.setLib l).regs = s.regs := rfl
@[simp] theorem State.setLib_latches : (s.setLib l).latches = s.latches := rfl
@[simp] theorem State.setLib_sram : (s.setLib l).sram = s.sram := rfl
@[simp] theorem State.setLib_aon : (s.setLib l).aon = s.aon := rfl
@[simp] theorem State.setLib_nvm : (s.setLib l).nvm = s.nvm := rfl
@[simp] theorem State.setLib_flash : (s.setLib l).flash = s.flash := rfl
@[simp] theorem State.setLib_rings : (s.setLib l).rings = s.rings := rfl
@[simp] theorem State.setLib_phase : (s.setLib l).phase = s.phase := rfl
@[simp] theorem State.setLib_cpUp : (s.setLib l).cpUp = s.cpUp := rfl
@[simp] theorem State.setLib_mpUp : (s.setLib l).mpUp = s.mpUp := rfl
@[simp] theorem State.setLib_spUp : (s.setLib l).spUp = s.spUp := rfl
@[simp] theorem State.setLib_id : (s.setLib l).id = s.id := rfl
@[simp] theorem State.setLib_pads : (s.setLib l).pads = s.pads := rfl
@[simp] theorem State.setLib_clk : (s.setLib l).clk = s.clk := rfl
@[simp] theorem State.setLib_proto : (s.setLib l).proto = s.proto := rfl
@[simp] theorem State.setLib_flt : (s.setLib l).flt = s.flt := rfl
@[simp] theorem State.setLib_ks : (s.setLib l).ks = s.ks := rfl
@[simp] theorem State.setLib_sp : (s.setLib l).sp = s.sp := rfl
@[simp] theorem State.setLib_com : (s.setLib l).com = s.com := rfl
@[simp] theorem State.setLib_locks : (s.setLib l).locks = s.locks := rfl
@[simp] theorem State.setLib_pwr : (s.setLib l).pwr = s.pwr := rfl
@[simp] theorem State.setLib_scan : (s.setLib l).scan = s.scan := rfl
@[simp] theorem State.setLib_beam : (s.setLib l).beam = s.beam := rfl
@[simp] theorem State.setLib_lib : (s.setLib l).lib = l := rfl
@[simp] theorem State.setLib_link : (s.setLib l).link = s.link := rfl
@[simp] theorem State.setLib_casc : (s.setLib l).casc = s.casc := rfl
@[simp] theorem State.setLib_bus : (s.setLib l).bus = s.bus := rfl
@[simp] theorem State.setLib_cal : (s.setLib l).cal = s.cal := rfl
@[simp] theorem State.setLib_diag : (s.setLib l).diag = s.diag := rfl
@[simp] theorem State.setLib_sns : (s.setLib l).sns = s.sns := rfl
@[simp] theorem State.setLib_tmp : (s.setLib l).tmp = s.tmp := rfl
@[simp] theorem State.setLib_bst : (s.setLib l).bst = s.bst := rfl
@[simp] theorem State.setLib_upd : (s.setLib l).upd = s.upd := rfl
@[simp] theorem State.setLib_chk : (s.setLib l).chk = s.chk := rfl
@[simp] theorem State.setLib_saved : (s.setLib l).saved = s.saved := rfl
end

section
variable (s : State) (k : Shutter)
@[simp] theorem State.setKs_now : (s.setKs k).now = s.now := rfl
@[simp] theorem State.setKs_pending : (s.setKs k).pending = s.pending := rfl
@[simp] theorem State.setKs_draws : (s.setKs k).draws = s.draws := rfl
@[simp] theorem State.setKs_regs : (s.setKs k).regs = s.regs := rfl
@[simp] theorem State.setKs_latches : (s.setKs k).latches = s.latches := rfl
@[simp] theorem State.setKs_sram : (s.setKs k).sram = s.sram := rfl
@[simp] theorem State.setKs_aon : (s.setKs k).aon = s.aon := rfl
@[simp] theorem State.setKs_nvm : (s.setKs k).nvm = s.nvm := rfl
@[simp] theorem State.setKs_flash : (s.setKs k).flash = s.flash := rfl
@[simp] theorem State.setKs_rings : (s.setKs k).rings = s.rings := rfl
@[simp] theorem State.setKs_phase : (s.setKs k).phase = s.phase := rfl
@[simp] theorem State.setKs_cpUp : (s.setKs k).cpUp = s.cpUp := rfl
@[simp] theorem State.setKs_mpUp : (s.setKs k).mpUp = s.mpUp := rfl
@[simp] theorem State.setKs_spUp : (s.setKs k).spUp = s.spUp := rfl
@[simp] theorem State.setKs_id : (s.setKs k).id = s.id := rfl
@[simp] theorem State.setKs_pads : (s.setKs k).pads = s.pads := rfl
@[simp] theorem State.setKs_clk : (s.setKs k).clk = s.clk := rfl
@[simp] theorem State.setKs_proto : (s.setKs k).proto = s.proto := rfl
@[simp] theorem State.setKs_flt : (s.setKs k).flt = s.flt := rfl
@[simp] theorem State.setKs_ks : (s.setKs k).ks = k := rfl
@[simp] theorem State.setKs_sp : (s.setKs k).sp = s.sp := rfl
@[simp] theorem State.setKs_com : (s.setKs k).com = s.com := rfl
@[simp] theorem State.setKs_locks : (s.setKs k).locks = s.locks := rfl
@[simp] theorem State.setKs_pwr : (s.setKs k).pwr = s.pwr := rfl
@[simp] theorem State.setKs_scan : (s.setKs k).scan = s.scan := rfl
@[simp] theorem State.setKs_beam : (s.setKs k).beam = s.beam := rfl
@[simp] theorem State.setKs_lib : (s.setKs k).lib = s.lib := rfl
@[simp] theorem State.setKs_link : (s.setKs k).link = s.link := rfl
@[simp] theorem State.setKs_casc : (s.setKs k).casc = s.casc := rfl
@[simp] theorem State.setKs_bus : (s.setKs k).bus = s.bus := rfl
@[simp] theorem State.setKs_cal : (s.setKs k).cal = s.cal := rfl
@[simp] theorem State.setKs_diag : (s.setKs k).diag = s.diag := rfl
@[simp] theorem State.setKs_sns : (s.setKs k).sns = s.sns := rfl
@[simp] theorem State.setKs_tmp : (s.setKs k).tmp = s.tmp := rfl
@[simp] theorem State.setKs_bst : (s.setKs k).bst = s.bst := rfl
@[simp] theorem State.setKs_upd : (s.setKs k).upd = s.upd := rfl
@[simp] theorem State.setKs_chk : (s.setKs k).chk = s.chk := rfl
@[simp] theorem State.setKs_saved : (s.setKs k).saved = s.saved := rfl
end

section
variable (s : State) (p : SafetyCore)
@[simp] theorem State.setSp_now : (s.setSp p).now = s.now := rfl
@[simp] theorem State.setSp_pending : (s.setSp p).pending = s.pending := rfl
@[simp] theorem State.setSp_draws : (s.setSp p).draws = s.draws := rfl
@[simp] theorem State.setSp_regs : (s.setSp p).regs = s.regs := rfl
@[simp] theorem State.setSp_latches : (s.setSp p).latches = s.latches := rfl
@[simp] theorem State.setSp_sram : (s.setSp p).sram = s.sram := rfl
@[simp] theorem State.setSp_aon : (s.setSp p).aon = s.aon := rfl
@[simp] theorem State.setSp_nvm : (s.setSp p).nvm = s.nvm := rfl
@[simp] theorem State.setSp_flash : (s.setSp p).flash = s.flash := rfl
@[simp] theorem State.setSp_rings : (s.setSp p).rings = s.rings := rfl
@[simp] theorem State.setSp_phase : (s.setSp p).phase = s.phase := rfl
@[simp] theorem State.setSp_cpUp : (s.setSp p).cpUp = s.cpUp := rfl
@[simp] theorem State.setSp_mpUp : (s.setSp p).mpUp = s.mpUp := rfl
@[simp] theorem State.setSp_spUp : (s.setSp p).spUp = s.spUp := rfl
@[simp] theorem State.setSp_id : (s.setSp p).id = s.id := rfl
@[simp] theorem State.setSp_pads : (s.setSp p).pads = s.pads := rfl
@[simp] theorem State.setSp_clk : (s.setSp p).clk = s.clk := rfl
@[simp] theorem State.setSp_proto : (s.setSp p).proto = s.proto := rfl
@[simp] theorem State.setSp_flt : (s.setSp p).flt = s.flt := rfl
@[simp] theorem State.setSp_ks : (s.setSp p).ks = s.ks := rfl
@[simp] theorem State.setSp_sp : (s.setSp p).sp = p := rfl
@[simp] theorem State.setSp_com : (s.setSp p).com = s.com := rfl
@[simp] theorem State.setSp_locks : (s.setSp p).locks = s.locks := rfl
@[simp] theorem State.setSp_pwr : (s.setSp p).pwr = s.pwr := rfl
@[simp] theorem State.setSp_scan : (s.setSp p).scan = s.scan := rfl
@[simp] theorem State.setSp_beam : (s.setSp p).beam = s.beam := rfl
@[simp] theorem State.setSp_lib : (s.setSp p).lib = s.lib := rfl
@[simp] theorem State.setSp_link : (s.setSp p).link = s.link := rfl
@[simp] theorem State.setSp_casc : (s.setSp p).casc = s.casc := rfl
@[simp] theorem State.setSp_bus : (s.setSp p).bus = s.bus := rfl
@[simp] theorem State.setSp_cal : (s.setSp p).cal = s.cal := rfl
@[simp] theorem State.setSp_diag : (s.setSp p).diag = s.diag := rfl
@[simp] theorem State.setSp_sns : (s.setSp p).sns = s.sns := rfl
@[simp] theorem State.setSp_tmp : (s.setSp p).tmp = s.tmp := rfl
@[simp] theorem State.setSp_bst : (s.setSp p).bst = s.bst := rfl
@[simp] theorem State.setSp_upd : (s.setSp p).upd = s.upd := rfl
@[simp] theorem State.setSp_chk : (s.setSp p).chk = s.chk := rfl
@[simp] theorem State.setSp_saved : (s.setSp p).saved = s.saved := rfl
end

section
variable (s : State) (c : Scan)
@[simp] theorem State.setScan_now : (s.setScan c).now = s.now := rfl
@[simp] theorem State.setScan_pending : (s.setScan c).pending = s.pending := rfl
@[simp] theorem State.setScan_draws : (s.setScan c).draws = s.draws := rfl
@[simp] theorem State.setScan_regs : (s.setScan c).regs = s.regs := rfl
@[simp] theorem State.setScan_latches : (s.setScan c).latches = s.latches := rfl
@[simp] theorem State.setScan_sram : (s.setScan c).sram = s.sram := rfl
@[simp] theorem State.setScan_aon : (s.setScan c).aon = s.aon := rfl
@[simp] theorem State.setScan_nvm : (s.setScan c).nvm = s.nvm := rfl
@[simp] theorem State.setScan_flash : (s.setScan c).flash = s.flash := rfl
@[simp] theorem State.setScan_rings : (s.setScan c).rings = s.rings := rfl
@[simp] theorem State.setScan_phase : (s.setScan c).phase = s.phase := rfl
@[simp] theorem State.setScan_cpUp : (s.setScan c).cpUp = s.cpUp := rfl
@[simp] theorem State.setScan_mpUp : (s.setScan c).mpUp = s.mpUp := rfl
@[simp] theorem State.setScan_spUp : (s.setScan c).spUp = s.spUp := rfl
@[simp] theorem State.setScan_id : (s.setScan c).id = s.id := rfl
@[simp] theorem State.setScan_pads : (s.setScan c).pads = s.pads := rfl
@[simp] theorem State.setScan_clk : (s.setScan c).clk = s.clk := rfl
@[simp] theorem State.setScan_proto : (s.setScan c).proto = s.proto := rfl
@[simp] theorem State.setScan_flt : (s.setScan c).flt = s.flt := rfl
@[simp] theorem State.setScan_ks : (s.setScan c).ks = s.ks := rfl
@[simp] theorem State.setScan_sp : (s.setScan c).sp = s.sp := rfl
@[simp] theorem State.setScan_com : (s.setScan c).com = s.com := rfl
@[simp] theorem State.setScan_locks : (s.setScan c).locks = s.locks := rfl
@[simp] theorem State.setScan_pwr : (s.setScan c).pwr = s.pwr := rfl
@[simp] theorem State.setScan_scan : (s.setScan c).scan = c := rfl
@[simp] theorem State.setScan_beam : (s.setScan c).beam = s.beam := rfl
@[simp] theorem State.setScan_lib : (s.setScan c).lib = s.lib := rfl
@[simp] theorem State.setScan_link : (s.setScan c).link = s.link := rfl
@[simp] theorem State.setScan_casc : (s.setScan c).casc = s.casc := rfl
@[simp] theorem State.setScan_bus : (s.setScan c).bus = s.bus := rfl
@[simp] theorem State.setScan_cal : (s.setScan c).cal = s.cal := rfl
@[simp] theorem State.setScan_diag : (s.setScan c).diag = s.diag := rfl
@[simp] theorem State.setScan_sns : (s.setScan c).sns = s.sns := rfl
@[simp] theorem State.setScan_tmp : (s.setScan c).tmp = s.tmp := rfl
@[simp] theorem State.setScan_bst : (s.setScan c).bst = s.bst := rfl
@[simp] theorem State.setScan_upd : (s.setScan c).upd = s.upd := rfl
@[simp] theorem State.setScan_chk : (s.setScan c).chk = s.chk := rfl
@[simp] theorem State.setScan_saved : (s.setScan c).saved = s.saved := rfl
end

section
variable (s : State) (p : Power)
@[simp] theorem State.setPwr_now : (s.setPwr p).now = s.now := rfl
@[simp] theorem State.setPwr_pending : (s.setPwr p).pending = s.pending := rfl
@[simp] theorem State.setPwr_draws : (s.setPwr p).draws = s.draws := rfl
@[simp] theorem State.setPwr_regs : (s.setPwr p).regs = s.regs := rfl
@[simp] theorem State.setPwr_latches : (s.setPwr p).latches = s.latches := rfl
@[simp] theorem State.setPwr_sram : (s.setPwr p).sram = s.sram := rfl
@[simp] theorem State.setPwr_aon : (s.setPwr p).aon = s.aon := rfl
@[simp] theorem State.setPwr_nvm : (s.setPwr p).nvm = s.nvm := rfl
@[simp] theorem State.setPwr_flash : (s.setPwr p).flash = s.flash := rfl
@[simp] theorem State.setPwr_rings : (s.setPwr p).rings = s.rings := rfl
@[simp] theorem State.setPwr_phase : (s.setPwr p).phase = s.phase := rfl
@[simp] theorem State.setPwr_cpUp : (s.setPwr p).cpUp = s.cpUp := rfl
@[simp] theorem State.setPwr_mpUp : (s.setPwr p).mpUp = s.mpUp := rfl
@[simp] theorem State.setPwr_spUp : (s.setPwr p).spUp = s.spUp := rfl
@[simp] theorem State.setPwr_id : (s.setPwr p).id = s.id := rfl
@[simp] theorem State.setPwr_pads : (s.setPwr p).pads = s.pads := rfl
@[simp] theorem State.setPwr_clk : (s.setPwr p).clk = s.clk := rfl
@[simp] theorem State.setPwr_proto : (s.setPwr p).proto = s.proto := rfl
@[simp] theorem State.setPwr_flt : (s.setPwr p).flt = s.flt := rfl
@[simp] theorem State.setPwr_ks : (s.setPwr p).ks = s.ks := rfl
@[simp] theorem State.setPwr_sp : (s.setPwr p).sp = s.sp := rfl
@[simp] theorem State.setPwr_com : (s.setPwr p).com = s.com := rfl
@[simp] theorem State.setPwr_locks : (s.setPwr p).locks = s.locks := rfl
@[simp] theorem State.setPwr_pwr : (s.setPwr p).pwr = p := rfl
@[simp] theorem State.setPwr_scan : (s.setPwr p).scan = s.scan := rfl
@[simp] theorem State.setPwr_beam : (s.setPwr p).beam = s.beam := rfl
@[simp] theorem State.setPwr_lib : (s.setPwr p).lib = s.lib := rfl
@[simp] theorem State.setPwr_link : (s.setPwr p).link = s.link := rfl
@[simp] theorem State.setPwr_casc : (s.setPwr p).casc = s.casc := rfl
@[simp] theorem State.setPwr_bus : (s.setPwr p).bus = s.bus := rfl
@[simp] theorem State.setPwr_cal : (s.setPwr p).cal = s.cal := rfl
@[simp] theorem State.setPwr_diag : (s.setPwr p).diag = s.diag := rfl
@[simp] theorem State.setPwr_sns : (s.setPwr p).sns = s.sns := rfl
@[simp] theorem State.setPwr_tmp : (s.setPwr p).tmp = s.tmp := rfl
@[simp] theorem State.setPwr_bst : (s.setPwr p).bst = s.bst := rfl
@[simp] theorem State.setPwr_upd : (s.setPwr p).upd = s.upd := rfl
@[simp] theorem State.setPwr_chk : (s.setPwr p).chk = s.chk := rfl
@[simp] theorem State.setPwr_saved : (s.setPwr p).saved = s.saved := rfl
end

section
variable (s : State) (c : Collector)
@[simp] theorem State.setFlt_now : (s.setFlt c).now = s.now := rfl
@[simp] theorem State.setFlt_pending : (s.setFlt c).pending = s.pending := rfl
@[simp] theorem State.setFlt_draws : (s.setFlt c).draws = s.draws := rfl
@[simp] theorem State.setFlt_regs : (s.setFlt c).regs = s.regs := rfl
@[simp] theorem State.setFlt_latches : (s.setFlt c).latches = s.latches := rfl
@[simp] theorem State.setFlt_sram : (s.setFlt c).sram = s.sram := rfl
@[simp] theorem State.setFlt_aon : (s.setFlt c).aon = s.aon := rfl
@[simp] theorem State.setFlt_nvm : (s.setFlt c).nvm = s.nvm := rfl
@[simp] theorem State.setFlt_flash : (s.setFlt c).flash = s.flash := rfl
@[simp] theorem State.setFlt_rings : (s.setFlt c).rings = s.rings := rfl
@[simp] theorem State.setFlt_phase : (s.setFlt c).phase = s.phase := rfl
@[simp] theorem State.setFlt_cpUp : (s.setFlt c).cpUp = s.cpUp := rfl
@[simp] theorem State.setFlt_mpUp : (s.setFlt c).mpUp = s.mpUp := rfl
@[simp] theorem State.setFlt_spUp : (s.setFlt c).spUp = s.spUp := rfl
@[simp] theorem State.setFlt_id : (s.setFlt c).id = s.id := rfl
@[simp] theorem State.setFlt_pads : (s.setFlt c).pads = s.pads := rfl
@[simp] theorem State.setFlt_clk : (s.setFlt c).clk = s.clk := rfl
@[simp] theorem State.setFlt_proto : (s.setFlt c).proto = s.proto := rfl
@[simp] theorem State.setFlt_flt : (s.setFlt c).flt = c := rfl
@[simp] theorem State.setFlt_ks : (s.setFlt c).ks = s.ks := rfl
@[simp] theorem State.setFlt_sp : (s.setFlt c).sp = s.sp := rfl
@[simp] theorem State.setFlt_com : (s.setFlt c).com = s.com := rfl
@[simp] theorem State.setFlt_locks : (s.setFlt c).locks = s.locks := rfl
@[simp] theorem State.setFlt_pwr : (s.setFlt c).pwr = s.pwr := rfl
@[simp] theorem State.setFlt_scan : (s.setFlt c).scan = s.scan := rfl
@[simp] theorem State.setFlt_beam : (s.setFlt c).beam = s.beam := rfl
@[simp] theorem State.setFlt_lib : (s.setFlt c).lib = s.lib := rfl
@[simp] theorem State.setFlt_link : (s.setFlt c).link = s.link := rfl
@[simp] theorem State.setFlt_casc : (s.setFlt c).casc = s.casc := rfl
@[simp] theorem State.setFlt_bus : (s.setFlt c).bus = s.bus := rfl
@[simp] theorem State.setFlt_cal : (s.setFlt c).cal = s.cal := rfl
@[simp] theorem State.setFlt_diag : (s.setFlt c).diag = s.diag := rfl
@[simp] theorem State.setFlt_sns : (s.setFlt c).sns = s.sns := rfl
@[simp] theorem State.setFlt_tmp : (s.setFlt c).tmp = s.tmp := rfl
@[simp] theorem State.setFlt_bst : (s.setFlt c).bst = s.bst := rfl
@[simp] theorem State.setFlt_upd : (s.setFlt c).upd = s.upd := rfl
@[simp] theorem State.setFlt_chk : (s.setFlt c).chk = s.chk := rfl
@[simp] theorem State.setFlt_saved : (s.setFlt c).saved = s.saved := rfl
end

section
variable (s : State) (p : Proto)
@[simp] theorem State.setProto_now : (s.setProto p).now = s.now := rfl
@[simp] theorem State.setProto_pending : (s.setProto p).pending = s.pending := rfl
@[simp] theorem State.setProto_draws : (s.setProto p).draws = s.draws := rfl
@[simp] theorem State.setProto_regs : (s.setProto p).regs = s.regs := rfl
@[simp] theorem State.setProto_latches : (s.setProto p).latches = s.latches := rfl
@[simp] theorem State.setProto_sram : (s.setProto p).sram = s.sram := rfl
@[simp] theorem State.setProto_aon : (s.setProto p).aon = s.aon := rfl
@[simp] theorem State.setProto_nvm : (s.setProto p).nvm = s.nvm := rfl
@[simp] theorem State.setProto_flash : (s.setProto p).flash = s.flash := rfl
@[simp] theorem State.setProto_rings : (s.setProto p).rings = s.rings := rfl
@[simp] theorem State.setProto_phase : (s.setProto p).phase = s.phase := rfl
@[simp] theorem State.setProto_cpUp : (s.setProto p).cpUp = s.cpUp := rfl
@[simp] theorem State.setProto_mpUp : (s.setProto p).mpUp = s.mpUp := rfl
@[simp] theorem State.setProto_spUp : (s.setProto p).spUp = s.spUp := rfl
@[simp] theorem State.setProto_id : (s.setProto p).id = s.id := rfl
@[simp] theorem State.setProto_pads : (s.setProto p).pads = s.pads := rfl
@[simp] theorem State.setProto_clk : (s.setProto p).clk = s.clk := rfl
@[simp] theorem State.setProto_proto : (s.setProto p).proto = p := rfl
@[simp] theorem State.setProto_flt : (s.setProto p).flt = s.flt := rfl
@[simp] theorem State.setProto_ks : (s.setProto p).ks = s.ks := rfl
@[simp] theorem State.setProto_sp : (s.setProto p).sp = s.sp := rfl
@[simp] theorem State.setProto_com : (s.setProto p).com = s.com := rfl
@[simp] theorem State.setProto_locks : (s.setProto p).locks = s.locks := rfl
@[simp] theorem State.setProto_pwr : (s.setProto p).pwr = s.pwr := rfl
@[simp] theorem State.setProto_scan : (s.setProto p).scan = s.scan := rfl
@[simp] theorem State.setProto_beam : (s.setProto p).beam = s.beam := rfl
@[simp] theorem State.setProto_lib : (s.setProto p).lib = s.lib := rfl
@[simp] theorem State.setProto_link : (s.setProto p).link = s.link := rfl
@[simp] theorem State.setProto_casc : (s.setProto p).casc = s.casc := rfl
@[simp] theorem State.setProto_bus : (s.setProto p).bus = s.bus := rfl
@[simp] theorem State.setProto_cal : (s.setProto p).cal = s.cal := rfl
@[simp] theorem State.setProto_diag : (s.setProto p).diag = s.diag := rfl
@[simp] theorem State.setProto_sns : (s.setProto p).sns = s.sns := rfl
@[simp] theorem State.setProto_tmp : (s.setProto p).tmp = s.tmp := rfl
@[simp] theorem State.setProto_bst : (s.setProto p).bst = s.bst := rfl
@[simp] theorem State.setProto_upd : (s.setProto p).upd = s.upd := rfl
@[simp] theorem State.setProto_chk : (s.setProto p).chk = s.chk := rfl
@[simp] theorem State.setProto_saved : (s.setProto p).saved = s.saved := rfl
end

section
variable (s : State) (f : Field) (v : Nat)
@[simp] theorem State.set_now : (s.set f v).now = s.now := rfl
@[simp] theorem State.set_pending : (s.set f v).pending = s.pending := rfl
@[simp] theorem State.set_draws : (s.set f v).draws = s.draws := rfl
@[simp] theorem State.set_regs : (s.set f v).regs = Assoc.set 0 s.regs f.key ((v % 2 ^ f.width) ^^^ f.reset) := rfl
@[simp] theorem State.set_latches : (s.set f v).latches = s.latches := rfl
@[simp] theorem State.set_sram : (s.set f v).sram = s.sram := rfl
@[simp] theorem State.set_aon : (s.set f v).aon = s.aon := rfl
@[simp] theorem State.set_nvm : (s.set f v).nvm = s.nvm := rfl
@[simp] theorem State.set_flash : (s.set f v).flash = s.flash := rfl
@[simp] theorem State.set_rings : (s.set f v).rings = s.rings := rfl
@[simp] theorem State.set_phase : (s.set f v).phase = s.phase := rfl
@[simp] theorem State.set_cpUp : (s.set f v).cpUp = s.cpUp := rfl
@[simp] theorem State.set_mpUp : (s.set f v).mpUp = s.mpUp := rfl
@[simp] theorem State.set_spUp : (s.set f v).spUp = s.spUp := rfl
@[simp] theorem State.set_id : (s.set f v).id = s.id := rfl
@[simp] theorem State.set_pads : (s.set f v).pads = s.pads := rfl
@[simp] theorem State.set_clk : (s.set f v).clk = s.clk := rfl
@[simp] theorem State.set_proto : (s.set f v).proto = s.proto := rfl
@[simp] theorem State.set_flt : (s.set f v).flt = s.flt := rfl
@[simp] theorem State.set_ks : (s.set f v).ks = s.ks := rfl
@[simp] theorem State.set_sp : (s.set f v).sp = s.sp := rfl
@[simp] theorem State.set_com : (s.set f v).com = s.com := rfl
@[simp] theorem State.set_locks : (s.set f v).locks = s.locks := rfl
@[simp] theorem State.set_pwr : (s.set f v).pwr = s.pwr := rfl
@[simp] theorem State.set_scan : (s.set f v).scan = s.scan := rfl
@[simp] theorem State.set_beam : (s.set f v).beam = s.beam := rfl
@[simp] theorem State.set_lib : (s.set f v).lib = s.lib := rfl
@[simp] theorem State.set_link : (s.set f v).link = s.link := rfl
@[simp] theorem State.set_casc : (s.set f v).casc = s.casc := rfl
@[simp] theorem State.set_bus : (s.set f v).bus = s.bus := rfl
@[simp] theorem State.set_cal : (s.set f v).cal = s.cal := rfl
@[simp] theorem State.set_diag : (s.set f v).diag = s.diag := rfl
@[simp] theorem State.set_sns : (s.set f v).sns = s.sns := rfl
@[simp] theorem State.set_tmp : (s.set f v).tmp = s.tmp := rfl
@[simp] theorem State.set_bst : (s.set f v).bst = s.bst := rfl
@[simp] theorem State.set_upd : (s.set f v).upd = s.upd := rfl
@[simp] theorem State.set_chk : (s.set f v).chk = s.chk := rfl
@[simp] theorem State.set_saved : (s.set f v).saved = s.saved := rfl
end

section
variable (s : State) (n : Nat)
@[simp] theorem State.wait_now : (s.wait n).now = s.now + n := rfl
@[simp] theorem State.wait_pending : (s.wait n).pending = s.pending := rfl
@[simp] theorem State.wait_draws : (s.wait n).draws = s.draws := rfl
@[simp] theorem State.wait_regs : (s.wait n).regs = s.regs := rfl
@[simp] theorem State.wait_latches : (s.wait n).latches = s.latches := rfl
@[simp] theorem State.wait_sram : (s.wait n).sram = s.sram := rfl
@[simp] theorem State.wait_aon : (s.wait n).aon = s.aon := rfl
@[simp] theorem State.wait_nvm : (s.wait n).nvm = s.nvm := rfl
@[simp] theorem State.wait_flash : (s.wait n).flash = s.flash := rfl
@[simp] theorem State.wait_rings : (s.wait n).rings = s.rings := rfl
@[simp] theorem State.wait_phase : (s.wait n).phase = s.phase := rfl
@[simp] theorem State.wait_cpUp : (s.wait n).cpUp = s.cpUp := rfl
@[simp] theorem State.wait_mpUp : (s.wait n).mpUp = s.mpUp := rfl
@[simp] theorem State.wait_spUp : (s.wait n).spUp = s.spUp := rfl
@[simp] theorem State.wait_id : (s.wait n).id = s.id := rfl
@[simp] theorem State.wait_pads : (s.wait n).pads = s.pads := rfl
@[simp] theorem State.wait_clk : (s.wait n).clk = s.clk := rfl
@[simp] theorem State.wait_proto : (s.wait n).proto = s.proto := rfl
@[simp] theorem State.wait_flt : (s.wait n).flt = s.flt := rfl
@[simp] theorem State.wait_ks : (s.wait n).ks = s.ks := rfl
@[simp] theorem State.wait_sp : (s.wait n).sp = s.sp := rfl
@[simp] theorem State.wait_com : (s.wait n).com = s.com := rfl
@[simp] theorem State.wait_locks : (s.wait n).locks = s.locks := rfl
@[simp] theorem State.wait_pwr : (s.wait n).pwr = s.pwr := rfl
@[simp] theorem State.wait_scan : (s.wait n).scan = s.scan := rfl
@[simp] theorem State.wait_beam : (s.wait n).beam = s.beam := rfl
@[simp] theorem State.wait_lib : (s.wait n).lib = s.lib := rfl
@[simp] theorem State.wait_link : (s.wait n).link = s.link := rfl
@[simp] theorem State.wait_casc : (s.wait n).casc = s.casc := rfl
@[simp] theorem State.wait_bus : (s.wait n).bus = s.bus := rfl
@[simp] theorem State.wait_cal : (s.wait n).cal = s.cal := rfl
@[simp] theorem State.wait_diag : (s.wait n).diag = s.diag := rfl
@[simp] theorem State.wait_sns : (s.wait n).sns = s.sns := rfl
@[simp] theorem State.wait_tmp : (s.wait n).tmp = s.tmp := rfl
@[simp] theorem State.wait_bst : (s.wait n).bst = s.bst := rfl
@[simp] theorem State.wait_upd : (s.wait n).upd = s.upd := rfl
@[simp] theorem State.wait_chk : (s.wait n).chk = s.chk := rfl
@[simp] theorem State.wait_saved : (s.wait n).saved = s.saved := rfl
end

section
variable (s : State) (t : Nat)
@[simp] theorem State.until_now : (s.until t).now = max s.now t := rfl
@[simp] theorem State.until_pending : (s.until t).pending = s.pending := rfl
@[simp] theorem State.until_draws : (s.until t).draws = s.draws := rfl
@[simp] theorem State.until_regs : (s.until t).regs = s.regs := rfl
@[simp] theorem State.until_latches : (s.until t).latches = s.latches := rfl
@[simp] theorem State.until_sram : (s.until t).sram = s.sram := rfl
@[simp] theorem State.until_aon : (s.until t).aon = s.aon := rfl
@[simp] theorem State.until_nvm : (s.until t).nvm = s.nvm := rfl
@[simp] theorem State.until_flash : (s.until t).flash = s.flash := rfl
@[simp] theorem State.until_rings : (s.until t).rings = s.rings := rfl
@[simp] theorem State.until_phase : (s.until t).phase = s.phase := rfl
@[simp] theorem State.until_cpUp : (s.until t).cpUp = s.cpUp := rfl
@[simp] theorem State.until_mpUp : (s.until t).mpUp = s.mpUp := rfl
@[simp] theorem State.until_spUp : (s.until t).spUp = s.spUp := rfl
@[simp] theorem State.until_id : (s.until t).id = s.id := rfl
@[simp] theorem State.until_pads : (s.until t).pads = s.pads := rfl
@[simp] theorem State.until_clk : (s.until t).clk = s.clk := rfl
@[simp] theorem State.until_proto : (s.until t).proto = s.proto := rfl
@[simp] theorem State.until_flt : (s.until t).flt = s.flt := rfl
@[simp] theorem State.until_ks : (s.until t).ks = s.ks := rfl
@[simp] theorem State.until_sp : (s.until t).sp = s.sp := rfl
@[simp] theorem State.until_com : (s.until t).com = s.com := rfl
@[simp] theorem State.until_locks : (s.until t).locks = s.locks := rfl
@[simp] theorem State.until_pwr : (s.until t).pwr = s.pwr := rfl
@[simp] theorem State.until_scan : (s.until t).scan = s.scan := rfl
@[simp] theorem State.until_beam : (s.until t).beam = s.beam := rfl
@[simp] theorem State.until_lib : (s.until t).lib = s.lib := rfl
@[simp] theorem State.until_link : (s.until t).link = s.link := rfl
@[simp] theorem State.until_casc : (s.until t).casc = s.casc := rfl
@[simp] theorem State.until_bus : (s.until t).bus = s.bus := rfl
@[simp] theorem State.until_cal : (s.until t).cal = s.cal := rfl
@[simp] theorem State.until_diag : (s.until t).diag = s.diag := rfl
@[simp] theorem State.until_sns : (s.until t).sns = s.sns := rfl
@[simp] theorem State.until_tmp : (s.until t).tmp = s.tmp := rfl
@[simp] theorem State.until_bst : (s.until t).bst = s.bst := rfl
@[simp] theorem State.until_upd : (s.until t).upd = s.upd := rfl
@[simp] theorem State.until_chk : (s.until t).chk = s.chk := rfl
@[simp] theorem State.until_saved : (s.until t).saved = s.saved := rfl
end

section
variable (s : State) 
@[simp] theorem State.drawn_now : (s.drawn).now = s.now := rfl
@[simp] theorem State.drawn_pending : (s.drawn).pending = s.pending := rfl
@[simp] theorem State.drawn_draws : (s.drawn).draws = s.draws + 1 := rfl
@[simp] theorem State.drawn_regs : (s.drawn).regs = s.regs := rfl
@[simp] theorem State.drawn_latches : (s.drawn).latches = s.latches := rfl
@[simp] theorem State.drawn_sram : (s.drawn).sram = s.sram := rfl
@[simp] theorem State.drawn_aon : (s.drawn).aon = s.aon := rfl
@[simp] theorem State.drawn_nvm : (s.drawn).nvm = s.nvm := rfl
@[simp] theorem State.drawn_flash : (s.drawn).flash = s.flash := rfl
@[simp] theorem State.drawn_rings : (s.drawn).rings = s.rings := rfl
@[simp] theorem State.drawn_phase : (s.drawn).phase = s.phase := rfl
@[simp] theorem State.drawn_cpUp : (s.drawn).cpUp = s.cpUp := rfl
@[simp] theorem State.drawn_mpUp : (s.drawn).mpUp = s.mpUp := rfl
@[simp] theorem State.drawn_spUp : (s.drawn).spUp = s.spUp := rfl
@[simp] theorem State.drawn_id : (s.drawn).id = s.id := rfl
@[simp] theorem State.drawn_pads : (s.drawn).pads = s.pads := rfl
@[simp] theorem State.drawn_clk : (s.drawn).clk = s.clk := rfl
@[simp] theorem State.drawn_proto : (s.drawn).proto = s.proto := rfl
@[simp] theorem State.drawn_flt : (s.drawn).flt = s.flt := rfl
@[simp] theorem State.drawn_ks : (s.drawn).ks = s.ks := rfl
@[simp] theorem State.drawn_sp : (s.drawn).sp = s.sp := rfl
@[simp] theorem State.drawn_com : (s.drawn).com = s.com := rfl
@[simp] theorem State.drawn_locks : (s.drawn).locks = s.locks := rfl
@[simp] theorem State.drawn_pwr : (s.drawn).pwr = s.pwr := rfl
@[simp] theorem State.drawn_scan : (s.drawn).scan = s.scan := rfl
@[simp] theorem State.drawn_beam : (s.drawn).beam = s.beam := rfl
@[simp] theorem State.drawn_lib : (s.drawn).lib = s.lib := rfl
@[simp] theorem State.drawn_link : (s.drawn).link = s.link := rfl
@[simp] theorem State.drawn_casc : (s.drawn).casc = s.casc := rfl
@[simp] theorem State.drawn_bus : (s.drawn).bus = s.bus := rfl
@[simp] theorem State.drawn_cal : (s.drawn).cal = s.cal := rfl
@[simp] theorem State.drawn_diag : (s.drawn).diag = s.diag := rfl
@[simp] theorem State.drawn_sns : (s.drawn).sns = s.sns := rfl
@[simp] theorem State.drawn_tmp : (s.drawn).tmp = s.tmp := rfl
@[simp] theorem State.drawn_bst : (s.drawn).bst = s.bst := rfl
@[simp] theorem State.drawn_upd : (s.drawn).upd = s.upd := rfl
@[simp] theorem State.drawn_chk : (s.drawn).chk = s.chk := rfl
@[simp] theorem State.drawn_saved : (s.drawn).saved = s.saved := rfl
end

section
variable (s : State) (n : Nat) (q : List Packet)
@[simp] theorem State.setRing_now : (s.setRing n q).now = s.now := rfl
@[simp] theorem State.setRing_pending : (s.setRing n q).pending = s.pending := rfl
@[simp] theorem State.setRing_draws : (s.setRing n q).draws = s.draws := rfl
@[simp] theorem State.setRing_regs : (s.setRing n q).regs = s.regs := rfl
@[simp] theorem State.setRing_latches : (s.setRing n q).latches = s.latches := rfl
@[simp] theorem State.setRing_sram : (s.setRing n q).sram = s.sram := rfl
@[simp] theorem State.setRing_aon : (s.setRing n q).aon = s.aon := rfl
@[simp] theorem State.setRing_nvm : (s.setRing n q).nvm = s.nvm := rfl
@[simp] theorem State.setRing_flash : (s.setRing n q).flash = s.flash := rfl
@[simp] theorem State.setRing_rings : (s.setRing n q).rings = Assoc.set [] s.rings n q := rfl
@[simp] theorem State.setRing_phase : (s.setRing n q).phase = s.phase := rfl
@[simp] theorem State.setRing_cpUp : (s.setRing n q).cpUp = s.cpUp := rfl
@[simp] theorem State.setRing_mpUp : (s.setRing n q).mpUp = s.mpUp := rfl
@[simp] theorem State.setRing_spUp : (s.setRing n q).spUp = s.spUp := rfl
@[simp] theorem State.setRing_id : (s.setRing n q).id = s.id := rfl
@[simp] theorem State.setRing_pads : (s.setRing n q).pads = s.pads := rfl
@[simp] theorem State.setRing_clk : (s.setRing n q).clk = s.clk := rfl
@[simp] theorem State.setRing_proto : (s.setRing n q).proto = s.proto := rfl
@[simp] theorem State.setRing_flt : (s.setRing n q).flt = s.flt := rfl
@[simp] theorem State.setRing_ks : (s.setRing n q).ks = s.ks := rfl
@[simp] theorem State.setRing_sp : (s.setRing n q).sp = s.sp := rfl
@[simp] theorem State.setRing_com : (s.setRing n q).com = s.com := rfl
@[simp] theorem State.setRing_locks : (s.setRing n q).locks = s.locks := rfl
@[simp] theorem State.setRing_pwr : (s.setRing n q).pwr = s.pwr := rfl
@[simp] theorem State.setRing_scan : (s.setRing n q).scan = s.scan := rfl
@[simp] theorem State.setRing_beam : (s.setRing n q).beam = s.beam := rfl
@[simp] theorem State.setRing_lib : (s.setRing n q).lib = s.lib := rfl
@[simp] theorem State.setRing_link : (s.setRing n q).link = s.link := rfl
@[simp] theorem State.setRing_casc : (s.setRing n q).casc = s.casc := rfl
@[simp] theorem State.setRing_bus : (s.setRing n q).bus = s.bus := rfl
@[simp] theorem State.setRing_cal : (s.setRing n q).cal = s.cal := rfl
@[simp] theorem State.setRing_diag : (s.setRing n q).diag = s.diag := rfl
@[simp] theorem State.setRing_sns : (s.setRing n q).sns = s.sns := rfl
@[simp] theorem State.setRing_tmp : (s.setRing n q).tmp = s.tmp := rfl
@[simp] theorem State.setRing_bst : (s.setRing n q).bst = s.bst := rfl
@[simp] theorem State.setRing_upd : (s.setRing n q).upd = s.upd := rfl
@[simp] theorem State.setRing_chk : (s.setRing n q).chk = s.chk := rfl
@[simp] theorem State.setRing_saved : (s.setRing n q).saved = s.saved := rfl
end

section
variable (s : State) (n v : Nat)
@[simp] theorem State.setLost_now : (s.setLost n v).now = s.now := rfl
@[simp] theorem State.setLost_pending : (s.setLost n v).pending = s.pending := rfl
@[simp] theorem State.setLost_draws : (s.setLost n v).draws = s.draws := rfl
@[simp] theorem State.setLost_regs : (s.setLost n v).regs = s.regs := rfl
@[simp] theorem State.setLost_latches : (s.setLost n v).latches = s.latches := rfl
@[simp] theorem State.setLost_sram : (s.setLost n v).sram = s.sram := rfl
@[simp] theorem State.setLost_aon : (s.setLost n v).aon = s.aon := rfl
@[simp] theorem State.setLost_nvm : (s.setLost n v).nvm = s.nvm := rfl
@[simp] theorem State.setLost_flash : (s.setLost n v).flash = s.flash := rfl
@[simp] theorem State.setLost_rings : (s.setLost n v).rings = s.rings := rfl
@[simp] theorem State.setLost_phase : (s.setLost n v).phase = s.phase := rfl
@[simp] theorem State.setLost_cpUp : (s.setLost n v).cpUp = s.cpUp := rfl
@[simp] theorem State.setLost_mpUp : (s.setLost n v).mpUp = s.mpUp := rfl
@[simp] theorem State.setLost_spUp : (s.setLost n v).spUp = s.spUp := rfl
@[simp] theorem State.setLost_id : (s.setLost n v).id = s.id := rfl
@[simp] theorem State.setLost_pads : (s.setLost n v).pads = s.pads := rfl
@[simp] theorem State.setLost_clk : (s.setLost n v).clk = s.clk := rfl
@[simp] theorem State.setLost_flt : (s.setLost n v).flt = s.flt := rfl
@[simp] theorem State.setLost_ks : (s.setLost n v).ks = s.ks := rfl
@[simp] theorem State.setLost_sp : (s.setLost n v).sp = s.sp := rfl
@[simp] theorem State.setLost_com : (s.setLost n v).com = s.com := rfl
@[simp] theorem State.setLost_locks : (s.setLost n v).locks = s.locks := rfl
@[simp] theorem State.setLost_pwr : (s.setLost n v).pwr = s.pwr := rfl
@[simp] theorem State.setLost_scan : (s.setLost n v).scan = s.scan := rfl
@[simp] theorem State.setLost_beam : (s.setLost n v).beam = s.beam := rfl
@[simp] theorem State.setLost_lib : (s.setLost n v).lib = s.lib := rfl
@[simp] theorem State.setLost_link : (s.setLost n v).link = s.link := rfl
@[simp] theorem State.setLost_casc : (s.setLost n v).casc = s.casc := rfl
@[simp] theorem State.setLost_bus : (s.setLost n v).bus = s.bus := rfl
@[simp] theorem State.setLost_cal : (s.setLost n v).cal = s.cal := rfl
@[simp] theorem State.setLost_diag : (s.setLost n v).diag = s.diag := rfl
@[simp] theorem State.setLost_sns : (s.setLost n v).sns = s.sns := rfl
@[simp] theorem State.setLost_tmp : (s.setLost n v).tmp = s.tmp := rfl
@[simp] theorem State.setLost_bst : (s.setLost n v).bst = s.bst := rfl
@[simp] theorem State.setLost_upd : (s.setLost n v).upd = s.upd := rfl
@[simp] theorem State.setLost_chk : (s.setLost n v).chk = s.chk := rfl
@[simp] theorem State.setLost_saved : (s.setLost n v).saved = s.saved := rfl
end

section
variable (s : State) (lo hi : Nat)
@[simp] theorem State.resetRegs_now : (s.resetRegs lo hi).now = s.now := rfl
@[simp] theorem State.resetRegs_pending : (s.resetRegs lo hi).pending = s.pending := rfl
@[simp] theorem State.resetRegs_draws : (s.resetRegs lo hi).draws = s.draws := rfl
@[simp] theorem State.resetRegs_regs : (s.resetRegs lo hi).regs = Assoc.clearRange s.regs (lo * 32) (hi * 32) := rfl
@[simp] theorem State.resetRegs_latches : (s.resetRegs lo hi).latches = s.latches := rfl
@[simp] theorem State.resetRegs_sram : (s.resetRegs lo hi).sram = s.sram := rfl
@[simp] theorem State.resetRegs_aon : (s.resetRegs lo hi).aon = s.aon := rfl
@[simp] theorem State.resetRegs_nvm : (s.resetRegs lo hi).nvm = s.nvm := rfl
@[simp] theorem State.resetRegs_flash : (s.resetRegs lo hi).flash = s.flash := rfl
@[simp] theorem State.resetRegs_rings : (s.resetRegs lo hi).rings = s.rings := rfl
@[simp] theorem State.resetRegs_phase : (s.resetRegs lo hi).phase = s.phase := rfl
@[simp] theorem State.resetRegs_cpUp : (s.resetRegs lo hi).cpUp = s.cpUp := rfl
@[simp] theorem State.resetRegs_mpUp : (s.resetRegs lo hi).mpUp = s.mpUp := rfl
@[simp] theorem State.resetRegs_spUp : (s.resetRegs lo hi).spUp = s.spUp := rfl
@[simp] theorem State.resetRegs_id : (s.resetRegs lo hi).id = s.id := rfl
@[simp] theorem State.resetRegs_pads : (s.resetRegs lo hi).pads = s.pads := rfl
@[simp] theorem State.resetRegs_clk : (s.resetRegs lo hi).clk = s.clk := rfl
@[simp] theorem State.resetRegs_proto : (s.resetRegs lo hi).proto = s.proto := rfl
@[simp] theorem State.resetRegs_flt : (s.resetRegs lo hi).flt = s.flt := rfl
@[simp] theorem State.resetRegs_ks : (s.resetRegs lo hi).ks = s.ks := rfl
@[simp] theorem State.resetRegs_sp : (s.resetRegs lo hi).sp = s.sp := rfl
@[simp] theorem State.resetRegs_com : (s.resetRegs lo hi).com = s.com := rfl
@[simp] theorem State.resetRegs_locks : (s.resetRegs lo hi).locks = s.locks := rfl
@[simp] theorem State.resetRegs_pwr : (s.resetRegs lo hi).pwr = s.pwr := rfl
@[simp] theorem State.resetRegs_scan : (s.resetRegs lo hi).scan = s.scan := rfl
@[simp] theorem State.resetRegs_beam : (s.resetRegs lo hi).beam = s.beam := rfl
@[simp] theorem State.resetRegs_lib : (s.resetRegs lo hi).lib = s.lib := rfl
@[simp] theorem State.resetRegs_link : (s.resetRegs lo hi).link = s.link := rfl
@[simp] theorem State.resetRegs_casc : (s.resetRegs lo hi).casc = s.casc := rfl
@[simp] theorem State.resetRegs_bus : (s.resetRegs lo hi).bus = s.bus := rfl
@[simp] theorem State.resetRegs_cal : (s.resetRegs lo hi).cal = s.cal := rfl
@[simp] theorem State.resetRegs_diag : (s.resetRegs lo hi).diag = s.diag := rfl
@[simp] theorem State.resetRegs_sns : (s.resetRegs lo hi).sns = s.sns := rfl
@[simp] theorem State.resetRegs_tmp : (s.resetRegs lo hi).tmp = s.tmp := rfl
@[simp] theorem State.resetRegs_bst : (s.resetRegs lo hi).bst = s.bst := rfl
@[simp] theorem State.resetRegs_upd : (s.resetRegs lo hi).upd = s.upd := rfl
@[simp] theorem State.resetRegs_chk : (s.resetRegs lo hi).chk = s.chk := rfl
@[simp] theorem State.resetRegs_saved : (s.resetRegs lo hi).saved = s.saved := rfl
end

end Sys2Proof.Machine
end

