-- ==== Sys2Proof/Laws/Frame.lean ====
section
/-! SUPPORT. What the shared operations change: one lemma each. -/

namespace Sys2Proof.Machine

/-! ### Frames compose -/

theorem KeptBut.refl (ps : List Part) (s : State) : KeptBut ps s s := by
  intro p _; cases p <;> exact rfl

theorem Part.same_trans {s t u : State} {p : Part} (h : p.same s t) (k : p.same t u) : p.same s u := by
  cases p <;> exact Eq.trans k h

theorem KeptBut.trans {ps : List Part} {s t u : State} (h : KeptBut ps s t) (k : KeptBut ps t u) : KeptBut ps s u :=
  fun p hp => Part.same_trans (h p hp) (k p hp)

theorem KeptBut.mono {ps qs : List Part} {s t : State} (h : KeptBut ps s t) (hs : ∀ p ∈ ps, p ∈ qs) : KeptBut qs s t :=
  fun p hp => h p (fun m => hp (hs p m))

theorem RegsKeptBut.refl (fs : List Field) (s : State) : RegsKeptBut fs s s := fun _ _ => rfl

theorem RegsKeptBut.trans {fs : List Field} {s t u : State} (h : RegsKeptBut fs s t) (k : RegsKeptBut fs t u) : RegsKeptBut fs s u :=
  fun f hf => (k f hf).trans (h f hf)

theorem RegsKeptBut.of_regs {fs : List Field} {s t : State} (h : t.regs = s.regs) : RegsKeptBut fs s t := by
  intro f _; simp [State.get, h]

/-! ### Registers -/

/-- A field set reads as its value cut to its width, seen through its reset value. -/
@[simp] theorem State.get_set_same (s : State) (f : Field) (v : Nat) : (s.set f v).get f = v % 2 ^ f.width := by
  simp [State.get, State.set, Nat.xor_assoc]

theorem State.get_set_key (s : State) (f g : Field) (v : Nat) (h : g.key = f.key) (hr : g.reset = f.reset) : (s.set f v).get g = v % 2 ^ f.width := by
  simp [State.get, State.set, h, hr, Nat.xor_assoc]

/-- Setting a field leaves every other field alone. -/
theorem State.get_set_other (s : State) (f g : Field) (v : Nat) (h : g.key ≠ f.key) : (s.set f v).get g = s.get g := by
  simp [State.get, State.set, Assoc.get_set_other _ _ _ h]

theorem State.set_regs_kept (s : State) (f : Field) (v : Nat) (fs : List Field) (h : f.key ∈ (fs ++ eventFields).map Field.key) :
    RegsKeptBut fs s (s.set f v) := by
  intro g hg
  refine State.get_set_other s f g v ?_
  intro he; rw [he] at hg; exact hg h

theorem State.set_kept (s : State) (f : Field) (v : Nat) : KeptBut [.regs] s (s.set f v) := by
  intro p hp; cases p <;> first | rfl | simp at hp

theorem State.setAll_kept (l : List (Field × Nat)) : ∀ s : State, KeptBut [.regs] s (s.setAll l) := by
  induction l with
  | nil => intro s; exact KeptBut.refl _ s
  | cons p l ih => intro s; exact (State.set_kept s p.1 p.2).trans (ih _)

theorem State.irq_kept (s : State) (n : Nat) : KeptBut [.regs] s (s.irq n) := State.set_kept s _ _

theorem State.irq_regs_kept (s : State) (n : Nat) (fs : List Field) : RegsKeptBut fs s (s.irq n) :=
  State.set_regs_kept s _ _ fs (by simp [eventFields])

/-! ### Rings and events -/

theorem State.setRing_kept (s : State) (n : Nat) (q : List Packet) : KeptBut [.rings] s (s.setRing n q) := by
  intro p hp; cases p <;> first | rfl | simp at hp

theorem State.push_kept (s : State) (n : Nat) (p : Packet) : KeptBut [.rings] s (s.push n p) := by
  unfold State.push; split
  · exact State.setRing_kept s _ _
  · exact KeptBut.refl _ s

/-- What an event may change. -/
abbrev eventParts : List Part := [.regs, .rings, .proto]

/-- The parts and registers that an event leaves alone. -/
def Quiet (fs : List Field) (s t : State) : Prop := KeptBut eventParts s t ∧ RegsKeptBut fs s t

theorem Quiet.refl (fs : List Field) (s : State) : Quiet fs s s := ⟨KeptBut.refl _ s, RegsKeptBut.refl _ s⟩
theorem Quiet.trans {fs : List Field} {s t u : State} (h : Quiet fs s t) (k : Quiet fs t u) : Quiet fs s u :=
  ⟨h.1.trans k.1, h.2.trans k.2⟩

theorem Quiet.set (s : State) (f : Field) (v : Nat) (fs : List Field) (h : f.key ∈ (fs ++ eventFields).map Field.key) :
    Quiet fs s (s.set f v) :=
  ⟨(State.set_kept s f v).mono (by simp), State.set_regs_kept s f v fs h⟩

theorem Quiet.push (s : State) (n : Nat) (p : Packet) (fs : List Field) : Quiet fs s (s.push n p) := by
  refine ⟨(State.push_kept s n p).mono (by simp), RegsKeptBut.of_regs ?_⟩
  unfold State.push; split <;> rfl

theorem Quiet.proto (s : State) (p : Proto) (fs : List Field) : Quiet fs s { s with proto := p } := by
  refine ⟨?_, RegsKeptBut.of_regs rfl⟩
  intro q hq; cases q <;> first | rfl | simp at hq

theorem Quiet.placeEvent (s : State) (k n o : Nat) (b : List Byte) (fs : List Field) : Quiet fs s (s.placeEvent k n o b) :=
  (Quiet.push s n _ fs).trans (Quiet.proto _ _ fs)

theorem Quiet.setLost (s : State) (n v : Nat) (fs : List Field) : Quiet fs s (s.setLost n v) := Quiet.proto s _ fs

theorem Quiet.placeLost (s : State) (n : Nat) (fs : List Field) : Quiet fs s (s.placeLost n) := by
  unfold State.placeLost
  dsimp only
  split
  · exact Quiet.refl fs s
  · split
    · exact (Quiet.placeEvent s _ _ _ _ fs).trans (Quiet.setLost _ _ _ fs)
    · exact Quiet.refl fs s

theorem Quiet.bumpQuiet (s : State) (f sat : Field) (fs : List Field) (hf : f.key ∈ (fs ++ eventFields).map Field.key)
    (hs : sat.key ∈ (fs ++ eventFields).map Field.key) : Quiet fs s (s.bumpQuiet f sat).1 := by
  unfold State.bumpQuiet
  dsimp only
  split
  · exact Quiet.refl fs s
  · split
    · exact (Quiet.set s f _ fs hf).trans (Quiet.set _ sat _ fs hs)
    · exact Quiet.set s f _ fs hf

theorem Quiet.eventRing (s : State) (k n o : Nat) (b : List Byte) (fs : List Field) : Quiet fs s (s.eventRing k n o b).1 := by
  unfold State.eventRing
  dsimp only
  split
  · exact ((Quiet.placeLost s n fs).trans (Quiet.placeEvent _ _ _ _ _ fs)).trans (Quiet.set _ _ _ fs (by simp [eventFields]))
  · exact (((Quiet.placeLost s n fs).trans (Quiet.setLost _ _ _ fs)).trans (Quiet.set _ _ _ fs (by simp [eventFields]))).trans
      (Quiet.bumpQuiet _ _ _ fs (by simp [eventFields]) (by simp [eventFields]))

theorem Quiet.eventRingList (k o : Nat) (b : List Byte) (fs : List Field) (l : List Nat) : ∀ s : State, Quiet fs s (s.eventRingList k o b l).1 := by
  induction l with
  | nil => intro s; exact Quiet.refl fs s
  | cons n l ih => intro s; exact (Quiet.eventRing s k n o b fs).trans (ih _)

/-- An event changes no part but the registers of `eventFields`, the rings and the protocol's own state. -/
theorem Quiet.eventOf (s : State) (k o : Nat) (b : List Byte) (fs : List Field) : Quiet fs s (s.eventOf k o b) := by
  unfold State.eventOf
  split
  · dsimp only
    split
    · exact (Quiet.eventRingList k o b fs _ s).trans (Quiet.eventRingList _ _ _ fs _ _)
    · exact Quiet.eventRingList k o b fs _ s
  · exact Quiet.proto s _ fs

theorem Quiet.event (s : State) (o : Nat) (b : List Byte) (fs : List Field) : Quiet fs s (s.event o b) := Quiet.eventOf s _ o b fs

/-- A saturating counter changes itself and its flag, and may send an event. -/
theorem Quiet.bump (s : State) (f sat : Field) (fs : List Field) (hf : f.key ∈ (fs ++ eventFields).map Field.key)
    (hs : sat.key ∈ (fs ++ eventFields).map Field.key) : Quiet fs s (s.bump f sat) := by
  unfold State.bump
  dsimp only
  split
  · exact (Quiet.bumpQuiet s f sat fs hf hs).trans (Quiet.event _ _ _ fs)
  · exact Quiet.bumpQuiet s f sat fs hf hs

theorem Quiet.powerEvent (s : State) (a b c d : Nat) (fs : List Field) : Quiet fs s (s.powerEvent a b c d) := Quiet.event _ _ _ fs
theorem Quiet.safetyEvent (s : State) (a b c : Nat) (fs : List Field) : Quiet fs s (s.safetyEvent a b c) := Quiet.event _ _ _ fs
theorem Quiet.beamEvent (s : State) (a b c d : Nat) (fs : List Field) : Quiet fs s (s.beamEvent a b c d) := Quiet.event _ _ _ fs
theorem Quiet.layerEvent (s : State) (a b c : Nat) (fs : List Field) : Quiet fs s (s.layerEvent a b c) := Quiet.event _ _ _ fs

/-! ### Requests -/

theorem Quiet.pushAll (n : Nat) (fs : List Field) (l : List (List Byte)) : ∀ s : State, Quiet fs s (s.pushAll n l) := by
  induction l with
  | nil => intro s; exact Quiet.refl fs s
  | cons b l ih => intro s; exact (Quiet.push s n _ fs).trans (ih _)

theorem Quiet.countErr (s : State) (b : Bool) (st : Status) (fs : List Field) : Quiet (answerFields ++ fs) s (s.countErr b st) := by
  unfold State.countErr
  split
  · exact Quiet.bump s _ _ _ (by simp [answerFields]) (by simp [eventFields])
  · exact Quiet.refl _ s

theorem Quiet.countCmd (s : State) (b : Bool) (st : Status) (fs : List Field) : Quiet (answerFields ++ fs) s (s.countCmd b st) :=
  (Quiet.bump s _ _ _ (by simp [answerFields]) (by simp [eventFields])).trans (Quiet.countErr _ _ _ _)

theorem Quiet.place (a : Answer) (tag : Nat) (op : Op) (r : Req) (fs : List Field) : Quiet fs a.state (a.place tag op r) := by
  unfold Answer.place; split
  · exact Quiet.pushAll _ fs _ _
  · exact Quiet.refl fs _

theorem Quiet.keep (s : State) (n : Nat) (e : Executed) (fs : List Field) : Quiet fs s (s.keep n e) := Quiet.proto s _ fs

theorem State.setCasc_kept (s : State) (c : Cascade) : KeptBut [.casc] s (s.setCasc c) := by
  intro p hp; cases p <;> first | rfl | simp at hp

theorem State.queueFor_kept (s : State) (p : Packet) (ring pos : Nat) : KeptBut [.casc] s (s.queueFor p ring pos) := by
  unfold State.queueFor
  split
  · exact KeptBut.refl _ s
  · dsimp only; split
    · exact (State.setCasc_kept s _).trans (State.setCasc_kept _ _)
    · exact (State.setCasc_kept s _).trans (State.setCasc_kept _ _)

/-- Passing a packet on changes the cascade alone. -/
theorem State.cascadeForward_kept (s : State) (p : Packet) (ring t : Nat) : KeptBut [.casc] s (s.cascadeForward p ring t) := by
  unfold State.cascadeForward
  generalize s.targets t = l
  induction l generalizing s with
  | nil => exact KeptBut.refl _ s
  | cons k l ih => exact (State.queueFor_kept s p ring k).trans (ih _)

theorem KeptBut.regs_eq {ps : List Part} {s t : State} (h : KeptBut ps s t) (hp : Part.regs ∉ ps) : t.regs = s.regs := h .regs hp

/-- The parts that answering a request may change beyond its handler. -/
abbrev answerParts : List Part := [.regs, .rings, .proto, .casc]

theorem State.passOn_kept (s : State) (op : Op) (r : Req) : KeptBut answerParts s (s.passOn op r) :=
  (State.cascadeForward_kept s _ _ _).mono (by simp)

theorem State.passOn_regs (s : State) (op : Op) (r : Req) (fs : List Field) : RegsKeptBut fs s (s.passOn op r) :=
  RegsKeptBut.of_regs ((State.cascadeForward_kept s _ _ _).regs_eq (by simp))

theorem State.reserve_kept (s : State) (x : Option (Nat × Nat)) : Quiet [] s (s.reserve x) := Quiet.proto s _ _

/-- A request that is accepted: its handler runs, and what follows changes the counters, the rings, the protocol's own state
and the cascade alone. -/
theorem State.command_accepted (s : State) (op : Op) (r : Req) (h : s.accepts op r) :
    KeptBut answerParts (op.run r (s.atHandler op r)).state (s.command op r)
      ∧ RegsKeptBut answerFields (op.run r (s.atHandler op r)).state (s.command op r) := by
  obtain ⟨hv, he, hr, hc, ht, hb⟩ := h
  generalize hw : (if s.flag Reg.PWR_STATE.SERVICE then (s.wait r.wait).setPwr { s.pwr with servicePacket := s.now + r.wait }
    else s.wait r.wait) = w
  have hs : (if (s.wait r.wait).flag Reg.PWR_STATE.SERVICE then
      (s.wait r.wait).setPwr { (s.wait r.wait).pwr with servicePacket := (s.wait r.wait).now } else s.wait r.wait) = w := hw
  have hh : s.atHandler op r = w.reserve (some (r.ring + 8, replySpan op.code)) := by rw [← hw]; rfl
  have e1 : w.executes r.ring op.code = true :=
    Eq.trans (b := s.executes r.ring op.code) (by rw [← hw]; split <;> rfl) he
  have e2 : w.cascadeRoom (if w.widened op.code then 0x0F else r.target) = true :=
    Eq.trans (b := s.cascadeRoom (if s.widened op.code then 0x0F else r.target)) (by rw [← hw]; split <;> rfl) hc
  have e3 : (s.atHandler op r).barred op r = none :=
    Eq.trans (b := s.barred op r) (by unfold State.atHandler; split <;> rfl) hb
  have e4 : w.follower = s.follower := by rw [← hw]; split <;> rfl
  have e5 : (s.atHandler op r).follower = s.follower := by unfold State.atHandler; split <;> rfl
  have hm : (s.atHandler op r).modeRefuses op.code r.target = false := by
    rcases ht with h | h | h <;> simp [State.modeRefuses, e5, h]
  have hn : ¬ (w.follower = false ∧ 1 ≤ r.target ∧ r.target ≤ 3 ∧ w.admitted r.target ∧ !w.modeRefuses op.code r.target) := by
    rintro ⟨a, b, c, -⟩
    rcases ht with h | h | h
    · simp [e4, h] at a
    · omega
    · omega
  have hserve : Quiet answerFields (op.run r (s.atHandler op r)).state (w.serve s.tag op r) := by
    unfold State.serve State.answerOf
    rw [← hh]
    simp only [hm, e3, Bool.false_eq_true, if_false]
    have hp : Quiet answerFields (op.run r (s.atHandler op r)).state
        ((((op.run r (s.atHandler op r)).place s.tag op r).reserve none).countCmd
          (replies (op.run r (s.atHandler op r)).state r (op.run r (s.atHandler op r)).status) (op.run r (s.atHandler op r)).status) :=
      ((Quiet.place _ _ _ _ _).trans (Quiet.proto _ _ _)).trans (Quiet.countCmd _ _ _ [])
    split
    · exact hp.trans (Quiet.keep _ _ _ _)
    · exact hp
  have hserve' : KeptBut answerParts (op.run r (s.atHandler op r)).state (w.serve s.tag op r) := hserve.1.mono (by simp)
  unfold State.command State.commandAs
  simp only [hv, he, hr, Bool.not_true, Bool.false_eq_true, if_false, if_true]
  simp only [hs, e1, e2, Bool.and_self, if_true, if_neg hn]
  split
  · exact ⟨hserve'.trans (State.passOn_kept _ _ _), hserve.2.trans (State.passOn_regs _ _ _ _)⟩
  · split
    · exact ⟨hserve'.trans (State.passOn_kept _ _ _), hserve.2.trans (State.passOn_regs _ _ _ _)⟩
    · exact ⟨hserve', hserve.2⟩

end Sys2Proof.Machine
end

