-- ==== Sys2Proof/Tests/Slice0.lean ====
section
/-! SUPPORT. Tests: a witness for the hypotheses of every clause of every statement, commands that cannot be sent, and the spec's
worked examples. -/

namespace Sys2Proof.Tests
open Sys2Proof Sys2Proof.Machine

set_option Elab.async false

/-! ### States to start from -/

/-- A module in READY whose cores run: the state that the tests start from. -/
def base : State := { State.reset with phase := .service, cpUp := true, mpUp := true, spUp := true }

/-- A request of ring 0 with a reply, for this module. -/
def rq (ps : List Byte) : Req := ⟨0, 1, true, 0, ps, 0⟩

/-- Scan-out runs and loads rows. -/
def scanning : State := { base with scan := { base.scan with running := true, loading := true, convKey := some [] } }

/-- Scan-out is in the slot of its frame. -/
def slot : State := { scanning with scan := { scanning.scan with inSlot := true, row := 512 } }

/-- Programmable light is allowed and site 0 is lit. -/
def lit : State := { scanning.setAll [(Reg.SAF_STATUS.KS_ALLOW, 1)] with scan := { scanning.scan with activePwm := [(0, 4095)] }, ks := { base.ks with taken := false } }

/-- The signatures received agree with those computed. -/
def signed : State :=
  ((slot.set Reg.SCN_SIG_CONTENT.SIG slot.contentSig).set Reg.SCN_SIG_WITNESS.SIG (slot.witnessSig 1)).set Reg.SCN_SIG_FRAME.COUNT 1

theorem rowCheck_set (s : State) (f : Field) (v : Nat) (h : f.addr < 0x40801000) (h32 : f.lo < 32) : (s.set f v).rowCheckBytes = s.rowCheckBytes := by
  unfold State.rowCheckBytes
  congr 1
  funext r
  rw [State.get_set_other _ _ _ _ (by simp only [Field.key, Reg.SCN_ROWCHK_BUILD.CHK]; omega)]

theorem signed_rowCheck : signed.rowCheckBytes = slot.rowCheckBytes := by
  simp only [signed, rowCheck_set _ _ _ (show Reg.SCN_SIG_CONTENT.SIG.addr < _ by decide) (by decide),
    rowCheck_set _ _ _ (show Reg.SCN_SIG_WITNESS.SIG.addr < _ by decide) (by decide),
      rowCheck_set _ _ _ (show Reg.SCN_SIG_FRAME.COUNT.addr < _ by decide) (by decide)]

theorem signed_content : signed.get Reg.SCN_SIG_CONTENT.SIG = signed.contentSig := by
  unfold State.contentSig
  rw [signed_rowCheck]
  simp only [signed]
  rw [State.get_set_other _ _ _ _ (by decide), State.get_set_other _ _ _ _ (by decide), State.get_set_same]
  exact Nat.mod_eq_of_lt (crc32c_lt _)

theorem signed_get (f : Field) (h : f.key ≠ Reg.SCN_SIG_CONTENT.SIG.key ∧ f.key ≠ Reg.SCN_SIG_WITNESS.SIG.key ∧ f.key ≠ Reg.SCN_SIG_FRAME.COUNT.key) :
    signed.get f = slot.get f := by
  simp only [signed]
  rw [State.get_set_other _ _ _ _ h.2.2, State.get_set_other _ _ _ _ h.2.1, State.get_set_other _ _ _ _ h.1]

theorem comingCount_of (s : State) (h : s.casc.realign = none) (hc : s.get Reg.SCN_FRAME_COUNT.COUNT = 0) : s.comingCount = 1 := by
  simp only [State.comingCount, h, hc]
  first | done | decide

theorem signed_coming : signed.comingCount = 1 :=
  comingCount_of signed (by simp only [signed, State.set]; rfl) ((signed_get _ (by decide)).trans (by decide +kernel))

theorem signed_armed (c : Nat) : signed.armed c = slot.armed c := by
  unfold State.armed State.flag
  rw [signed_get _ (by decide), signed_get _ (by decide)]

theorem signed_witness : signed.get Reg.SCN_SIG_WITNESS.SIG = signed.witnessSig signed.comingCount := by
  rw [signed_coming]
  unfold State.witnessSig
  rw [signed_rowCheck]
  simp only [signed]
  rw [State.get_set_other _ _ _ _ (by decide), State.get_set_same]
  exact Nat.mod_eq_of_lt (crc32cFold_lt _ _)

/-- A calibration commit of tile 0. -/
def commit0 (run : Bool) : CalCommit :=
  { at_ := 0, tiles := [0], eff := [], effTheta := [], refs := [], masked := [], states := [], ages := [], run := run, clips := [], events := [] }

/-- A dim box in context 127, and its entry as bytes (Table 6-2). -/
def boxEntry : ObjEntry := ⟨1, false, false, false, false, 0, 63, 63, 10000, 0, 100, 0, 50, 0, 0, 0, 4096, 0, 7⟩
def boxBytes : List Byte := boxEntry.bytes 127
def boxCtx (releasing : Bool) : Ctx := ⟨boxEntry, releasing, false, none, 1⟩

/-- The two parts of a field map whose nodes rise. -/
def mapPart0 : List Byte :=
  [0, 0] ++ le 2 0 ++ le 2 0 ++ le 2 0 ++ le 2 10 ++ le 2 5 ++ (List.range 165).flatMap (fun k => le 2 (10 * (k % 33)) ++ le 2 (5 * (k / 33)))
def mapPart1 : List Byte :=
  [1, 1] ++ le 2 0 ++ le 2 0 ++ le 2 0 ++ le 2 10 ++ le 2 5 ++ (List.range 132).flatMap (fun k => le 2 (10 * (k % 33)) ++ le 2 (5 * (k / 33 + 5)))

/-- Layer 1 takes its pixels from its buffer. -/
def layered : State :=
  let l : Layer := ⟨2, 0, 0, 1, 0, 2047, 0, 511, 0, 0, 0, 16, 16, 0, true, false⟩
  { base with beam := { base.beam with work := { base.beam.work with layers := setNth base.beam.work.layers 1 l } } }

/-- A pattern is being installed in the RAM store. -/
def install0 : Install := ⟨1, 255, 1, crc32cFold 0 [0xAA], 0, 0, 0, 0, 0⟩
def installing0 : State := { base.set Reg.CMP_LIB_STATUS.RAM_STORE 1 with lib := { base.lib with install := some install0 } }

/-- External flash of 256 MB is fitted. -/
def flashed : State := { base with lib := { base.lib with devices := [2 ^ 28] } }

/-- The pixel link in a state of Table 8-9. -/
def linked (st : Nat) : State := base.setAll [(Reg.LNK_STATUS.STATE, st), (Reg.LNK_STATUS.GEN, 2), (Reg.LNK_STATUS.LANES, 1), (Reg.LNK_STATUS.LOCK,
  1)]
def receiving (next : Nat) : Receiving := ⟨5, 2, 1, next, [], none, 0, 0, 0, 0, []⟩

/-- A record with its check at the end (R230, R231). -/
def checked (b : List Byte) : List Byte := b ++ le 4 (crc32cFold 0 b)

/-- Row packet 511 of a frame: 2,048 bytes of pixels, its check. -/
def rowData : List Byte := le 2 511 ++ le 2 5 ++ le 12 0 ++ List.replicate 2048 0
def rowPacket : List Byte := rowData ++ (le 4 (crc32cFold (5 * 65536 + 511) rowData) ++ le 12 0)

theorem ofLe_le4 (x : Nat) (h : x < 2 ^ 32) : ofLe (le 4 x) = x := by
  simp only [le, ofLe, byte, BitVec.toNat_ofNat]
  omega

theorem rowPacket_field (c off : Nat) (h : off ∈ [0, 2]) : leAt (rowData ++ (le 4 c ++ le 12 0)) off 2 = if off = 0 then 511 else 5 := by
  simp only [List.mem_cons, List.not_mem_nil, or_false] at h
  rcases h with rfl | rfl <;> rfl

theorem rowPacket_length : rowPacket.length = 2080 := by
  have h : rowData.length = 2064 := by decide +kernel
  unfold rowPacket
  rw [List.length_append, h]
  rfl

theorem rowPacket_check : crc32cFold (5 * 65536 + 511) (rowPacket.take 2064) = leAt rowPacket 2064 4 := by
  have h : rowData.length = 2064 := by decide +kernel
  have e : leAt rowPacket 2064 4 = ofLe (le 4 (crc32cFold (5 * 65536 + 511) rowData)) := by
    unfold leAt rowPacket
    rw [List.drop_left' h, List.take_left' (show (le 4 _).length = 4 from rfl)]
  rw [e, ofLe_le4 _ (crc32cFold_lt _ _), rowPacket, List.take_left' h]

/-- A good request packet for this module: SYS_IDENTIFY (opcode 0x0100). -/
def packet0 : List Byte := sealed 0 0x0100 1 1 0 []
def legacyMode : State := { base with id := { base.id with legacy := true } }
def dali : State := { base.set Reg.HST_CTRL.DALI_EN 1 with id := { base.id with variant := .iw } }

/-- A follower at position 1 that its master admitted. -/
def mark0 (admitMap : Nat) : Mark := ⟨0, 250000, 60, 4240, ⟨0, false, 0, [0, 0, 0, 0]⟩, admitMap, 2, 0⟩
def follower : State := { linked 6 with id := { base.id with role := 1 } }
def admitted : State := { follower with casc := { base.casc with last := some (mark0 2) } }
def member0 (queue : List Packet) : Member := ⟨7, 0, 0, 0, 0, 0, 0, queue⟩
def membered : State := { base with casc := { base.casc with members := [(1, member0 [])] } }
def hello : List Byte := [1, 0] ++ le 2 0x0100 ++ le 8 7 ++ le 8 0

def marker0 : List Byte := le 4 1 ++ le 4 200 ++ [60, 0] ++ le 2 0 ++ [2, 2, 0, 0] ++ le 8 0 ++ le 4 0
def marker : List Byte := checked marker0
def mark1 : Mark := ⟨1, 0, 60, 0, ⟨0, false, 0, [0, 0, 0, 0]⟩, 2, 2, 0⟩
def take0 : List Byte := checked (le 28 1)

def up0 : List Byte := sealed 0 0x8100 1 1 1 (le 2 0)
def routed : State := { membered with casc := { membered.casc with routes := [(1, 0x0100, 1, 0)] } }

/-- The configuration is good, so that the SP may raise PERMIT. -/
def configured : State :=
  { base.setAll [(Reg.SAF_STATUS.MAP_MATCH, 1), (Reg.SAF_STATUS.PERMIT, 1)] with
    id := { base.id with lifecycle := .service }, sp := { base.sp with coverageOk := true } }
def beating : State := { configured with ks := { configured.ks with lastToggle := some 0 } }
def lockout : State := base.set Reg.SAF_STATUS.LOCKED_OUT 1
def timing (channel : Nat) : State := (base.setPairView channel 1 { PairView.rest with since := some 5 })

/-- The cut-off guard acts on a block whose cut-off is enabled and whose CUTOFF_I_LIMIT is 1,000. -/
def guarding (armed : Nat) : State :=
  { base.set Reg.SAF_STATUS.CUTOFF_ARMED armed with
    now := 1000000, scan := { base.scan with running := true, frameStart := 900000 }
    ks := { base.ks with armed := true, armAt := some 7, copy0 := ⟨true, 1, deliveredBlock 0⟩ } }

/-- The Kiln Shutter has not read its NVM yet. -/
def lockRec : LockRecord := ⟨3, 2, false, 0, 3, 0⟩
def block0 : List Byte := le 4 0x50534B46
def confirming (digest : List Byte) : Req := rq (le 4 (Block.check 1 block0) ++ le 4 0 ++ digest)
def staged0 : State := { base with com := { base.com with staged := some (block0, 0) }, sp := { base.sp with digest := le 32 3 } }
/-- Lock-out after PERMIT was withdrawn; nothing that caused it remains. -/
def arming : State :=
  { lockout.set Reg.SAF_STATUS.ARMED 1 with
    now := ms 200, sp := { base.sp with armNonce := 5, armAt := ms 200, coverageOk := true, lbistOk := true } }

def kiln0 : KilnEntry := ⟨0, 0x0A0, 2, false, false, false, false, false, 9, 7, 0, 0, 0, 3, 0, 0⟩
def firstFault : State := base.setAll [(Reg.FLT_STATUS.FIRST_VALID, 1), (Reg.FLT_FIRST_ID.SEQ, 9)]

/-- An entry to STANDBY from READY. -/
def entry0 (target : Nat) (testing : Bool) : Entry := ⟨target, testing, 0, 0, 2, 0, testing, 0⟩
def entering (e : Entry) (step : Nat) : State := { base.set Reg.PWR_STATE.STEP step with pwr := { base.pwr with entry := some e } }
def ready1 : State := base.set Reg.PWR_STATE.POWER 1
def standby : State := base.set Reg.PWR_STATE.POWER 3
def waking0 (target origin : Nat) (checked : Bool) : Wake := ⟨0, target, origin, 0, checked⟩
def waking (w : Wake) : State := { base.set Reg.PWR_STATE.POWER 0 with phase := .service, pwr := { base.pwr with wake := some w } }

def result0 : TestResult := ⟨2, 1, false, false, false, 0, 0, 0, []⟩

def thermalPolicy (flags : Nat) : List Byte :=
  le 2 1300 ++ le 2 1250 ++ le 2 1500 ++ le 2 0 ++ [100, byte flags] ++ le 2 400 ++ le 2 10000 ++ le 2 10 ++ le 2 500 ++ le 2 0

/-- A test run, with the items or units left. -/
def run0 (engine : Nat) (left : List Nat) : TestRun := ⟨engine, 0, left, false, 0, [], false, false⟩
def testing (x : TestRun) : State := { base with bst := { base.bst with run := some x } }

/-- The state of a core's image, its region holding a header of size 4. -/
def core0 (st : Nat) : CoreImage := { CoreImage.delivered_ 1 with state := st, delivered := false }
def held (st : Nat) : State := (base.setCore 1 (core0 st)).nvmStore 0x20340014 [4, 0, 0, 0]
def header1 : List Byte :=
  le 4 0x50554B46 ++ le 2 1 ++ [1, 0] ++ le 4 0x3FFFF ++ le 4 7 ++ [1, 0] ++ le 2 1 ++ le 4 4 ++ le 8 0 ++ le 32 5 ++ le 192 0
def session (st coreState : Nat) (flash : List Nat) : State :=
  let s := (held coreState).setAll [(Reg.UPD_SESSION.STATE, st), (Reg.UPD_SESSION.TARGET, 1)]
  { s with upd := { s.upd with header := header1 }, lib := { s.lib with devices := flash } }
def archive1 : LibEntry := ⟨0, 12288, 260, 0⟩
def archived1 (st : Nat) : State := let s := session st 4 [2 ^ 28]; { s with lib := { s.lib with archive := [(1, some archive1)] } }
def booting (fb : Bool) (act : Option Nat) : State :=
  let s := session 5 3 []
  { s with upd := { s.upd with restart := some (1, fb), activated := act } }

def assembly0 : Assembly := ⟨0x0802, 3, 0, [1, 2], 1, 5⟩
def scan0 : CheckScan := ⟨0, 0x40000000, 4, 3, none, false, 0⟩
def checking : State := { base.set (Reg.CHK_STATUS.BUSY 3) 1 with chk := { base.chk with scans := [(3, scan0)] } }

def layeredBuffer : State := layered

def running : State :=
  let s := (base.setCore 0 { CoreImage.delivered_ 0 with running := le 32 1 }).setCore 1 { CoreImage.delivered_ 1 with running := le 32 2 }
  { s with tmp := { s.tmp with published := some 0 } }

/-- A follower that its master admitted, its link down. -/
def follower0 : State := { base with id := { base.id with role := 1 }, casc := { base.casc with last := some (mark0 2) } }

/-! ### Every hypothesis can be met: one witness for each clause of each statement -/

theorem meets_RowsAreCommittedWholeOrRepeat_0 : ∃ (_level : Nat) (s : State),
    s.scan.running = true ∧ s.scan.loading = true ∧ s.scanHeld = false ∧ s.scan.convKey.isSome = true ∧ s.scan.inSlot = false ∧ s.scan.row < 512
      ∧ s.scan.staged = false ∧ s.scan.rowDone = false ∧ s.scan.sent = false :=
  ⟨3, scanning, by decide +kernel⟩

theorem meets_RowsAreCommittedWholeOrRepeat_1 : ∃ (transfers : Nat) (s : State),
    s.scan.running = true ∧ s.scan.staged = true ∧ s.scan.rowDone = false ∧ s.scan.inSlot = false ∧ s.scanHeld = false ∧ s.scan.row < 512
      ∧ s.armed 0x24 = false ∧ 102 ≤ transfers ∧ s.now + 41 ≤ s.tickAt (8 * s.scan.row + 8) :=
  ⟨102, { scanning with scan := { scanning.scan with staged := true } }, by decide +kernel⟩

theorem meets_RowsAreCommittedWholeOrRepeat_2 : ∃ (_transfers : Nat) (s : State),
    s.scan.running = true ∧ s.scan.staged = true ∧ s.scan.rowDone = false ∧ s.scan.inSlot = false ∧ s.scanHeld = false :=
  ⟨102, { scanning with scan := { scanning.scan with staged := true } }, by decide +kernel⟩

theorem meets_RowsAreCommittedWholeOrRepeat_3 : ∃ s : State,
    s.scan.running = true ∧ s.scan.loading = true ∧ s.scanHeld = false ∧ s.scan.inSlot = false ∧ s.scan.row < 512 :=
  ⟨{ scanning with scan := { scanning.scan with row := 511 } }, by decide +kernel⟩

theorem meets_RowsAreCommittedWholeOrRepeat_4 : ∃ (transfers row : Nat) (rest : List Nat) (s : State),
    s.scan.reloads = row :: rest ∧ s.scan.running = true ∧ s.scan.inSlot = false ∧ s.scanHeld = false ∧ s.now + 42 ≤ s.slotAt ∧ s.armed 0x24 = false
      ∧ 102 ≤ transfers :=
  ⟨102, 5, [], { scanning with scan := { scanning.scan with reloads := [5] } }, by decide +kernel⟩

theorem meets_TheSlotIsSignedAndChecked_0 : ∃ s : State,
    s.scan.running = true ∧ s.scan.inSlot = false :=
  ⟨scanning, by decide +kernel⟩

theorem meets_TheSlotIsSignedAndChecked_1 : ∃ (_arrives : Bool) (s : State),
    s.scan.running = true ∧ s.scan.inSlot = true ∧ s.scan.loading = true ∧ s.scanHeld = false :=
  ⟨true, slot, by decide +kernel⟩

theorem meets_TheSlotIsSignedAndChecked_2 : ∃ (n : Nat) (s : State),
    s.scan.running = true ∧ s.scan.inSlot = true ∧ s.spUp = true ∧ s.sp.limitDone = false ∧ n < 128 ∧ Block.dimQMax s.spBlock < s.boxFinal n
      ∧ s.lockedOut = false ∧ (∀ w ∈ s.flt.windows, w.reaction ≠ 6) :=
  ⟨127, { slot with scan := { slot.scan with boxRun := [(127, 60000)] } }, by decide +kernel⟩

theorem meets_TheSlotIsSignedAndChecked_3 : ∃ s : State,
    s.scan.running = true ∧ s.scan.inSlot = true ∧ s.spUp = true ∧ s.sp.limitDone = false ∧ s.cutFor = false ∧ (∀ n < 128,
      s.boxFinal n ≤ Block.dimQMax s.spBlock) :=
  ⟨slot, by decide +kernel⟩

theorem meets_TheSlotIsSignedAndChecked_4 : ∃ s : State,
    s.scan.running = true ∧ s.scan.inSlot = true ∧ s.spUp = true ∧ s.scanHeld = false ∧ s.sp.pause = 0 ∧ s.scan.loading = true ∧ s.armed 0x21 = false
      ∧ s.armed 0x22 = false ∧ s.get Reg.SCN_SIG_CONTENT.SIG = s.contentSig ∧ s.get Reg.SCN_SIG_WITNESS.SIG = s.witnessSig s.comingCount
      ∧ s.get Reg.SCN_SIG_FRAME.COUNT = s.comingCount ∧ s.sp.changes = [] ∧ s.sp.misses ≠ 3 :=
  ⟨signed, rfl, rfl, rfl, by unfold State.scanHeld State.lockedOut State.flag; rw [signed_get _ (by decide)]; rfl, rfl, rfl,
   by rw [signed_armed]; decide +kernel, by rw [signed_armed]; decide +kernel, signed_content, signed_witness,
   by rw [signed_coming]; simp only [signed]; rw [State.get_set_same]; decide, rfl, by decide⟩

theorem meets_TheSlotIsSignedAndChecked_5 : ∃ (row : Nat) (s : State),
    s.scan.running = true ∧ s.scan.inSlot = true ∧ s.spUp = true ∧ s.scanHeld = false ∧ s.sp.pause = 0 ∧ s.scan.loading = true
      ∧ row / 4 = s.get Reg.SCN_FRAME_COUNT.COUNT % 128 ∧ s.get Reg.SAF_OUTPUT_ERR_COUNT.COUNT < Reg.SAF_OUTPUT_ERR_COUNT.COUNT.max :=
  ⟨511, slot.set Reg.SCN_FRAME_COUNT.COUNT 127, by decide +kernel⟩

theorem meets_FramesSwapOrCopyBackAtTheirBoundary_0 : ∃ s : State,
    s.scan.running = true ∧ s.scan.inSlot = true ∧ s.scan.decision = none ∧ s.scan.loading = true ∧ s.scanHeld = false ∧ s.sp.limitDone = true
      ∧ s.diag.slot = [] :=
  ⟨{ slot with sp := { slot.sp with limitDone := true } }, by decide +kernel⟩

theorem meets_FramesSwapOrCopyBackAtTheirBoundary_1 : ∃ s : State,
    s.scan.running = true ∧ s.scan.inSlot = true ∧ s.scan.decision = none ∧ s.scanHeld = true ∧ s.sp.limitDone = true :=
  ⟨{ slot.set Reg.SAF_STATUS.LOCKED_OUT 1 with sp := { slot.sp with limitDone := true } }, by decide +kernel⟩

theorem meets_FramesSwapOrCopyBackAtTheirBoundary_2 : ∃ (d : Bool) (s : State),
    s.scan.running = true ∧ s.scan.inSlot = true ∧ s.scan.decision = some d :=
  ⟨true, { slot with scan := { slot.scan with decision := some true } }, by decide +kernel⟩

theorem meets_FramesSwapOrCopyBackAtTheirBoundary_3 : ∃ (last v : Nat) (s : State),
    s.scan.lastInput = some last ∧ s.video15 = some v ∧ s.scan.running = true ∧ s.flag Reg.SCN_LOCK_CTRL.EN = true ∧ s.follower = false :=
  ⟨17000000, 15000000, { scanning.set Reg.SCN_LOCK_CTRL.EN 1 with scan := { scanning.scan with lastInput := some 17000000, video := some 15000000 } },
    by decide +kernel⟩

theorem meets_ConversionScalesEveryStringWithinTheBudget_0 : ∃ s : State,
    s.scan.running = true ∧ s.scan.loading = true ∧ s.scanHeld = false ∧ s.scan.convKey ≠ some s.convSource :=
  ⟨{ scanning with scan := { scanning.scan with convKey := none } }, by decide +kernel⟩

theorem meets_StringsReportAndRamp_0 : ∃ (string _mv : Nat) (s : State),
    s.regulatorRuns string = true ∧ (s.scan.idle.find string).isNone = true ∧ maxPwm s.scan.activePwm string ≠ 0 :=
  ⟨0, 700, lit, by decide +kernel⟩

theorem meets_StringsReportAndRamp_1 : ∃ (site mv : Nat) (s : State),
    s.limpLit (stringOf site) = false ∧ s.driven = true ∧ Assoc.get 0 s.scan.activePwm site ≠ 0 ∧ s.scan.inSlot = false
      ∧ Assoc.get 0 s.scan.byp site = 0 ∧ Assoc.get 0 s.scan.clamped site = 0 ∧ 5000 < mv
      ∧ 120 ≤ (if s.scan.split then partLen (Assoc.get 0 s.scan.activePwm site) 0 else Assoc.get 0 s.scan.activePwm site) * s.tickLen :=
  ⟨0, 5001, lit, by decide +kernel⟩

theorem meets_StringsReportAndRamp_2 : ∃ (_site mv : Nat) (_s : State),
    mv < 4000 :=
  ⟨0, 3999, lit, by decide +kernel⟩

theorem meets_StringsReportAndRamp_3 : ∃ (from_ : Nat) (s : State),
    s.ks.rampAt = some from_ ∧ s.get Reg.STR_LIMP_STATUS.CLASS < s.limpClass ∧ s.ks.ramped = false ∧ s.ksTested = false :=
  ⟨0, { lit with ks := { lit.ks with rampAt := some 0 } }, by decide +kernel⟩

theorem meets_StringsReportAndRamp_4 : ∃ (r : Req) (v : Nat) (s : State),
    s.accepts opRegWrite (withWrite 0x40900000 [v] r) ∧ bit v 1 = false :=
  ⟨rq [], 1, base, by unfold State.accepts; decide +kernel⟩

theorem meets_StringsReportAndRamp_5 : ∃ (r : Req) (v : Nat) (s : State),
    s.accepts opRegWrite (withWrite 0x40900000 [v] r) ∧ bit v 1 = true ∧ s.scan.vtrackFrom = none ∧ s.phase ≠ .dark ∧ s.phase ≠ .alwaysOn :=
  ⟨rq [], 2, base, by unfold State.accepts; decide +kernel⟩

theorem meets_StringsReportAndRamp_6 : ∃ (n : Nat) (s : State),
    s.phase ≠ .dark ∧ 1000 ≤ n :=
  ⟨1000, base, by decide +kernel⟩

theorem meets_StringsReportAndRamp_7 : ∃ s : State,
    s.scan.running = true ∧ s.scan.loading = true ∧ s.scanHeld = false ∧ s.scan.convKey ≠ some s.convSource :=
  ⟨{ scanning with scan := { scanning.scan with convKey := none } }, by decide +kernel⟩

theorem meets_CalibrationRunsAndFollowUpsCommit_0 : ∃ (r : Req) (s : State),
    s.accepts opCalRun r ∧ (bit (leAt r.params 0 1) 3 = true → s.id.lifecycle = .manufacture) ∧ s.calBusy = false ∧ s.pwr.entry = none
      ∧ leAt r.params 0 1 ≠ 0 ∧ leAt r.params 0 1 < 16 ∧ leAt r.params 1 1 = 0
      ∧ (List.range 256).filter (fun n => bit (leAt r.params (2 + n / 8) 1) (n % 8)) ≠ [] :=
  ⟨rq ([1, 0, 1] ++ le 31 0), base, by unfold State.accepts; decide +kernel⟩

theorem meets_CalibrationRunsAndFollowUpsCommit_1 : ∃ (r : CalRun) (s : State),
    s.cal.run = some r ∧ s.cal.pending = none ∧ s.mpUp = true ∧ (∀ n ∈ r.tiles,
      tableBad (s.cal.table (toSigned 16 (s.get (Reg.TMP_TILE.THETA n)))) = false) :=
  ⟨⟨1, [0], 0, []⟩, { base with cal := { base.cal with run := some ⟨1, [0], 0, []⟩ } }, by decide +kernel⟩

theorem meets_CalibrationRunsAndFollowUpsCommit_2 : ∃ (r : CalRun) (n : Nat) (s : State),
    s.cal.run = some r ∧ s.cal.pending = none ∧ s.mpUp = true ∧ n ∈ r.tiles
      ∧ tableBad (s.cal.table (toSigned 16 (s.get (Reg.TMP_TILE.THETA n)))) = true :=
  ⟨⟨1, [0], 0, []⟩, 0, { base with cal := { base.cal with run := some ⟨1, [0], 0, []⟩, yref := 0 } }, by decide +kernel⟩

theorem meets_CalibrationRunsAndFollowUpsCommit_3 : ∃ (a : Nat) (s : State),
    s.cal.followAt = some a ∧ s.cal.pending = none ∧ s.mpUp = true :=
  ⟨0, { base with cal := { base.cal with followAt := some 0 } }, by decide +kernel⟩

theorem meets_CalibrationsCompleteAndStartAgain_0 : ∃ (c : CalCommit) (s : State),
    s.cal.writing = some c ∧ c.run = true :=
  ⟨commit0 true, { base with cal := { base.cal with writing := some (commit0 true) } }, by decide +kernel⟩

theorem meets_CalibrationsCompleteAndStartAgain_1 : ∃ (c : CalCommit) (s : State),
    s.cal.writing = some c ∧ c.run = false :=
  ⟨commit0 false, { base with cal := { base.cal with writing := some (commit0 false) } }, by decide +kernel⟩

theorem meets_CalibrationsCompleteAndStartAgain_2 : ∃ s : State,
    s.flag Reg.CAL_CTRL.AUTO_EN = true ∧ s.calBusy = false ∧ (s.power = 1 ∨ s.power = 2) ∧ s.mpUp = true :=
  ⟨base.set Reg.CAL_CTRL.AUTO_EN 1, by decide +kernel⟩

theorem meets_AgeingIsAccumulatedAndCalibrationIsRead_0 : ∃ s : State,
    s.mpUp = true :=
  ⟨base, by decide +kernel⟩

theorem meets_AgeingIsAccumulatedAndCalibrationIsRead_1 : ∃ s : State,
    s.mpUp = true ∧ s.power ≤ 2 :=
  ⟨base, by decide +kernel⟩

theorem meets_AgeingIsAccumulatedAndCalibrationIsRead_2 : ∃ (r : Req) (s : State),
    s.accepts opCalStatus r ∧ s.answers r :=
  ⟨rq ([]), base, by unfold State.accepts State.answers; decide +kernel⟩

theorem meets_AgeingIsAccumulatedAndCalibrationIsRead_3 : ∃ (r : Req) (s : State),
    s.accepts opDefectMapRead r ∧ s.answers r ∧ leAt r.params 0 1 = 1 ∧ leAt r.params 1 1 = 0 ∧ leAt r.params 2 4 < 512 :=
  ⟨rq ([1, 0] ++ le 4 511), base, by unfold State.accepts State.answers; decide +kernel⟩

theorem meets_AgeingIsAccumulatedAndCalibrationIsRead_4 : ∃ (r : Req) (s : State),
    s.accepts opDefectMapRead r ∧ s.answers r ∧ leAt r.params 0 1 = 0 ∧ leAt r.params 1 1 = 0 ∧ leAt r.params 2 4 < 1048576 :=
  ⟨rq ([0, 0] ++ le 4 1048575), base, by unfold State.accepts State.answers; decide +kernel⟩

theorem meets_ForwardSamplesConfirmFindings_0 : ∃ (site _mv : Nat) (_void : Bool) (s : State),
    s.forwardOn (stringOf site) = true ∧ sampledLit s.scan.split (Assoc.get 0 s.scan.activePwm site) = true
      ∧ Assoc.get 0 s.diag.sampled (2 * site) = 0 :=
  ⟨0, 2900, false, lit, by decide +kernel⟩

theorem meets_ForwardSamplesConfirmFindings_1 : ∃ (site _mv a : Nat) (s : State),
    s.forwardOn (stringOf site) = true ∧ s.darkTick site = some a ∧ Assoc.get 0 s.diag.sampled (2 * site + 1) = 0 :=
  ⟨1, 2900, 1, { lit with scan := { lit.scan with activePwm := [(0, 4095), (1, 1)] } }, by decide +kernel⟩

theorem meets_ForwardSamplesConfirmFindings_2 : ∃ s : State,
    s.scan.running = true ∧ s.scan.inSlot = true ∧ s.get Reg.SCN_FRAME_COUNT.COUNT % 2 = 0 ∧ s.flag Reg.DIAG_CTRL.PROBE_EN = true
      ∧ s.diag.probed < 4 :=
  ⟨slot, by decide +kernel⟩

theorem meets_TheOpenProbeSweepsRows_0 : ∃ (_readings : List Probe) (s : State),
    s.scan.running = true ∧ s.scan.inSlot = true ∧ s.get Reg.SCN_FRAME_COUNT.COUNT % 2 = 0 ∧ s.flag Reg.DIAG_CTRL.PROBE_EN = true
      ∧ s.diag.probed < 4 :=
  ⟨[], slot, by decide +kernel⟩

theorem meets_TheOpenProbeSweepsRows_1 : ∃ (_readings : List Probe) (row : Nat) (s : State),
    s.scan.running = true ∧ s.scan.inSlot = true ∧ s.get Reg.SCN_FRAME_COUNT.COUNT % 2 = 0 ∧ s.flag Reg.DIAG_CTRL.PROBE_EN = true ∧ s.diag.probed = 4
      ∧ s.diag.prio = some row :=
  ⟨[], 7, { slot with diag := { slot.diag with probed := 4, prio := some 7, queue := [(7, true)] } }, by decide +kernel⟩

theorem meets_ReverseSensingReadsItsMaps_0 : ∃ (_lux : List Nat) (s : State),
    s.scan.running = true ∧ s.scan.inSlot = true ∧ s.get Reg.SCN_FRAME_COUNT.COUNT % 2 = 1 :=
  ⟨[], slot.set Reg.SCN_FRAME_COUNT.COUNT 1, by decide +kernel⟩

theorem meets_ReverseSensingReadsItsMaps_1 : ∃ (zone last : Nat) (s : State),
    zone < 8 ∧ s.sns.heldAt.find zone = some last ∧ bit (s.get Reg.SNS_STATUS.PRESENCE) zone = true :=
  ⟨7, 5, { base.set Reg.SNS_STATUS.PRESENCE 128 with sns := { base.sns with heldAt := [(7, 5)] } }, by decide +kernel⟩

theorem meets_ReverseSensingReadsItsMaps_2 : ∃ (r : Req) (s : State),
    s.accepts opSenseConfig r ∧ s.senseBad r.params = false :=
  ⟨rq ([1, 0, 6, 0] ++ le 2 16 ++ le 2 16 ++ [0, 1] ++ le 2 0 ++ le 2 1 ++ le 2 0 ++ le 32 0), base, by unfold State.accepts; decide +kernel⟩

theorem meets_ReverseSensingReadsItsMaps_3 : ∃ (r : Req) (s : State),
    s.accepts opSenseRead r ∧ s.answers r ∧ leAt r.params 0 1 < 4 ∧ leAt r.params 1 1 = 0 ∧ leAt r.params 2 2 ≤ 63 :=
  ⟨rq ([3, 0] ++ le 2 63), base, by unfold State.accepts State.answers; decide +kernel⟩

theorem meets_ReverseSensingReadsItsMaps_4 : ∃ (r : Req) (s : State),
    s.accepts opSenseRead r ∧ s.answers r ∧ leAt r.params 0 1 = 4 ∧ leAt r.params 1 1 = 0 :=
  ⟨rq ([4, 0] ++ le 2 0), base, by unfold State.accepts State.answers; decide +kernel⟩

theorem meets_ASelectedBaseStandsInTheWorkingCopy_0 : ∃ (r : Req) (s : State),
    s.accepts opSelectPattern r ∧ (s.get Reg.BEAM_STATUS.WATCH < 2 ∨ s.beam.listSince = true) ∧ s.flag Reg.BEAM_STATUS.LOADING = false
      ∧ s.flag Reg.BEAM_STATUS.XFADE = false ∧ leAt r.params 2 1 ≤ 2 ∧ leAt r.params 3 1 ≤ 3 ∧ bit (leAt r.params 3 1) 0 = false
      ∧ leAt r.params 4 2 ≤ 10000 ∧ leAt r.params 6 2 = 0 ∧ (leAt r.params 2 1 ≠ 0 ∨ (leAt r.params 0 2 ≤ 255
      ∧ (s.bufferOf (leAt r.params 0 2)).isSome = true)) :=
  ⟨rq (le 2 255 ++ [0, 2] ++ le 2 10000 ++ le 2 0), { base with beam := { base.beam with buffers := [(0, some 255)] } },
    by unfold State.accepts; decide +kernel⟩

theorem meets_ObjectCommandsSetAndReleaseContexts_0 : ∃ (r : Req) (s : State),
    s.accepts opObjectSet r ∧ s.entryState (r.params.drop 4) = false ∧ s.entryBad (r.params.drop 4) = false
      ∧ s.pinsOver [readEntry (r.params.drop 4)] = false ∧ leAt r.params 0 1 ≤ 1 ∧ leAt r.params 1 3 = 0 ∧ leAt (r.params.drop 4) 1 1 ≠ 0 :=
  ⟨rq ([1, 0, 0, 0] ++ boxBytes), base, by unfold State.accepts; decide +kernel⟩

theorem meets_ObjectCommandsSetAndReleaseContexts_1 : ∃ (r : Req) (s : State),
    s.accepts opObjectClear r ∧ leAt r.params 0 1 ≤ 7 ∧ leAt r.params 1 3 = 0 :=
  ⟨rq ([7, 0, 0, 0] ++ le 16 1), { base with beam := { base.beam with work := { base.beam.work with ctxs := [(0, boxCtx false)] } } },
    by unfold State.accepts; decide +kernel⟩

theorem meets_ObjectCommandsSetAndReleaseContexts_2 : ∃ (r : Req) (s : State),
    s.accepts opSelectPattern r ∧ (s.get Reg.BEAM_STATUS.WATCH < 2 ∨ s.beam.listSince = true) ∧ s.flag Reg.BEAM_STATUS.LOADING = false
      ∧ s.flag Reg.BEAM_STATUS.XFADE = false ∧ leAt r.params 2 1 = 2 ∧ leAt r.params 3 1 = 0 ∧ leAt r.params 4 2 = 0 ∧ leAt r.params 6 2 = 0 :=
  ⟨rq ([0, 0, 2, 0] ++ le 4 0), base, by unfold State.accepts; decide +kernel⟩

theorem meets_ObjectListsAreAssembledOrDiscarded_0 : ∃ (r : Req) (s : State),
    s.accepts opObjectList r ∧ s.beam.list = none ∧ leAt r.params 2 1 < leAt r.params 3 1 ∧ leAt r.params 3 1 ≤ 5 ∧ leAt r.params 5 1 ≤ 1
      ∧ leAt r.params 6 2 = 0 ∧ (∀ e ∈ partEntries (leAt r.params 4 1) (r.params.drop 8), s.entryState e = false ∧ s.entryBad e = false)
      ∧ s.pinsOver ((partEntries (leAt r.params 4 1) (r.params.drop 8)).map readEntry) = false
      ∧ ((partEntries (leAt r.params 4 1) (r.params.drop 8)).map (fun e => (readEntry e).1)).Nodup :=
  ⟨rq (le 2 9 ++ [4, 5, 1, 1] ++ le 2 0 ++ boxBytes), base, by unfold State.accepts; decide +kernel⟩

theorem meets_ObjectListsAreAssembledOrDiscarded_1 : ∃ (a : ListAssembly) (s : State),
    s.beam.list = some a :=
  ⟨⟨9, 5, true, [], [4], 3⟩, { base with beam := { base.beam with list := some ⟨9, 5, true, [], [4], 3⟩ } }, by decide +kernel⟩

theorem meets_FieldMapsAndFadesReachTheWorkingCopy_0 : ∃ (r : Req) (s : State),
    s.accepts opFieldMap r ∧ s.power = 2 ∧ leAt r.params 0 1 = 0 ∧ leAt r.params 1 1 = 0 ∧ leAt r.params 2 2 = 0 ∧ 1 ≤ leAt r.params 8 2
      ∧ leAt r.params 8 2 ≤ 32767 ∧ 1 ≤ leAt r.params 10 2 ∧ leAt r.params 10 2 ≤ 32767 :=
  ⟨rq (mapPart0), base, by unfold State.accepts; decide +kernel⟩

theorem meets_FieldMapsAndFadesReachTheWorkingCopy_1 : ∃ (r : Req) (q : List Byte) (s : State),
    s.accepts opFieldMap r ∧ s.power = 2 ∧ leAt r.params 0 1 = 1 ∧ leAt r.params 1 1 = 1 ∧ leAt r.params 2 2 = 0 ∧ 1 ≤ leAt r.params 8 2
      ∧ leAt r.params 8 2 ≤ 32767 ∧ 1 ≤ leAt r.params 10 2 ∧ leAt r.params 10 2 ≤ 32767 ∧ s.beam.part0 = some q
      ∧ (q.drop 4).take 8 = (r.params.drop 4).take 8 ∧ (mapOf q r.params).valid = true :=
  ⟨rq (mapPart1), mapPart0, { base with beam := { base.beam with part0 := some mapPart0 } }, by unfold State.accepts; decide +kernel⟩

theorem meets_FieldMapsAndFadesReachTheWorkingCopy_2 : ∃ (r : Req) (c : Ctx) (s : State),
    s.accepts opFadeSet r ∧ s.beam.work.ctxs.find (leAt r.params 0 1) = some c ∧ leAt r.params 1 1 ≤ 3 ∧ leAt r.params 2 2 ≤ 10000
      ∧ leAt r.params 6 2 = 0 ∧ (c.entry.type = 1 → leAt r.params 4 2 ≤ 4096) :=
  ⟨rq ([127, 3] ++ le 2 10000 ++ le 2 4096 ++ le 2 0), boxCtx false,
    { base with beam := { base.beam with work := { base.beam.work with ctxs := [(127, boxCtx false)] } } }, by unfold State.accepts; decide +kernel⟩

theorem meets_TheSilentHostIsNoticedInThreeSteps_0 : ∃ s : State,
    s.watching = true ∧ s.get Reg.BEAM_STATUS.WATCH = 0 :=
  ⟨base.setAll [(Reg.BEAM_GROW.WATCH_EN, 1), (Reg.PWR_STATE.POWER, 1)], by decide +kernel⟩

theorem meets_TheSilentHostIsNoticedInThreeSteps_1 : ∃ s : State,
    s.watching = true ∧ s.get Reg.BEAM_STATUS.WATCH = 1 :=
  ⟨base.setAll [(Reg.BEAM_GROW.WATCH_EN, 1), (Reg.PWR_STATE.POWER, 1), (Reg.BEAM_STATUS.WATCH, 1)], by decide +kernel⟩

theorem meets_TheSilentHostIsNoticedInThreeSteps_2 : ∃ (t2 : Nat) (s : State),
    s.bufferOf (s.get Reg.BEAM_STALE.PATTERN) = none ∧ s.beam.t2At = some t2 ∧ s.link.fallAt = none ∧ s.get Reg.BEAM_STATUS.WATCH = 2 :=
  ⟨5, { base.set Reg.BEAM_STATUS.WATCH 2 with beam := { base.beam with t2At := some 5 } }, by decide +kernel⟩

theorem meets_LoadsAndFadesEnd_0 : ∃ (l : Loading) (e : LibEntry) (s : State),
    s.beam.loading = some l ∧ Assoc.get none s.lib.patterns l.pattern = some e :=
  ⟨⟨3, none, 0, false⟩, ⟨1, 0, 64, 0⟩,
    { base.set Reg.CMP_LIB_STATUS.RAM_STORE 1 with beam := { base.beam with loading := some ⟨3, none, 0, false⟩ }, lib := { base.lib with patterns := [(3, some ⟨1, 0, 64, 0⟩)] } },
    by decide +kernel⟩

theorem meets_LoadsAndFadesEnd_1 : ∃ (l : Loading) (e : LibEntry) (s : State),
    s.beam.loading = some l ∧ Assoc.get none s.lib.patterns l.pattern = some e :=
  ⟨⟨3, none, 0, false⟩, ⟨1, 0, 64, 0⟩,
    { base.set Reg.CMP_LIB_STATUS.RAM_STORE 1 with beam := { base.beam with loading := some ⟨3, none, 0, false⟩ }, lib := { base.lib with patterns := [(3, some ⟨1, 0, 64, 0⟩)] } },
    by decide +kernel⟩

theorem meets_LoadsAndFadesEnd_2 : ∃ (f : Fade) (s : State),
    s.beam.baseFade = some f :=
  ⟨⟨0, 4096, 0, 1000000, false⟩, { base with beam := { base.beam with baseFade := some ⟨0, 4096, 0, 1000000, false⟩ } }, by decide +kernel⟩

theorem meets_LoadsAndFadesEnd_3 : ∃ (n : Nat) (c : Ctx) (f : Fade) (s : State),
    s.beam.front.ctxs.find n = some c ∧ s.beam.fades.find n = some f ∧ c.releasing = true :=
  ⟨127, boxCtx true, ⟨4096, 0, 0, 1000000, false⟩,
    { base with beam := { base.beam with front := { base.beam.front with ctxs := [(127, boxCtx true)] }, fades := [(127, ⟨4096, 0, 0, 1000000, false⟩)] } },
    by decide +kernel⟩

theorem meets_LayerCommandsChangeDescriptorsOrAreStaged_0 : ∃ (r : Req) (s : State),
    s.accepts opLayerConfig r ∧ s.layerBad r.params = false ∧ (leAt r.params 0 1 = 7 → s.flag Reg.HST_CTRL.DALI_EN = false)
      ∧ s.flag (Reg.CMP_LAYER_STATUS.FLIP_PENDING (leAt r.params 0 1)) = false :=
  ⟨rq ([7, 1, 0, 0, 0, 0] ++ le 2 0 ++ le 2 0 ++ le 2 2047 ++ le 2 0 ++ le 2 511 ++ le 12 0), base, by unfold State.accepts; decide +kernel⟩

theorem meets_LayerCommandsChangeDescriptorsOrAreStaged_1 : ∃ (r : Req) (s : State),
    s.accepts opLayerEnable r ∧ (s.flag Reg.HST_CTRL.DALI_EN = true → bit (leAt r.params 1 1) 7 = false
      ∧ bit (leAt r.params 0 1) 7 = (s.staged.layer 7).enabled) ∧ leAt r.params 2 1 ≤ 1 ∧ leAt r.params 3 1 = 0 ∧ (∀ n < 8,
      bit (leAt r.params 1 1) n = true → s.flag (Reg.CMP_LAYER_STATUS.FLIP_PENDING n) = false
      ∧ ((s.staged.layer n).source = 2 ∨ (s.staged.layer n).source = 3)) :=
  ⟨rq ([255, 2, 1, 0]), layered, by unfold State.accepts; decide +kernel⟩

theorem meets_SymbolsArePlacedAndFlatteningIsStaged_0 : ∃ (r : Req) (s : State),
    s.accepts opSymbolPlace r ∧ s.entryState (placeEntry r.params) = false ∧ s.entryBad (placeEntry r.params) = false
      ∧ s.pinsOver [readEntry (placeEntry r.params)] = false ∧ leAt r.params 1 1 ≤ 15 ∧ leAt r.params 2 1 ≤ 7 ∧ leAt r.params 3 1 = 0
      ∧ leAt r.params 18 2 = 0 :=
  ⟨rq ([127, 1, 0, 0] ++ le 2 4095 ++ le 18 0), { base with lib := { base.lib with symbols := [(4095, some ⟨1, 0, 64, 0⟩)] } },
    by unfold State.accepts; decide +kernel⟩

theorem meets_SymbolsArePlacedAndFlatteningIsStaged_1 : ∃ (r : Req) (s : State),
    s.accepts opFlatten r ∧ (s.flag Reg.HST_CTRL.DALI_EN = true → bit (leAt r.params 0 1) 7 = false) ∧ leAt r.params 1 1 ≤ 1 ∧ leAt r.params 2 2 = 0
      ∧ (∀ n < 8, bit (leAt r.params 0 1) n = true → (s.staged.layer n).source = 2 ∧ ∀ c ∈ s.staged.ctxs, ¬ (c.2.entry.type = 3
      ∧ c.2.entry.layer = n)) ∧ (s.staged.flatten (leAt r.params 0 1) ≠ s.staged ∨ bit (leAt r.params 1 1) 0 = true) :=
  ⟨rq ([2, 1, 0, 0]), layered, by unfold State.accepts; decide +kernel⟩

theorem meets_BuildsFlipsAndSymbolLoadsComplete_0 : ∃ (t0 : Nat) (s : State),
    s.beam.buildAt = some t0 ∧ s.beam.queuedStage = [] :=
  ⟨0, { base with beam := { base.beam with buildAt := some 0 } }, by decide +kernel⟩

theorem meets_BuildsFlipsAndSymbolLoadsComplete_1 : ∃ (n b : Nat) (s : State),
    s.beam.flipLanded.find n = some b ∧ (s.lib.legacyWaiting = none ∨ n ≠ 1) :=
  ⟨7, 4, { base with beam := { base.beam with flipLanded := [(7, 4)] } }, by decide +kernel⟩

theorem meets_BuildsFlipsAndSymbolLoadsComplete_2 : ∃ (ctx id : Nat) (rest : List (Nat × Nat)) (e : LibEntry) (s : State),
    s.beam.symbolWait = (ctx, id) :: rest ∧ Assoc.get none s.lib.symbols id = some e ∧ s.entryGood 2 e = true :=
  ⟨127, 4095, [], ⟨1, 0, 0, crc32cFold 0x00C00000 []⟩,
    { base.set Reg.CMP_LIB_STATUS.RAM_STORE 1 with beam := { base.beam with symbolWait := [(127, 4095)] }, lib := { base.lib with symbols := [(4095, some ⟨1, 0, 0, crc32cFold 0x00C00000 []⟩)] } },
    by decide +kernel⟩

theorem meets_BuildsFlipsAndSymbolLoadsComplete_3 : ∃ (ctx id : Nat) (rest : List (Nat × Nat)) (s : State),
    s.beam.symbolWait = (ctx, id) :: rest :=
  ⟨127, 4095, [(1, 7)], { base with beam := { base.beam with symbolWait := [(127, 4095), (1, 7)] } }, by decide +kernel⟩

theorem meets_InstallationsRunFromBeginToEnd_0 : ∃ (r : Req) (o : Nat) (s : State),
    s.accepts opInstall (withOp 0 r) ∧ s.lib.install = none ∧ libIdBad (withOp 0 r).params = false ∧ leAt (withOp 0 r).params 4 4 ≠ 0
      ∧ (leAt (withOp 0 r).params 1 1 = 2 → s.entryInUse 2 (leAt (withOp 0 r).params 2 2) = false)
      ∧ s.findSpace (leAt (withOp 0 r).params 1 1) (leAt (withOp 0 r).params 4 4) = some o :=
  ⟨rq ([1] ++ le 2 255 ++ le 4 1 ++ le 4 0), 0, base.set Reg.CMP_LIB_STATUS.RAM_STORE 1, by unfold State.accepts; decide +kernel⟩

theorem meets_InstallationsRunFromBeginToEnd_1 : ∃ (r : Req) (i : Install) (s : State),
    s.accepts opInstall (withOp 1 r) ∧ s.installing (withOp 1 r).params = some i ∧ leAt (withOp 1 r).params 4 4 = i.received
      ∧ i.received + ((withOp 1 r).params.drop 12).length ≤ i.length
      ∧ crc32cFold i.received ((withOp 1 r).params.drop 12) = leAt (withOp 1 r).params 8 4 :=
  ⟨rq ([1] ++ le 2 255 ++ le 4 0 ++ le 4 (crc32cFold 0 [0xAA]) ++ [0xAA]), install0, installing0, by unfold State.accepts; decide +kernel⟩

theorem meets_InstallationsRunFromBeginToEnd_2 : ∃ (r : Req) (i : Install) (s : State),
    s.accepts opInstall (withOp 2 r) ∧ s.installing (withOp 2 r).params = some i ∧ (i.kind = 2 → s.entryInUse 2 i.id = false) :=
  ⟨rq ([1] ++ le 2 255), install0, installing0, by unfold State.accepts; decide +kernel⟩

theorem meets_InstallationsRunFromBeginToEnd_3 : ∃ (r : Req) (s : State),
    s.accepts opInstall (withOp 3 r) ∧ libIdBad (withOp 3 r).params = false
      ∧ s.entryInUse (leAt (withOp 3 r).params 1 1) (leAt (withOp 3 r).params 2 2) = false :=
  ⟨rq ([2] ++ le 2 4095), flashed, by unfold State.accepts; decide +kernel⟩

theorem meets_InstallationsRunFromBeginToEnd_4 : ∃ (r : Req) (i : Install) (s : State),
    s.accepts opInstall (withOp 4 r) ∧ s.installing (withOp 4 r).params = some i :=
  ⟨rq ([1] ++ le 2 255), install0, installing0, by unfold State.accepts; decide +kernel⟩

theorem meets_InstallationsRunFromBeginToEnd_5 : ∃ (i : Install) (s : State),
    s.lib.install = some i :=
  ⟨install0, installing0, by decide +kernel⟩

theorem meets_StoresAreReadAndWritten_0 : ∃ (r : Req) (s : State),
    s.accepts opStoreRead r ∧ s.answers r ∧ s.flag Reg.CMP_LIB_STATUS.RAM_STORE = false ∧ leAt r.params 1 3 = 0 ∧ 1 ≤ leAt r.params 8 4
      ∧ leAt r.params 8 4 ≤ 1000 ∧ s.storeRange (leAt r.params 0 1) (leAt r.params 4 4) (leAt r.params 8 4) = true :=
  ⟨rq ([1, 0, 0, 0] ++ le 4 0 ++ le 4 1000), flashed, by unfold State.accepts State.answers; decide +kernel⟩

theorem meets_StoresAreReadAndWritten_1 : ∃ (r : Req) (s : State),
    s.accepts opStoreWrite r ∧ s.flag Reg.CMP_LIB_STATUS.RAM_STORE = false ∧ leAt r.params 1 3 = 0 ∧ 3 ≤ leAt r.params 0 1
      ∧ s.storeRange (leAt r.params 0 1) (leAt r.params 4 4) (r.params.drop 12).length = true
      ∧ crc32cFold (leAt r.params 4 4) (r.params.drop 12) = leAt r.params 8 4 :=
  ⟨rq ([3, 0, 0, 0] ++ le 4 0 ++ le 4 (crc32cFold 0 [0xAA]) ++ [0xAA]), { flashed with id := { flashed.id with lifecycle := .service } },
    by unfold State.accepts; decide +kernel⟩

theorem meets_TheLinkFollowsItsClock_0 : ∃ s : State,
    s.get Reg.LNK_STATUS.STATE = 1 :=
  ⟨linked 1, by decide +kernel⟩

theorem meets_TheLinkFollowsItsClock_1 : ∃ (gap : Nat) (s : State),
    s.get Reg.LNK_STATUS.STATE ≠ 0 ∧ us 1 ≤ gap :=
  ⟨us 1, linked 6, by decide +kernel⟩

theorem meets_TheLinkFollowsItsClock_2 : ∃ s : State,
    s.get Reg.LNK_STATUS.STATE = 2 :=
  ⟨linked 2, by decide +kernel⟩

theorem meets_TheLinkFollowsItsClock_3 : ∃ s : State,
    s.get Reg.LNK_STATUS.STATE = 8 :=
  ⟨linked 8, by decide +kernel⟩

theorem meets_LanesLockAndLoseLock_0 : ∃ (lane good codewords : Nat) (s : State),
    2 ≤ s.get Reg.LNK_STATUS.STATE ∧ lane < 4 ∧ bit s.usedMask lane = true ∧ locks (s.get Reg.LNK_STATUS.GEN) good codewords = true :=
  ⟨3, 128, 0, (linked 2).set Reg.LNK_STATUS.LANES 4, by decide +kernel⟩

theorem meets_LanesLockAndLoseLock_1 : ∃ (lane _good _codewords : Nat) (s : State),
    bit s.usedMask lane = false :=
  ⟨3, 128, 0, linked 2, by decide +kernel⟩

theorem meets_LanesLockAndLoseLock_2 : ∃ (lane errors _corrected uncorr : Nat) (s : State),
    s.get Reg.LNK_STATUS.STATE = 6 ∧ lane < 4 ∧ bit s.usedMask lane = true ∧ unlocks (s.get Reg.LNK_STATUS.GEN) errors uncorr = true :=
  ⟨0, 24, 0, 0, linked 6, by decide +kernel⟩

theorem meets_LanesLockAndLoseLock_3 : ∃ (lane _errors _corrected _uncorr : Nat) (s : State),
    bit s.usedMask lane = false :=
  ⟨1, 24, 0, 0, linked 6, by decide +kernel⟩

theorem meets_TheBackChannelAsksAndIsAnswered_0 : ∃ (m p : List Byte) (_trip : Nat) (s : State),
    s.link.request ≠ 0 ∧ readMessage m = some (s.link.request + 0x80, p) ∧ s.link.request ≠ 0x7F :=
  ⟨bcMessage 0x81 [], [], 10, { linked 3 with link := { base.link with request := 1 } }, by decide +kernel⟩

theorem meets_TheBackChannelAsksAndIsAnswered_1 : ∃ s : State,
    s.link.request ≠ 0 :=
  ⟨{ linked 3 with link := { base.link with request := 1 } }, by decide +kernel⟩

theorem meets_TheBackChannelAsksAndIsAnswered_2 : ∃ (at_ : Nat) (s : State),
    s.link.failedAt = some at_ :=
  ⟨5, { linked 3 with link := { base.link with failedAt := some 5 } }, by decide +kernel⟩

theorem meets_TheBackChannelAsksAndIsAnswered_3 : ∃ s : State,
    s.get Reg.LNK_STATUS.STATE = 6 ∧ s.flag Reg.LNK_STATUS.BC_OK = true ∧ s.link.request = 0 :=
  ⟨(linked 6).set Reg.LNK_STATUS.BC_OK 1, by decide +kernel⟩

theorem meets_TrainingSucceedsOrStepsDown_0 : ∃ (_eyes : List (Nat × Nat)) (s : State),
    5 ≤ s.get Reg.LNK_STATUS.STATE ∧ s.get Reg.LNK_STATUS.STATE ≤ 7 ∧ s.get Reg.LNK_STATUS.LANES ≤ 4 :=
  ⟨[], (linked 7).set Reg.LNK_STATUS.LANES 4, by decide +kernel⟩

theorem meets_TrainingSucceedsOrStepsDown_1 : ∃ s : State,
    (s.get Reg.LNK_STATUS.STATE = 5 ∨ s.get Reg.LNK_STATUS.STATE = 7) ∧ s.allLocked = true ∧ s.presetsDone = true ∧ 10 ≤ s.link.good96
      ∧ s.now ≤ s.link.stateAt + ms 20 ∧ (s.flag Reg.LNK_STATUS.BC_OK = true → s.get Reg.LNK_STATUS.GEN ≤ s.get Reg.LNK_POLICY.MAX_GEN
      ∧ s.get Reg.LNK_STATUS.LANES ≤ s.get Reg.LNK_POLICY.MAX_LANES) :=
  ⟨{ linked 5 with now := 2000000, link := { base.link with good96 := 10 } }, by decide +kernel⟩

theorem meets_TrainingSucceedsOrStepsDown_2 : ∃ s : State,
    (s.get Reg.LNK_STATUS.STATE = 5 ∨ s.get Reg.LNK_STATUS.STATE = 7) ∧ s.allLocked = true ∧ s.presetsDone = true ∧ 10 ≤ s.link.good96
      ∧ s.now ≤ s.link.stateAt + ms 20 ∧ s.flag Reg.LNK_STATUS.BC_OK = true ∧ s.get Reg.LNK_POLICY.MAX_GEN < s.get Reg.LNK_STATUS.GEN :=
  ⟨{ (linked 5).setAll [(Reg.LNK_STATUS.BC_OK, 1), (Reg.LNK_POLICY.MAX_GEN, 1)] with now := 2000000, link := { base.link with good96 := 10, tried := 99 } },
    by decide +kernel⟩

theorem meets_TrainingSucceedsOrStepsDown_3 : ∃ s : State,
    s.get Reg.LNK_STATUS.STATE = 5 ∧ s.flag Reg.LNK_STATUS.BC_OK = true ∧ 2 ≤ s.link.wantGen :=
  ⟨{ (linked 5).set Reg.LNK_STATUS.BC_OK 1 with link := { base.link with wantGen := 2 } }, by decide +kernel⟩

theorem meets_TrainingSucceedsOrStepsDown_4 : ∃ s : State,
    ((s.get Reg.LNK_STATUS.STATE = 7 ∧ s.link.returning = true) ∨ ((s.get Reg.LNK_STATUS.STATE = 5 ∨ s.get Reg.LNK_STATUS.STATE = 7)
      ∧ s.flag Reg.LNK_STATUS.BC_OK = false)) :=
  ⟨{ linked 7 with link := { base.link with returning := true } }, by decide +kernel⟩

theorem meets_FramesAreReceivedRowByRow_0 : ∃ (h : List Byte) (s : State),
    s.carries = true ∧ h.length = 32 ∧ crc32cFold 0 (h.take 28) = leAt h 28 4 ∧ 1 ≤ leAt h 3 1 ∧ leAt h 3 1 ≤ s.widest ∧ leAt h 2 1 ≤ 2
      ∧ (s.follower = true → leAt h 2 1 = 0) :=
  ⟨checked ([5, 0, 2, 1] ++ le 24 0), linked 6, by decide +kernel⟩

theorem meets_FramesAreReceivedRowByRow_1 : ∃ (p : List Byte) (rx : Receiving) (s : State),
    s.link.rx = some rx ∧ s.armed 0x25 = false ∧ p.length = 32 + rowBytes rx.format rx.width
      ∧ crc32cFold (rx.seq * 65536 + leAt p 0 2) (p.take (16 + rowBytes rx.format rx.width)) = leAt p (16 + rowBytes rx.format rx.width) 4
      ∧ leAt p 0 2 = rx.next ∧ rx.next ≤ 511 ∧ leAt p 2 2 = rx.seq :=
  ⟨rowPacket, receiving 511, { linked 6 with link := { base.link with rx := some (receiving 511) } }, rfl, by decide, rowPacket_length,
    rowPacket_check, rowPacket_field _ 0 (by decide), by decide, rowPacket_field _ 2 (by decide)⟩

theorem meets_FramesAreReceivedRowByRow_2 : ∃ (p : List Byte) (rx : Receiving) (s : State),
    s.link.rx = some rx ∧ p.length = 32 ∧ crc32cFold 0 (p.take 28) = leAt p 28 4 ∧ leAt p 0 2 = rx.seq ∧ rx.next = 512 ∧ leAt p 2 2 = 512
      ∧ leAt p 4 4 = frameCheck rx.seq rx.checks :=
  ⟨checked (le 2 5 ++ le 2 512 ++ le 4 (frameCheck 5 []) ++ le 20 0), receiving 512,
    { linked 6 with link := { base.link with rx := some (receiving 512) } }, by decide +kernel⟩

theorem meets_InputLossIsDeclaredThenHeld_0 : ∃ s : State,
    s.get Reg.LNK_STATUS.STATE = 6 ∧ s.losable = true ∧ s.follower = false ∧ s.get Reg.LNK_TIMING.HOLD_MS ≠ 0 :=
  ⟨(linked 6).setAll [(Reg.LNK_STATUS.INPUT, 2), (Reg.LNK_TIMING.HOLD_MS, 1)], by decide +kernel⟩

theorem meets_InputLossIsDeclaredThenHeld_1 : ∃ (at_ : Nat) (s : State),
    s.link.holdAt = some at_ ∧ s.get Reg.LNK_STATUS.INPUT = 3 :=
  ⟨5, { (linked 6).set Reg.LNK_STATUS.INPUT 3 with link := { base.link with holdAt := some 5 } }, by decide +kernel⟩

theorem meets_LinkCommandsReportTrainAndSetPolicy_0 : ∃ (r : Req) (s : State),
    s.accepts opLinkStatus r ∧ s.answers r :=
  ⟨rq ([]), base, by unfold State.accepts State.answers; decide +kernel⟩

theorem meets_LinkCommandsReportTrainAndSetPolicy_1 : ∃ (r : Req) (s : State),
    s.accepts opLinkTrain (withOp 0 r) ∧ leAt (withOp 0 r).params 1 3 = 0 ∧ s.get Reg.LNK_STATUS.STATE = 6 ∧ s.flag Reg.LNK_STATUS.BC_OK = true :=
  ⟨rq (le 3 0), (linked 6).set Reg.LNK_STATUS.BC_OK 1, by unfold State.accepts; decide +kernel⟩

theorem meets_LinkCommandsReportTrainAndSetPolicy_2 : ∃ (r : Req) (s : State),
    s.accepts opLinkTrain (withOp 1 r) ∧ leAt (withOp 1 r).params 1 3 = 0 ∧ s.get Reg.LNK_STATUS.STATE ∈ [1, 2, 3, 4, 6] :=
  ⟨rq (le 3 0), linked 1, by unfold State.accepts; decide +kernel⟩

theorem meets_LinkCommandsReportTrainAndSetPolicy_3 : ∃ (r : Req) (s : State),
    s.accepts opLinkTrain (withOp 2 r) ∧ leAt (withOp 2 r).params 1 3 = 0 ∧ s.get Reg.LNK_STATUS.STATE = 6 ∧ s.flag Reg.LNK_STATUS.BC_OK = true
      ∧ 2 ≤ s.get Reg.LNK_STATUS.GEN :=
  ⟨rq (le 3 0), (linked 6).set Reg.LNK_STATUS.BC_OK 1, by unfold State.accepts; decide +kernel⟩

theorem meets_LinkCommandsReportTrainAndSetPolicy_4 : ∃ (r : Req) (s : State),
    s.accepts opLinkTrain (withOp 3 r) ∧ leAt (withOp 3 r).params 1 3 = 0 ∧ s.get Reg.LNK_STATUS.STATE = 6 ∧ s.flag Reg.LNK_STATUS.BC_OK = true
      ∧ s.get Reg.LNK_STATUS.GEN < s.genCeiling :=
  ⟨rq (le 3 0), (linked 6).setAll [(Reg.LNK_PARTNER.GENS, 7), (Reg.LNK_POLICY.MAX_GEN, 3), (Reg.LNK_CABLE.GEN_LIMIT, 3), (Reg.LNK_STATUS.BC_OK, 1)],
    by unfold State.accepts; decide +kernel⟩

theorem meets_LinkCommandsReportTrainAndSetPolicy_5 : ∃ (op : Nat) (r : Req) (s : State),
    op ∈ [0, 2, 3] ∧ s.accepts opLinkTrain (withOp op r) ∧ leAt (withOp op r).params 1 3 = 0 ∧ s.get Reg.LNK_STATUS.STATE = 6
      ∧ s.flag Reg.LNK_STATUS.BC_OK = false ∧ (op = 2 → 2 ≤ s.get Reg.LNK_STATUS.GEN) ∧ (op = 3 → s.get Reg.LNK_STATUS.GEN < s.genCeiling) :=
  ⟨2, rq (le 3 0), linked 6, by unfold State.accepts; decide +kernel⟩

theorem meets_LinkCommandsReportTrainAndSetPolicy_6 : ∃ (r : Req) (s : State),
    s.accepts opLinkPolicy r ∧ linkPolicyBad r.params = false ∧ (bit (leAt r.params 0 1) 3 = true → s.get Reg.LNK_STATUS.STATE = 6) :=
  ⟨rq ([31, 3, 4, 95] ++ le 2 2000 ++ le 2 10 ++ le 8 0), linked 6, by unfold State.accepts; decide +kernel⟩

theorem meets_SpiTransactionsCarryPackets_0 : ∃ (p : List Byte) (low : Nat) (s : State),
    s.spiOn = true ∧ s.get Reg.HST_SPI_CFG.ADDR < 128 ∧ p ≠ [] ∧ low ≤ ms 50 ∧ s.frames p = true ∧ s.ringRoom 0 = true :=
  ⟨packet0, ms 50, base, by decide +kernel⟩

theorem meets_SpiTransactionsCarryPackets_1 : ∃ (p : Packet) (rest : List Packet) (clocked : Nat) (s : State),
    s.spiOn = true ∧ s.ring 8 = p :: rest ∧ p.bytes ≠ [] ∧ 2 + p.bytes.length ≤ clocked :=
  ⟨⟨packet0, 0, 0⟩, [], 12, { base with rings := [(8, [⟨packet0, 0, 0⟩])] }, by decide +kernel⟩

theorem meets_CanCarriesPacketsInSegments_0 : ∃ (data : List Byte) (s : State),
    s.canOn = true ∧ s.get Reg.HST_CAN_STATUS.STATE ≠ 2 ∧ s.bus.canRx = none ∧ data.length = 64 ∧ bit (leAt data 0 1) 7 = true
      ∧ leAt data 0 1 % 64 = 0 :=
  ⟨byte 0xC0 :: (packet0 ++ List.replicate 53 0), base, by decide +kernel⟩

theorem meets_CanCarriesPacketsInSegments_1 : ∃ (a : CanAssembly) (s : State),
    s.bus.canRx = some a :=
  ⟨⟨[], 1, 5⟩, { base with bus := { base.bus with canRx := some ⟨[], 1, 5⟩ } }, by decide +kernel⟩

theorem meets_CanCarriesPacketsInSegments_2 : ∃ (p : Packet) (rest : List Packet) (s : State),
    s.ring 9 = p :: rest ∧ s.canOn = true ∧ s.get Reg.HST_CAN_STATUS.STATE ≠ 2 :=
  ⟨⟨packet0, 0, 0⟩, [], { base with rings := [(9, [⟨packet0, 0, 0⟩])] }, by decide +kernel⟩

theorem meets_CanCarriesPacketsInSegments_3 : ∃ s : State,
    s.canOn = true ∧ s.get Reg.HST_CAN_STATUS.STATE ≠ 2 :=
  ⟨base, by decide +kernel⟩

theorem meets_CanCarriesPacketsInSegments_4 : ∃ s : State,
    s.get Reg.HST_CAN_STATUS.STATE = 2 :=
  ⟨base.set Reg.HST_CAN_STATUS.STATE 2, by decide +kernel⟩

theorem meets_T1sCarriesPacketsAndPlcaFallsBack_0 : ∃ (_src _noise : Nat) (payload : List Byte) (s : State),
    s.t1sOn = true ∧ s.frames (payload.take (10 + leAt payload 4 2)) = true ∧ s.ringRoom 2 = true :=
  ⟨5, 3, packet0, base, by decide +kernel⟩

theorem meets_T1sCarriesPacketsAndPlcaFallsBack_1 : ∃ (_collisions : Nat) (p : Packet) (rest : List Packet) (s : State),
    s.ring 10 = p :: rest ∧ s.t1sOn = true ∧ leAt p.bytes 0 2 < 0xF000 :=
  ⟨2, ⟨packet0, 0, 0⟩, [], { base with rings := [(10, [⟨packet0, 0, 0⟩])] }, by decide +kernel⟩

theorem meets_T1sCarriesPacketsAndPlcaFallsBack_2 : ∃ s : State,
    s.t1sOn = true ∧ s.flag Reg.HST_T1S_PLCA.EN = true ∧ s.get Reg.HST_T1S_STATUS.MODE = 0 :=
  ⟨base.set Reg.HST_T1S_PLCA.EN 1, by decide +kernel⟩

theorem meets_T1sCarriesPacketsAndPlcaFallsBack_3 : ∃ s : State,
    s.t1sOn = true ∧ s.flag Reg.HST_T1S_PLCA.EN = true :=
  ⟨base.set Reg.HST_T1S_PLCA.EN 1, by decide +kernel⟩

theorem meets_DaliSetsLevelsAndAnswers_0 : ∃ (addr data : Nat) (s : State),
    s.daliServes = true ∧ s.daliMine addr = true ∧ addr % 2 = 0 ∧ (addr < 160 ∨ 252 ≤ addr) ∧ data < 255 :=
  ⟨254, 254, dali, by decide +kernel⟩

theorem meets_DaliSetsLevelsAndAnswers_1 : ∃ (n : Nat) (s : State),
    s.daliServes = true ∧ n < 16 ∧ s.bus.dali.scenes.getD n 255 < 255 :=
  ⟨15, { dali with bus := { dali.bus with dali := { dali.bus.dali with scenes := List.replicate 16 254 } } }, by decide +kernel⟩

theorem meets_DaliSetsLevelsAndAnswers_2 : ∃ (level : Nat) (s : State),
    s.daliServes = true ∧ level < 255 :=
  ⟨0, dali, by decide +kernel⟩

theorem meets_DaliSetsLevelsAndAnswers_3 : ∃ (_query : Nat) (s : State),
    s.daliServes = true :=
  ⟨0x90, dali, by decide +kernel⟩

theorem meets_DaliSetsLevelsAndAnswers_4 : ∃ (low : Nat) (s : State),
    s.daliServes = true ∧ ms 550 < low :=
  ⟨ms 550 + 1, dali, by decide +kernel⟩

theorem meets_LegacyFramesAreServed_0 : ∃ (first : Nat) (levels : List Nat) (s : State),
    s.legacyOn = true ∧ s.ringRoom 5 = true ∧ s.cpUp = true ∧ s.ring 5 = [] ∧ levels ≠ [] ∧ levels.length ≤ 512 ∧ first + levels.length ≤ 16384
      ∧ (∀ l ∈ levels, l ≤ 1023) :=
  ⟨16383, [1023], legacyMode, by decide +kernel⟩

theorem meets_LegacyFramesAreServed_1 : ∃ s : State,
    s.legacyOn = true ∧ s.ringRoom 5 = true ∧ s.cpUp = true ∧ s.ring 5 = [] :=
  ⟨legacyMode, by decide +kernel⟩

theorem meets_LegacyFramesAreServed_2 : ∃ (_first count : Nat) (s : State),
    s.legacyOn = true ∧ s.ringRoom 5 = true ∧ s.cpUp = true ∧ s.ring 5 = [] ∧ 1 ≤ count ∧ count ≤ 16 :=
  ⟨1, 16, legacyMode, by decide +kernel⟩

theorem meets_LegacyFramesAreServed_3 : ∃ s : State,
    s.legacyOn = true ∧ s.ringRoom 5 = true ∧ s.cpUp = true ∧ s.ring 5 = [] :=
  ⟨legacyMode, by decide +kernel⟩

theorem meets_LegacyFramesAreServed_4 : ∃ s : State,
    s.legacyOn = true ∧ s.ringRoom 5 = true ∧ s.cpUp = false :=
  ⟨{ legacyMode with cpUp := false }, by decide +kernel⟩

theorem meets_LegacyFramesAreServed_5 : ∃ (status : Nat) (s : State),
    s.legacyOn = true ∧ 1 ≤ status ∧ status ≤ 3 :=
  ⟨3, legacyMode, by decide +kernel⟩

theorem meets_TheHopAnswersAndFollowersAreDiscovered_0 : ∃ (m p : List Byte) (type : Nat) (s : State),
    s.sendsOn = true ∧ readMessage m = some (type, p) ∧ type < 0x10 :=
  ⟨bcMessage 1 [], [], 1, base, by decide +kernel⟩

theorem meets_TheHopAnswersAndFollowersAreDiscovered_1 : ∃ s : State,
    s.follower = true ∧ s.get Reg.LNK_STATUS.STATE = 6 ∧ s.admittedSelf = false ∧ s.link.request = 0 :=
  ⟨follower, by decide +kernel⟩

theorem meets_TheHopAnswersAndFollowersAreDiscovered_2 : ∃ (m p : List Byte) (s : State),
    s.sendsOn = true ∧ readMessage m = some (0x10, p) ∧ p.length = 20 ∧ s.follower = false :=
  ⟨bcMessage 0x10 hello, hello, base, by decide +kernel⟩

theorem meets_TheHopAnswersAndFollowersAreDiscovered_3 : ∃ (m p : List Byte) (s : State),
    s.sendsOn = true ∧ readMessage m = some (0x10, p) ∧ p.length = 20 ∧ s.follower = true ∧ s.link.request = 0 :=
  ⟨bcMessage 0x10 hello, hello, follower, by decide +kernel⟩

theorem meets_FollowerStatusIsKeptOrLost_0 : ∃ s : State,
    s.follower = true ∧ s.get Reg.LNK_STATUS.STATE = 6 ∧ s.link.request = 0 :=
  ⟨follower, by decide +kernel⟩

theorem meets_FollowerStatusIsKeptOrLost_1 : ∃ (m p : List Byte) (x : Member) (s : State),
    s.sendsOn = true ∧ s.follower = false ∧ readMessage m = some (0x12, p) ∧ p.length = 4 ∧ 1 ≤ leAt p 0 1 ∧ leAt p 0 1 ≤ 3
      ∧ s.member (leAt p 0 1) = some x :=
  ⟨bcMessage 0x12 [1, 0, 0, 0], [1, 0, 0, 0], member0 [], membered, by decide +kernel⟩

theorem meets_FollowerStatusIsKeptOrLost_2 : ∃ (pos : Nat) (x : Member) (s : State),
    s.follower = false ∧ s.member pos = some x ∧ 1 ≤ pos ∧ pos ≤ 3 ∧ bit (s.get (Reg.CAS_MEMBER.P pos)) 4 = false :=
  ⟨1, member0 [], membered, by decide +kernel⟩

theorem meets_MarkersAlignFollowers_0 : ∃ s : State,
    s.follower = false ∧ s.scan.running = true ∧ s.sendsOn = true ∧ us 40 ≤ s.nextBoundary :=
  ⟨scanning, by decide +kernel⟩

theorem meets_MarkersAlignFollowers_1 : ∃ (r : List Byte) (_h : Nat) (m : Mark) (delay : Nat) (s : State),
    s.follower = true ∧ readMark r = some (m, delay) ∧ 200 ≤ delay :=
  ⟨marker, 0, mark1, 200, follower, by decide +kernel⟩

theorem meets_MarkersAlignFollowers_2 : ∃ s : State,
    s.follower = true ∧ s.scan.running = true ∧ s.casc.mark = none ∧ s.casc.last.isSome = true :=
  ⟨{ admitted with scan := scanning.scan }, by decide +kernel⟩

theorem meets_TakesAndClonesNameTheFrameOfABoundary_0 : ∃ s : State,
    s.follower = false ∧ s.scan.running = true ∧ s.forwards = true :=
  ⟨{ scanning.setAll [(Reg.CAS_STATUS.HOP_GEN, 2), (Reg.CAS_MEMBER.P 1, 1)] with casc := membered.casc }, by decide +kernel⟩

theorem meets_TakesAndClonesNameTheFrameOfABoundary_1 : ∃ (r : List Byte) (s : State),
    s.follower = true ∧ r.length = 32 ∧ crc32cFold 0 (r.take 28) = leAt r 28 4 :=
  ⟨take0, admitted, by decide +kernel⟩

theorem meets_TakesAndClonesNameTheFrameOfABoundary_2 : ∃ s : State,
    s.scan.running = true ∧ s.showsClone = true :=
  ⟨{ scanning.setAll [(Reg.CAS_MODE.MODE, 1), (Reg.SCN_CTRL.CASC_TX_EN, 1), (Reg.CAS_MEMBER.P 1, 1)] with casc := membered.casc }, by decide +kernel⟩

theorem meets_PacketsTravelAlongTheChain_0 : ∃ (block : List Byte) (s : State),
    s.follower = true ∧ s.admittedSelf = true ∧ framed s.tag (block.take (10 + leAt block 4 2)) = true ∧ s.ringRoom 4 = true :=
  ⟨sealed 0 0x0100 1 1 1 [], admitted, by decide +kernel⟩

theorem meets_PacketsTravelAlongTheChain_1 : ∃ (m p : List Byte) (s : State),
    s.sendsOn = true ∧ readMessage m = some (0x11, p) ∧ 2 ≤ p.length ∧ bit (leAt p 0 1) 7 = true ∧ bit (leAt p 0 1) 6 = false
      ∧ (s.follower = true → s.admittedSelf = true) :=
  ⟨bcMessage 0x11 [0x80, 0], [0x80, 0], base, by decide +kernel⟩

theorem meets_PacketsTravelAlongTheChain_2 : ∃ (m p : List Byte) (x : Member) (s : State),
    s.sendsOn = true ∧ readMessage m = some (0x11, p) ∧ 2 ≤ p.length ∧ bit (leAt p 0 1) 7 = true ∧ bit (leAt p 0 1) 6 = true
      ∧ s.member (leAt (p.drop 1) 6 1) = some x ∧ framed x.tag (p.drop 1) = true ∧ s.follower = true ∧ s.admittedSelf = true ∧ s.ringRoom 12 = true :=
  ⟨bcMessage 0x11 (0xC0 :: up0), 0xC0 :: up0, member0 [], { admitted with casc := { admitted.casc with members := [(1, member0 [])] } },
    by decide +kernel⟩

theorem meets_PacketsTravelAlongTheChain_3 : ∃ (m p : List Byte) (x : Member) (ring : Nat) (s s' : State),
    s.sendsOn = true ∧ readMessage m = some (0x11, p) ∧ 2 ≤ p.length ∧ bit (leAt p 0 1) 7 = true ∧ bit (leAt p 0 1) 6 = true
      ∧ s.member (leAt (p.drop 1) 6 1) = some x ∧ framed x.tag (p.drop 1) = true ∧ s.follower = false ∧ leAt (p.drop 1) 0 2 < 0xF000
      ∧ s.takeRoute (p.drop 1) = some (ring, s') ∧ s.ringRoom (ring + 8) = true :=
  ⟨bcMessage 0x11 (0xC0 :: up0), 0xC0 :: up0, member0 [], 0, routed, membered, by decide +kernel⟩

theorem meets_PacketsTravelAlongTheChain_4 : ∃ (r : Req) (s : State),
    s.accepts opCascadeStatus r ∧ s.answers r :=
  ⟨rq ([]), base, by unfold State.accepts State.answers; decide +kernel⟩

theorem meets_PacketsTravelAlongTheChain_5 : ∃ (r : Req) (s : State),
    s.accepts opCascadeMode r ∧ s.power = 2 ∧ r.target = 0 ∧ s.follower = false ∧ cascadeModeBad r.params = false
      ∧ (((readMode r.params).mode = 1 ∨ (readMode r.params).clone = true) → s.targets 0x0F ≠ [] → 2 ≤ s.get Reg.CAS_STATUS.HOP_GEN) :=
  ⟨rq ([2, 1, 0, 0] ++ le 2 4096 ++ le 10 0), base, by unfold State.accepts; decide +kernel⟩

theorem meets_ComparatorsInputsHeartbeatAndGuardActInTheirBands_0 : ∃ (_c theta : Nat) (_s : State),
    theta ≤ 1569 :=
  ⟨0, 1569, base, by decide +kernel⟩

theorem meets_ComparatorsInputsHeartbeatAndGuardActInTheirBands_1 : ∃ (c theta : Nat) (s : State),
    s.phase ≠ .dark ∧ c < 8 ∧ bit (s.get Reg.SAF_KS_STATUS.TEMP_HIGH) c = false ∧ 1630 ≤ theta ∧ s.ksTested = false ∧ s.lockedOut = false
      ∧ (∀ w ∈ s.flt.windows, w.reaction ≠ 6) :=
  ⟨7, 1630, base, by decide +kernel⟩

theorem meets_ComparatorsInputsHeartbeatAndGuardActInTheirBands_2 : ∃ (c theta : Nat) (s : State),
    s.phase ≠ .dark ∧ c < 8 ∧ bit (s.get Reg.SAF_KS_STATUS.TEMP_HIGH) c = true ∧ theta ≤ 1469 :=
  ⟨7, 1469, base.set Reg.SAF_KS_STATUS.TEMP_HIGH 128, by decide +kernel⟩

theorem meets_ComparatorsInputsHeartbeatAndGuardActInTheirBands_3 : ∃ (c theta : Nat) (s : State),
    s.phase ≠ .dark ∧ c < 8 ∧ bit (s.get Reg.SAF_KS_STATUS.TEMP_CUT) c = false ∧ 1780 ≤ theta :=
  ⟨7, 1780, base, by decide +kernel⟩

theorem meets_ComparatorsInputsHeartbeatAndGuardActInTheirBands_4 : ∃ (c theta : Nat) (s : State),
    s.phase ≠ .dark ∧ c < 8 ∧ bit (s.get Reg.SAF_KS_STATUS.TEMP_CUT) c = true ∧ theta ≤ 1619 :=
  ⟨7, 1619, base.set Reg.SAF_KS_STATUS.TEMP_CUT 128, by decide +kernel⟩

theorem meets_ComparatorsInputsHeartbeatAndGuardActInTheirBands_5 : ∃ (mv _held : Nat) (_s : State),
    mv ≤ 34500 :=
  ⟨34500, 0, base, by decide +kernel⟩

theorem meets_ComparatorsInputsHeartbeatAndGuardActInTheirBands_6 : ∃ (mv held : Nat) (s : State),
    s.phase ≠ .dark ∧ s.ks.vstrOff = false ∧ 36000 < mv ∧ us 5 ≤ held ∧ s.lockedOut = false ∧ (∀ w ∈ s.flt.windows, w.reaction ≠ 6) :=
  ⟨36001, us 5, base, by decide +kernel⟩

theorem meets_ComparatorsInputsHeartbeatAndGuardActInTheirBands_7 : ∃ (mv : Nat) (s : State),
    s.ks.vstrOff = true ∧ mv < 33000 :=
  ⟨32999, { base with ks := { base.ks with vstrOff := true } }, by decide +kernel⟩

theorem meets_ComparatorsInputsHeartbeatAndGuardActInTheirBands_8 : ∃ s : State,
    s.permitOk = true :=
  ⟨configured, by decide +kernel⟩

theorem meets_ComparatorsInputsHeartbeatAndGuardActInTheirBands_9 : ∃ s : State,
    s.permitOk = false :=
  ⟨base, by decide +kernel⟩

theorem meets_ComparatorsInputsHeartbeatAndGuardActInTheirBands_10 : ∃ s : State,
    s.flag Reg.SAF_STATUS.COVERING = true ∧ s.flag Reg.SAF_STATUS.PERMIT = true :=
  ⟨base.setAll [(Reg.SAF_STATUS.COVERING, 1), (Reg.SAF_STATUS.PERMIT, 1)], by decide +kernel⟩

theorem meets_ComparatorsInputsHeartbeatAndGuardActInTheirBands_11 : ∃ (n a : Nat) (s : State),
    s.spUp = true ∧ s.sp.coverageOk = true ∧ s.flag Reg.SAF_STATUS.PERMIT = true ∧ s.ks.lastToggle = some a ∧ 150000 ≤ n ∧ n ≤ 250000 :=
  ⟨150000, 0, beating, by decide +kernel⟩

theorem meets_ComparatorsInputsHeartbeatAndGuardActInTheirBands_12 : ∃ (n a : Nat) (s : State),
    s.spUp = true ∧ s.sp.coverageOk = true ∧ s.flag Reg.SAF_STATUS.PERMIT = true ∧ s.ks.lastToggle = some a ∧ (n < 130000 ∨ 270000 < n)
      ∧ s.lockedOut = false ∧ (∀ w ∈ s.flt.windows, w.reaction ≠ 6) :=
  ⟨270001, 0, beating, by decide +kernel⟩

theorem meets_ComparatorsInputsHeartbeatAndGuardActInTheirBands_13 : ∃ s : State,
    s.flag Reg.SAF_STATUS.PERMIT = true ∧ s.lockedOut = false ∧ (∀ w ∈ s.flt.windows, w.reaction ≠ 6) :=
  ⟨beating, by decide +kernel⟩

theorem meets_ComparatorsInputsHeartbeatAndGuardActInTheirBands_14 : ∃ (_channel _pair held : Nat) (_a _b : Bool) (_s : State),
    held ≤ 50000 :=
  ⟨2, 0, 50000, true, false, base, by decide +kernel⟩

theorem meets_ComparatorsInputsHeartbeatAndGuardActInTheirBands_15 : ∃ (channel pair held : Nat) (a b : Bool) (s : State),
    s.phase ≠ .dark ∧ (channel = 1 ∨ channel = 2) ∧ pair ≤ 1 ∧ (channel = 1 → s.spUp = true ∧ s.spTested = false)
      ∧ ¬ ((s.pairView channel pair).a = a ∧ (s.pairView channel pair).b = b) ∧ 120000 ≤ held ∧ (s.pairView channel pair).since = none
      ∧ (s.pairView channel pair).disc = false :=
  ⟨1, 1, 120000, true, false, base, by decide +kernel⟩

theorem meets_ComparatorsInputsHeartbeatAndGuardActInTheirBands_16 : ∃ (channel pair a : Nat) (s : State),
    (channel = 1 ∨ channel = 2) ∧ pair ≤ 1 ∧ (channel = 1 → s.spUp = true) ∧ (s.pairView channel pair).since = some a ∧ s.lockedOut = false
      ∧ (∀ w ∈ s.flt.windows, w.reaction ≠ 6) :=
  ⟨1, 1, 5, timing 1, by decide +kernel⟩

theorem meets_ComparatorsInputsHeartbeatAndGuardActInTheirBands_17 : ∃ s : State,
    s.spUp = true ∧ ((s.sp.cutPending.map (·.1)).getD (s.flag Reg.SAF_CUTOFF.SET)) ≠ s.limiterWanted :=
  ⟨base, by decide +kernel⟩

theorem meets_ComparatorsInputsHeartbeatAndGuardActInTheirBands_18 : ∃ (a : Nat) (s : State),
    s.ks.armAt = some a ∧ Block.cutoffEn s.ksBlock = true ∧ s.ks.armed = true ∧ s.flag Reg.SAF_STATUS.CUTOFF_ARMED = false :=
  ⟨7, guarding 0, by decide +kernel⟩

theorem meets_ComparatorsInputsHeartbeatAndGuardActInTheirBands_19 : ∃ (row mean : Nat) (s : State),
    s.flag Reg.SAF_STATUS.CUTOFF_ARMED = true ∧ row < 512 ∧ Block.guarded s.ksBlock row = true
      ∧ 10 * mean + 20000 ≤ 9000 * Block.cutoffLimit s.ksBlock :=
  ⟨256, 898000, guarding 1, by decide +kernel⟩

theorem meets_ComparatorsInputsHeartbeatAndGuardActInTheirBands_20 : ∃ (row mean : Nat) (s : State),
    s.flag Reg.SAF_STATUS.CUTOFF_ARMED = true ∧ row < 512 ∧ Block.guarded s.ksBlock row = true
      ∧ 11000 * Block.cutoffLimit s.ksBlock + 20000 < 10 * mean ∧ s.ks.armedAt ≤ s.window.1 ∧ s.lockedOut = false ∧ (∀ w ∈ s.flt.windows,
      w.reaction ≠ 6) :=
  ⟨511, 1102001, guarding 1, by decide +kernel⟩

theorem meets_LockOutIsKeptAndLeftAndCommissioningIsWritten_0 : ∃ (k : Nat) (s : State),
    s.phase ≠ .dark ∧ s.ks.armed = false ∧ s.chooseCopy = some k ∧ s.recordOf = none :=
  ⟨0, base, by decide +kernel⟩

theorem meets_LockOutIsKeptAndLeftAndCommissioningIsWritten_1 : ∃ s : State,
    s.phase ≠ .dark ∧ s.ks.armed = false ∧ s.chooseCopy = none ∧ s.recordOf = none ∧ s.lockedOut = false ∧ s.bst.run = none :=
  ⟨{ base with ks := { base.ks with copy0 := ⟨false, 1, []⟩, copy1 := ⟨false, 1, []⟩ } }, by decide +kernel⟩

theorem meets_LockOutIsKeptAndLeftAndCommissioningIsWritten_2 : ∃ (x : LockRecord) (s : State),
    s.phase ≠ .dark ∧ s.ks.armed = false ∧ s.recordOf = some x ∧ s.lockedOut = false ∧ s.bst.run = none :=
  ⟨lockRec, { base with locks := ⟨none, none, some lockRec⟩ }, by decide +kernel⟩

theorem meets_LockOutIsKeptAndLeftAndCommissioningIsWritten_3 : ∃ (copy : Nat) (s : State),
    s.lockedOut = true ∧ copy < 3 ∧ (match copy with | 0 => s.locks.aon | 1 => s.locks.ks | _ => s.locks.nvm) ≠ some s.lockRecord
      ∧ (copy = 2 → s.mpUp = true) :=
  ⟨2, lockout, by decide +kernel⟩

theorem meets_LockOutIsKeptAndLeftAndCommissioningIsWritten_4 : ∃ s : State,
    s.spUp = true ∧ s.sp.coverageOk = false ∧ s.sp.halted = false ∧ s.phase = .spStart ∧ s.pwr.wake = none
      ∧ Block.check s.id.serial s.spBlock % 2 ^ 32 = s.get Reg.SAF_KS_CRC.CRC :=
  ⟨{ base.set Reg.SAF_KS_CRC.CRC (Block.check 1 block0) with phase := .spStart, com := { base.com with block := block0 } }, by decide +kernel⟩

theorem meets_LockOutIsKeptAndLeftAndCommissioningIsWritten_5 : ∃ s : State,
    s.spUp = true ∧ s.sp.coverageOk = false ∧ s.sp.halted = false ∧ s.phase = .spStart ∧ s.lockedOut = false ∧ (∀ w ∈ s.flt.windows,
      w.reaction ≠ 6) :=
  ⟨{ base with phase := .spStart }, by decide +kernel⟩

theorem meets_LockOutIsKeptAndLeftAndCommissioningIsWritten_6 : ∃ (r : Req) (s : State),
    s.accepts opSafetyStatus r ∧ s.answers r :=
  ⟨rq ([]), base, by unfold State.accepts State.answers; decide +kernel⟩

theorem meets_LockOutIsKeptAndLeftAndCommissioningIsWritten_7 : ∃ (r : Req) (s : State),
    s.accepts opCommissionLoad r ∧ s.inReady = true ∧ s.com.writing = none ∧ s.spAway = false ∧ s.blockBad r.params = false :=
  ⟨rq (deliveredBlock 0), base, by unfold State.accepts; decide +kernel⟩

theorem meets_LockOutIsKeptAndLeftAndCommissioningIsWritten_8 : ∃ (x : List Byte × Nat) (s : State),
    s.com.staged = some x :=
  ⟨(deliveredBlock 0, 5), { base with com := { base.com with staged := some (deliveredBlock 0, 5) } }, by decide +kernel⟩

theorem meets_LockOutIsKeptAndLeftAndCommissioningIsWritten_9 : ∃ (r : Req) (b : List Byte) (t0 : Nat) (s : State),
    s.accepts opCommissionConfirm r ∧ s.inReady = true ∧ s.com.writing = none ∧ s.spAway = false ∧ s.com.staged = some (b, t0)
      ∧ leAt r.params 0 4 = Block.check s.id.serial b ∧ leAt r.params 4 4 = 0 ∧ r.params.drop 8 = s.sp.digest :=
  ⟨confirming (le 32 3), block0, 0, staged0, by unfold State.accepts; decide +kernel⟩

theorem meets_LockOutIsKeptAndLeftAndCommissioningIsWritten_10 : ∃ (r : Req) (b : List Byte) (t0 : Nat) (s : State),
    s.accepts opCommissionConfirm r ∧ s.inReady = true ∧ s.com.writing = none ∧ s.spAway = false ∧ s.com.staged = some (b, t0)
      ∧ bit (leAt r.params 4 1) 0 = false ∧ leAt r.params 0 4 ≠ Block.check s.id.serial b :=
  ⟨rq (le 40 0), block0, 0, staged0, by unfold State.accepts; decide +kernel⟩

theorem meets_LockOutIsKeptAndLeftAndCommissioningIsWritten_11 : ∃ (b digest : List Byte) (s : State),
    s.com.writing = some (some b, digest) ∧ s.spUp = true :=
  ⟨deliveredBlock 0, le 32 3, { base with com := { base.com with writing := some (some (deliveredBlock 0), le 32 3) } }, by decide +kernel⟩

theorem meets_LockOutIsKeptAndLeftAndCommissioningIsWritten_12 : ∃ (x : Option (List Byte) × List Byte) (s : State),
    s.com.writing = some x ∧ s.spUp = true :=
  ⟨(none, le 32 3), { base with com := { base.com with writing := some (none, le 32 3) } }, by decide +kernel⟩

theorem meets_LockOutIsKeptAndLeftAndCommissioningIsWritten_13 : ∃ (r : Req) (s : State),
    s.accepts opSafetyResetArm r ∧ s.lockedOut = true ∧ s.spAway = false :=
  ⟨rq ([]), lockout, by unfold State.accepts; decide +kernel⟩

theorem meets_LockOutIsKeptAndLeftAndCommissioningIsWritten_14 : ∃ (r : Req) (s : State),
    s.accepts opSafetyResetConfirm r ∧ s.lockedOut = true ∧ s.flag Reg.SAF_STATUS.ARMED = true ∧ s.spAway = false ∧ leAt r.params 0 4 = s.sp.armNonce
      ∧ s.sp.armAt + ms 50 ≤ s.now + r.wait ∧ s.now + r.wait ≤ s.sp.armAt + ms 2000 ∧ (s.atHandler opSafetyResetConfirm r).resetReasons = 0 :=
  ⟨{ rq (le 4 5) with wait := ms 50 }, arming, by unfold State.accepts; decide +kernel⟩

theorem meets_LockOutIsKeptAndLeftAndCommissioningIsWritten_15 : ∃ (r : Req) (s : State),
    s.accepts opSafetyResetConfirm r ∧ s.lockedOut = true ∧ s.flag Reg.SAF_STATUS.ARMED = true ∧ s.spAway = false ∧ leAt r.params 0 4 = s.sp.armNonce
      ∧ s.sp.armAt + ms 50 ≤ s.now + r.wait ∧ s.now + r.wait ≤ s.sp.armAt + ms 2000 ∧ (s.atHandler opSafetyResetConfirm r).resetReasons ≠ 0
      ∧ (s.follower = true → r.target ≠ 0x0F) :=
  ⟨{ rq (le 4 5) with wait := ms 2000 }, arming.set Reg.SAF_KS_STATUS.VSTR_OVER 1, by unfold State.accepts; decide +kernel⟩

theorem meets_LockOutIsKeptAndLeftAndCommissioningIsWritten_16 : ∃ (r : Req) (s : State),
    s.accepts opSafetyResetArm r ∧ (s.follower = true → r.target ≠ 0x0F) ∧ s.lockedOut = false :=
  ⟨rq ([]), base, by unfold State.accepts; decide +kernel⟩

theorem meets_LockOutIsKeptAndLeftAndCommissioningIsWritten_17 : ∃ (r : Req) (s : State),
    s.accepts opSafetyResetConfirm r ∧ (s.follower = true → r.target ≠ 0x0F) ∧ (s.lockedOut = false ∨ s.flag Reg.SAF_STATUS.ARMED = false) :=
  ⟨rq (le 4 5), lockout, by unfold State.accepts; decide +kernel⟩

theorem meets_LockOutIsKeptAndLeftAndCommissioningIsWritten_18 : ∃ (r : Req) (s : State),
    s.accepts opSafetyResetConfirm r ∧ (s.follower = true → r.target ≠ 0x0F) ∧ s.lockedOut = true ∧ s.flag Reg.SAF_STATUS.ARMED = true
      ∧ s.spAway = false ∧ leAt r.params 0 4 ≠ s.sp.armNonce :=
  ⟨rq (le 4 6), arming, by unfold State.accepts; decide +kernel⟩

theorem meets_LockOutIsKeptAndLeftAndCommissioningIsWritten_19 : ∃ (r : Req) (s : State),
    s.accepts opSafetyResetConfirm r ∧ (s.follower = true → r.target ≠ 0x0F) ∧ s.lockedOut = true ∧ s.flag Reg.SAF_STATUS.ARMED = true
      ∧ s.spAway = false ∧ leAt r.params 0 4 = s.sp.armNonce ∧ s.sp.armAt ≤ s.now + r.wait
      ∧ (s.now + r.wait < s.sp.armAt + ms 48 ∨ s.sp.armAt + ms 2010 < s.now + r.wait) :=
  ⟨{ rq (le 4 5) with wait := ms 48 - 1 }, arming, by unfold State.accepts; decide +kernel⟩

theorem meets_AContainedReportIsRaisedAndRecorded_0 : ∃ (f : FaultIn) (s : State),
    s.reports f = true ∧ checkerOf f = none ∧ Src.listed f.source = true ∧ 2 ≤ Src.cls f.source ∧ Src.reaction f.source = 0 ∧ s.flt.windows = [] :=
  ⟨⟨0x0A0, 0, 0, 0⟩, base, by decide +kernel⟩

theorem meets_PulsesInjectionAndLogs_0 : ∃ s : State,
    s.flag Reg.FLT_STATUS.PULSE_MODE = true ∧ s.flt.pulses ≠ 0 :=
  ⟨{ base.set Reg.FLT_STATUS.PULSE_MODE 1 with flt := { base.flt with pulses := 2, pulseAt := 5 } }, by decide +kernel⟩

theorem meets_PulsesInjectionAndLogs_1 : ∃ (f : FaultIn) (s : State),
    s.reports f = false :=
  ⟨⟨0x0A0, 0, 0, 0⟩, { base with phase := .dark }, by decide +kernel⟩

theorem meets_PulsesInjectionAndLogs_2 : ∃ (f : FaultIn) (s : State),
    s.reports f = true ∧ checkerOf f = none ∧ Src.listed f.source = true ∧ 2 ≤ Src.cls f.source ∧ Src.reaction f.source = 0 ∧ s.flt.windows = [] :=
  ⟨⟨0x0A0, 0, 0, 0⟩, base, by decide +kernel⟩

theorem meets_PulsesInjectionAndLogs_3 : ∃ s : State,
    s.flag Reg.FLT_INJECT.ARMED = true ∧ s.flt.injectUsed = false :=
  ⟨base.setAll [(Reg.FLT_INJECT.ARMED, 1), (Reg.FLT_INJECT.REMAIN, 3)], by decide +kernel⟩

theorem meets_PulsesInjectionAndLogs_4 : ∃ (r : PlogRecord) (s : State),
    s.flt.plogPending = [r] ∧ s.mpUp = true ∧ s.get Reg.FLT_PLOG_SEQ.SEQ < Reg.FLT_PLOG_SEQ.SEQ.max :=
  ⟨⟨kiln0, 0⟩, { base with flt := { base.flt with plogPending := [⟨kiln0, 0⟩] } }, by decide +kernel⟩

theorem meets_PulsesInjectionAndLogs_5 : ∃ s : State,
    s.flag Reg.CMP_LIB_STATUS.RAM_STORE = false ∧ s.mpUp = true :=
  ⟨base, by decide +kernel⟩

theorem meets_FaultCommandsReadClearArmAndSet_0 : ∃ (r : Req) (s : State),
    s.accepts opFaultReadFirst r ∧ s.answers r :=
  ⟨rq ([]), base, by unfold State.accepts State.answers; decide +kernel⟩

theorem meets_FaultCommandsReadClearArmAndSet_1 : ∃ (r : Req) (s : State),
    s.accepts opFaultReadHistory r ∧ s.answers r ∧ leAt r.params 0 1 ≤ 1 ∧ leAt r.params 1 1 = 0
      ∧ (leAt r.params 2 2 = 0 ∨ leAt r.params 2 2 < (if leAt r.params 0 1 = 0 then s.flt.kiln.length else s.flt.plog.length)) :=
  ⟨rq ([1, 0] ++ le 2 0), base, by unfold State.accepts State.answers; decide +kernel⟩

theorem meets_FaultCommandsReadClearArmAndSet_2 : ∃ (r : Req) (s : State),
    s.accepts opFaultClear r ∧ (s.flag Reg.FLT_STATUS.FIRST_VALID = true → leAt r.params 0 2 = s.get Reg.FLT_FIRST_ID.SEQ) ∧ leAt r.params 2 1 ≤ 1
      ∧ leAt r.params 3 1 = 0 :=
  ⟨rq (le 2 9 ++ [1, 0]), firstFault, by unfold State.accepts; decide +kernel⟩

theorem meets_FaultCommandsReadClearArmAndSet_3 : ∃ (r : Req) (s : State),
    s.accepts opFaultClear r ∧ s.flag Reg.FLT_STATUS.FIRST_VALID = true ∧ leAt r.params 0 2 ≠ s.get Reg.FLT_FIRST_ID.SEQ
      ∧ (s.follower = true → r.target ≠ 0x0F) :=
  ⟨rq (le 2 8 ++ [1, 0]), firstFault, by unfold State.accepts; decide +kernel⟩

theorem meets_FaultCommandsReadClearArmAndSet_4 : ∃ (r : Req) (s : State),
    s.accepts opFaultInject r ∧ s.checkerOff (leAt r.params 0 1) = false ∧ s.flag Reg.FLT_INJECT.ARMED = false ∧ leAt r.params 0 1 ≤ 0x29
      ∧ leAt r.params 1 1 % 16 ≠ 0 ∧ bits (leAt r.params 1 1) 4 3 = 0 ∧ (128 ≤ leAt r.params 1 1 → leAt r.params 0 1 < 32) ∧ leAt r.params 2 2 = 0 :=
  ⟨rq ([0x29, 0x0F, 0, 0]), configured, by unfold State.accepts; decide +kernel⟩

theorem meets_FaultCommandsReadClearArmAndSet_5 : ∃ (r : Req) (s : State),
    s.accepts opFaultPolicy r ∧ leAt r.params 0 1 ≠ 0 ∧ leAt r.params 0 1 ≤ 3 ∧ leAt r.params 1 1 ≤ 7 ∧ leAt r.params 2 1 ≤ 1 ∧ leAt r.params 3 1 = 0
      ∧ leAt r.params 4 4 ≤ 511 :=
  ⟨rq ([3, 7, 1, 0] ++ le 4 511), base, by unfold State.accepts; decide +kernel⟩

theorem meets_FaultCommandsReadClearArmAndSet_6 : ∃ (r : Req) (s : State),
    s.accepts opFaultReadHistory r ∧ (s.follower = true → r.target ≠ 0x0F) ∧ (1 < leAt r.params 0 1 ∨ leAt r.params 1 1 ≠ 0 ∨ (leAt r.params 2 2 ≠ 0
      ∧ (if leAt r.params 0 1 = 0 then s.flt.kiln.length else s.flt.plog.length) ≤ leAt r.params 2 2)) :=
  ⟨rq ([1, 0] ++ le 2 1), base, by unfold State.accepts; decide +kernel⟩

theorem meets_FaultCommandsReadClearArmAndSet_7 : ∃ (r : Req) (s : State),
    s.accepts opFaultClear r ∧ (s.follower = true → r.target ≠ 0x0F)
      ∧ (s.flag Reg.FLT_STATUS.FIRST_VALID = true → leAt r.params 0 2 = s.get Reg.FLT_FIRST_ID.SEQ)
      ∧ (1 < leAt r.params 2 1 ∨ leAt r.params 3 1 ≠ 0) :=
  ⟨rq (le 2 9 ++ [2, 0]), firstFault, by unfold State.accepts; decide +kernel⟩

theorem meets_FaultCommandsReadClearArmAndSet_8 : ∃ (r : Req) (s : State),
    s.accepts opFaultInject r ∧ (s.follower = true → r.target ≠ 0x0F) ∧ s.checkerOff (leAt r.params 0 1) = true :=
  ⟨rq ([0, 1, 0, 0]), configured.set (bankField 0) 0, by unfold State.accepts; decide +kernel⟩

theorem meets_FaultCommandsReadClearArmAndSet_9 : ∃ (r : Req) (s : State),
    s.accepts opFaultInject r ∧ (s.follower = true → r.target ≠ 0x0F) ∧ s.checkerOff (leAt r.params 0 1) = false
      ∧ s.flag Reg.FLT_INJECT.ARMED = true :=
  ⟨rq ([0x20, 1, 0, 0]), configured.set Reg.FLT_INJECT.ARMED 1, by unfold State.accepts; decide +kernel⟩

theorem meets_FaultCommandsReadClearArmAndSet_10 : ∃ (r : Req) (s : State),
    s.accepts opFaultInject r ∧ (s.follower = true → r.target ≠ 0x0F) ∧ s.checkerOff (leAt r.params 0 1) = false
      ∧ s.flag Reg.FLT_INJECT.ARMED = false
      ∧ (0x29 < leAt r.params 0 1 ∨ leAt r.params 1 1 % 16 = 0 ∨ bits (leAt r.params 1 1) 4 3 ≠ 0 ∨ (128 ≤ leAt r.params 1 1
      ∧ 32 ≤ leAt r.params 0 1) ∨ leAt r.params 2 2 ≠ 0) :=
  ⟨rq ([0x2A, 1, 0, 0]), configured, by unfold State.accepts; decide +kernel⟩

theorem meets_SuppliesResetsAndClockSourcesActInTheirBands_0 : ∃ (n : Nat) (_s : State),
    n ≤ 100 :=
  ⟨100, base, by decide +kernel⟩

theorem meets_SuppliesResetsAndClockSourcesActInTheirBands_1 : ∃ (n : Nat) (s : State),
    s.phase ≠ .dark ∧ 1000 ≤ n :=
  ⟨1000, base, by decide +kernel⟩

theorem meets_SuppliesResetsAndClockSourcesActInTheirBands_2 : ∃ (n mv : Nat) (s : State),
    1 ≤ n ∧ n ≤ 3 ∧ s.phase ≠ .dark ∧ mv ≤ (warnBand n).1 ∧ bit (s.get Reg.PWR_SUPPLY.WARN_NOW) (n - 1) = false :=
  ⟨3, (warnBand 3).1, base, by decide +kernel⟩

theorem meets_SuppliesResetsAndClockSourcesActInTheirBands_3 : ∃ (n mv : Nat) (_s : State),
    (warnBand n).2 < mv :=
  ⟨2, (warnBand 2).2 + 1, base, by decide +kernel⟩

theorem meets_SuppliesResetsAndClockSourcesActInTheirBands_4 : ∃ (n mv : Nat) (s : State),
    1 ≤ n ∧ n ≤ 3 ∧ s.phase ≠ .dark ∧ (warnBand n).2 < mv ∧ bit (s.get Reg.PWR_SUPPLY.WARN_NOW) (n - 1) = true :=
  ⟨1, (warnBand 1).2 + 1, base.set Reg.PWR_SUPPLY.WARN_NOW 7, by decide +kernel⟩

theorem meets_SuppliesResetsAndClockSourcesActInTheirBands_5 : ∃ (n mv : Nat) (s : State),
    (n = 1 ∨ n = 2) ∧ s.phase ≠ .dark ∧ mv ≤ (resetBand n).1 :=
  ⟨2, (resetBand 2).1, base, by decide +kernel⟩

theorem meets_SuppliesResetsAndClockSourcesActInTheirBands_6 : ∃ (mv : Nat) (s : State),
    s.phase ≠ .dark ∧ mv ≤ 2810 :=
  ⟨2810, base, by decide +kernel⟩

theorem meets_SuppliesResetsAndClockSourcesActInTheirBands_7 : ∃ s : State,
    s.phase ≠ .dark :=
  ⟨base, by decide +kernel⟩

theorem meets_SuppliesResetsAndClockSourcesActInTheirBands_8 : ∃ (gap : Nat) (s : State),
    s.phase ≠ .dark ∧ s.flag Reg.PWR_TIME_STATUS.XTAL = true ∧ 4 ≤ gap :=
  ⟨4, base.set Reg.PWR_TIME_STATUS.XTAL 1, by decide +kernel⟩

theorem meets_SuppliesResetsAndClockSourcesActInTheirBands_9 : ∃ (gap : Nat) (_s : State),
    gap ≤ 2 :=
  ⟨2, base, by decide +kernel⟩

theorem meets_SuppliesResetsAndClockSourcesActInTheirBands_10 : ∃ s : State,
    s.phase ≠ .dark ∧ s.flag Reg.PWR_TIME_STATUS.XTAL = false :=
  ⟨base, by decide +kernel⟩

theorem meets_PowerRequestsAndEntriesRunTheirSteps_0 : ∃ (r : Req) (s : State),
    s.accepts opPowerState r ∧ (s.power = 1 ∨ s.power = 2) ∧ s.pwr.entry = none ∧ s.pwr.wake = none ∧ s.get Reg.PWR_STATE.STEP = 0
      ∧ s.flag Reg.PWR_STATE.SERVICE = false ∧ s.com.writing = none ∧ s.lib.install = none ∧ s.updateBusy = false ∧ s.bst.run = none
      ∧ 3 ≤ leAt r.params 0 1 ∧ leAt r.params 0 1 ≤ 5 ∧ leAt r.params 1 1 ≤ 1 ∧ (leAt r.params 1 1 = 1 → leAt r.params 0 1 = 5)
      ∧ leAt r.params 2 2 ≤ 10000 :=
  ⟨rq ([5, 1] ++ le 2 10000 ++ le 4 0), base, by unfold State.accepts; decide +kernel⟩

theorem meets_PowerRequestsAndEntriesRunTheirSteps_1 : ∃ (r : Req) (s : State),
    s.accepts opPowerState r ∧ s.power = 2 ∧ s.pwr.entry = none ∧ s.pwr.wake = none ∧ s.get Reg.PWR_STATE.STEP = 0
      ∧ s.flag Reg.PWR_STATE.SERVICE = false ∧ s.com.writing = none ∧ s.lib.install = none ∧ s.updateBusy = false ∧ s.bst.run = none
      ∧ leAt r.params 0 1 = 1 ∧ leAt r.params 1 1 = 0 ∧ leAt r.params 2 2 ≤ 10000 ∧ s.upd.cores.any (·.migration) = false :=
  ⟨rq ([1, 0] ++ le 2 10000 ++ le 4 0), base, by unfold State.accepts; decide +kernel⟩

theorem meets_PowerRequestsAndEntriesRunTheirSteps_2 : ∃ (r : Req) (s : State),
    s.accepts opPowerState r ∧ s.power = 1 ∧ s.pwr.entry = none ∧ s.pwr.wake = none ∧ s.get Reg.PWR_STATE.STEP = 0
      ∧ s.flag Reg.PWR_STATE.SERVICE = false ∧ s.com.writing = none ∧ s.lib.install = none ∧ s.updateBusy = false ∧ s.bst.run = none
      ∧ leAt r.params 0 1 = 2 ∧ leAt r.params 1 1 = 0 ∧ leAt r.params 2 2 ≤ 10000 :=
  ⟨rq ([2, 0] ++ le 2 0 ++ le 4 0), ready1, by unfold State.accepts; decide +kernel⟩

theorem meets_PowerRequestsAndEntriesRunTheirSteps_3 : ∃ (r : Req) (s : State),
    s.accepts opPowerState r ∧ (s.power = 1 ∨ s.power = 2) ∧ s.pwr.entry = none ∧ s.pwr.wake = none ∧ s.get Reg.PWR_STATE.STEP = 0
      ∧ s.com.writing = none ∧ s.lib.install = none ∧ s.updateBusy = false ∧ leAt r.params 0 1 = s.power ∧ leAt r.params 1 1 = 0
      ∧ leAt r.params 2 2 ≤ 10000 ∧ (s.power = 1 → s.upd.cores.any (·.migration) = false) :=
  ⟨rq ([2, 0] ++ le 2 0 ++ le 4 0), base, by unfold State.accepts; decide +kernel⟩

theorem meets_PowerRequestsAndEntriesRunTheirSteps_4 : ∃ s : State,
    s.legacyOn = true ∧ s.ringRoom 5 = true ∧ (s.power = 1 ∨ s.power = 2) ∧ s.pwr.entry = none ∧ s.pwr.wake = none ∧ s.get Reg.PWR_STATE.STEP = 0
      ∧ s.flag Reg.PWR_STATE.SERVICE = false ∧ s.com.writing = none ∧ s.lib.install = none ∧ s.updateBusy = false ∧ s.bst.run = none
      ∧ (s.cpUp = true → s.mpUp = true → s.ring 5 = []) :=
  ⟨{ legacyMode with beam := base.beam }, by decide +kernel⟩

theorem meets_PowerRequestsAndEntriesRunTheirSteps_5 : ∃ (e : Entry) (s : State),
    s.pwr.entry = some e ∧ s.get Reg.PWR_STATE.STEP = 1 :=
  ⟨entry0 3 false, entering (entry0 3 false) 1, by decide +kernel⟩

theorem meets_PowerRequestsAndEntriesRunTheirSteps_6 : ∃ (e : Entry) (s : State),
    s.pwr.entry = some e ∧ s.get Reg.PWR_STATE.STEP = 2 ∧ e.target ≠ 2 ∧ e.testing = false ∧ s.dimmed = true ∧ s.conducts = false :=
  ⟨entry0 4 false, (entering (entry0 4 false) 2).set Reg.SAF_STATUS.LOCKED_OUT 1, by decide +kernel⟩

theorem meets_PowerRequestsAndEntriesRunTheirSteps_7 : ∃ (e : Entry) (s : State),
    s.pwr.entry = some e ∧ e.testing = true ∧ s.bst.run = none ∧ s.bst.held.isSome = true :=
  ⟨entry0 5 true, { entering (entry0 5 true) 2 with bst := { base.bst with held := some result0 } }, by decide +kernel⟩

theorem meets_PowerRequestsAndEntriesRunTheirSteps_8 : ∃ (e : Entry) (s : State),
    s.pwr.entry = some e ∧ s.get Reg.PWR_STATE.STEP = 3 :=
  ⟨entry0 4 false, entering (entry0 4 false) 3, by decide +kernel⟩

theorem meets_PowerRequestsAndEntriesRunTheirSteps_9 : ∃ (e : Entry) (s : State),
    s.pwr.entry = some e ∧ s.get Reg.PWR_STATE.STEP = 4 ∧ s.commitsWait = false :=
  ⟨entry0 3 false, entering (entry0 3 false) 4, by decide +kernel⟩

theorem meets_PowerRequestsAndEntriesRunTheirSteps_10 : ∃ (e : Entry) (s : State),
    s.pwr.entry = some e ∧ s.get Reg.PWR_STATE.STEP = 5 ∧ s.pwr.wakeAfter = none :=
  ⟨entry0 5 false, entering (entry0 5 false) 5, by decide +kernel⟩

theorem meets_WakesTimeAndOnDemandDomains_0 : ∃ (first : Nat) (s : State),
    bits first 1 7 ≠ s.get Reg.PWR_WAKE_CFG.WAKE_ADDR :=
  ⟨255, base, by decide +kernel⟩

theorem meets_WakesTimeAndOnDemandDomains_1 : ∃ (first : Nat) (s : State),
    s.phase ≠ .dark ∧ bits first 1 7 = s.get Reg.PWR_WAKE_CFG.WAKE_ADDR ∧ bit (s.get Reg.PWR_WAKE_CFG.SOURCES) 0 = true ∧ (s.power = 3 ∨ s.power = 4)
      ∧ s.pwr.entry = none ∧ s.pwr.wake = none ∧ s.flag Reg.PWR_STATE.SERVICE = false :=
  ⟨2 * base.get Reg.PWR_WAKE_CFG.WAKE_ADDR, standby, by decide +kernel⟩

theorem meets_WakesTimeAndOnDemandDomains_2 : ∃ (first : Nat) (e : Entry) (s : State),
    s.phase ≠ .dark ∧ bits first 1 7 = s.get Reg.PWR_WAKE_CFG.WAKE_ADDR ∧ bit (s.get Reg.PWR_WAKE_CFG.SOURCES) 0 = true ∧ s.pwr.entry = some e
      ∧ e.target ≠ 2 ∧ e.origin ≤ 2 ∧ s.get Reg.PWR_STATE.STEP < 5 :=
  ⟨2 * base.get Reg.PWR_WAKE_CFG.WAKE_ADDR + 1, entry0 3 false, entering (entry0 3 false) 4, by decide +kernel⟩

theorem meets_WakesTimeAndOnDemandDomains_3 : ∃ s : State,
    s.phase ≠ .dark ∧ s.clk.alarm ≠ 0 ∧ s.pwr.entry = none ∧ s.pwr.wake = none ∧ s.power ≠ 3 ∧ s.power ≠ 4 :=
  ⟨{ base with clk := { base.clk with alarm := 1000 } }, by decide +kernel⟩

theorem meets_WakesTimeAndOnDemandDomains_4 : ∃ s : State,
    s.phase ≠ .dark ∧ s.clk.alarm ≠ 0 ∧ bit (s.get Reg.PWR_WAKE_CFG.SOURCES) 1 = true ∧ (s.power = 3 ∨ s.power = 4) ∧ s.pwr.entry = none
      ∧ s.pwr.wake = none ∧ s.flag Reg.PWR_STATE.SERVICE = false :=
  ⟨{ standby with clk := { base.clk with alarm := 1000 } }, by decide +kernel⟩

theorem meets_WakesTimeAndOnDemandDomains_5 : ∃ (_addr _data : Nat) (s : State),
    s.id.variant = .iw ∧ (s.power = 3 ∨ s.power = 4) ∧ s.pwr.wake = none ∧ s.pwr.entry = none ∧ s.flag Reg.PWR_STATE.SERVICE = false
      ∧ bit (s.get Reg.PWR_WAKE_CFG.SOURCES) 3 = true :=
  ⟨254, 0, { standby.set Reg.PWR_WAKE_CFG.SOURCES 8 with id := { base.id with variant := .iw } }, by decide +kernel⟩

theorem meets_WakesTimeAndOnDemandDomains_6 : ∃ s : State,
    s.follower = true ∧ s.phase ≠ .dark ∧ (s.power = 3 ∨ s.power = 4) ∧ s.pwr.wake = none ∧ s.pwr.entry = none ∧ s.flag Reg.PWR_STATE.SERVICE = false
      ∧ bit (s.get Reg.PWR_WAKE_CFG.SOURCES) 4 = true :=
  ⟨{ standby.set Reg.PWR_WAKE_CFG.SOURCES 16 with id := { base.id with role := 3 } }, by decide +kernel⟩

theorem meets_WakesTimeAndOnDemandDomains_7 : ∃ (_crc _vflag : Nat) (_readable : Bool) (w : Wake) (s : State),
    s.pwr.wake = some w ∧ w.origin = 3 ∧ w.checked = false ∧ w.target ≠ 0 ∧ s.mpUp = false :=
  ⟨0, 0, true, waking0 1 3 false, { waking (waking0 1 3 false) with mpUp := false }, by decide +kernel⟩

theorem meets_WakesTimeAndOnDemandDomains_8 : ∃ (bank : Nat) (_readable : Bool) (s : State),
    bank < 32 ∧ bank ∈ s.pwr.rebuilding :=
  ⟨31, true, { base with pwr := { base.pwr with rebuilding := [31] } }, by decide +kernel⟩

theorem meets_WakesTimeAndOnDemandDomains_9 : ∃ (w : Wake) (_lost : List Nat) (_readable : Bool) (s : State),
    s.pwr.wake = some w ∧ w.target = 0 ∧ w.origin = 3 ∧ s.mpUp = true ∧ s.cpUp = true :=
  ⟨waking0 0 3 true, [], true, waking (waking0 0 3 true), by decide +kernel⟩

theorem meets_WakesTimeAndOnDemandDomains_10 : ∃ (w : Wake) (_lost : List Nat) (_readable : Bool) (s : State),
    s.pwr.wake = some w ∧ w.target = 1 ∧ s.power ≠ 1 ∧ s.power ≠ 2 ∧ s.wakeRuns w = true ∧ s.pads.refclk = true ∧ s.pwr.daliFrame = none :=
  ⟨waking0 1 3 true, [], true, { waking (waking0 1 3 true) with tmp := { base.tmp with published := some 0 } }, by decide +kernel⟩

theorem meets_WakesTimeAndOnDemandDomains_11 : ∃ s : State,
    s.flag Reg.PWR_STATE.SERVICE = true ∧ s.pwr.entry = none :=
  ⟨base.set Reg.PWR_STATE.SERVICE 1, by decide +kernel⟩

theorem meets_WakesTimeAndOnDemandDomains_12 : ∃ (code : Nat) (s : State),
    code < 32 ∧ s.mpUp = true ∧ (s.power = 1 ∨ s.power = 2) ∧ s.bankIdle code = true ∧ s.get (bankField code) = 2 :=
  ⟨0, base.set (bankField 0) 2, by decide +kernel⟩

theorem meets_WakesTimeAndOnDemandDomains_13 : ∃ s : State,
    s.mpUp = true ∧ (s.power = 1 ∨ s.power = 2) ∧ s.get Reg.LNK_STATUS.STATE = 0 ∧ s.flag Reg.SCN_CTRL.CASC_TX_EN = false
      ∧ bit (s.get Reg.PWR_DOMAIN.ON) 4 = true :=
  ⟨base.set Reg.PWR_DOMAIN.ON 31, by decide +kernel⟩

theorem meets_WakesTimeAndOnDemandDomains_14 : ∃ (code : Nat) (s : State),
    (s.power = 1 ∨ s.power = 2) ∧ s.isOff code = true :=
  ⟨31, base.set (bankField 31) 0, by decide +kernel⟩

theorem meets_WakesTimeAndOnDemandDomains_15 : ∃ (code _addr master _access n : Nat) (s : State),
    (s.power = 1 ∨ s.power = 2) ∧ s.isOff code = true ∧ us 510 ≤ n ∧ master ≠ 1 ∧ s.flt.windows = [] :=
  ⟨0, 0x00000000, 0, 0, us 510, base.set (bankField 0) 0, by decide +kernel⟩

theorem meets_WakesTimeAndOnDemandDomains_16 : ∃ (code _addr _access _n : Nat) (s : State),
    (s.power = 1 ∨ s.power = 2) ∧ s.isOff code = true ∧ s.flt.windows = [] :=
  ⟨36, 0x41000000, 0, 1, base.set Reg.PWR_DOMAIN.ON 15, by decide +kernel⟩

theorem meets_WakesTimeAndOnDemandDomains_17 : ∃ (_mv : Nat) (s : State),
    s.flag Reg.PWR_MEAS_CTRL.BUSY = true :=
  ⟨24500, base.set Reg.PWR_MEAS_CTRL.BUSY 1, by decide +kernel⟩

theorem meets_WakesTimeAndOnDemandDomains_18 : ∃ (n mv : Nat) (s : State),
    1 ≤ n ∧ n ≤ 3 ∧ s.phase ≠ .dark ∧ mv ≤ (warnBand n).1 ∧ s.get Reg.PWR_SUPPLY.WARN_NOW = 0 :=
  ⟨3, (warnBand 3).1, base, by decide +kernel⟩

theorem meets_WakesTimeAndOnDemandDomains_19 : ∃ (n mv : Nat) (s : State),
    1 ≤ n ∧ n ≤ 3 ∧ s.phase ≠ .dark ∧ (warnBand n).2 < mv ∧ s.get Reg.PWR_SUPPLY.WARN_NOW = 2 ^ (n - 1) :=
  ⟨3, (warnBand 3).2 + 1, base.set Reg.PWR_SUPPLY.WARN_NOW 4, by decide +kernel⟩

theorem meets_WakesTimeAndOnDemandDomains_20 : ∃ (r : Req) (s : State),
    s.accepts opTimeGet r ∧ s.answers r :=
  ⟨rq ([]), base, by unfold State.accepts State.answers; decide +kernel⟩

theorem meets_WakesTimeAndOnDemandDomains_21 : ∃ (r : Req) (s : State),
    s.accepts opTimeSet r ∧ ((s.atHandler opTimeSet r).quality = 3 ∨ ((s.atHandler opTimeSet r).time ≤ leAt r.params 0 8 ∧ leAt r.params 10 2 = 0)) :=
  ⟨rq (le 8 1000000 ++ le 2 0 ++ [1, 0] ++ le 4 5), base, by unfold State.accepts; decide +kernel⟩

theorem meets_WakesTimeAndOnDemandDomains_22 : ∃ (r : Req) (s : State),
    s.accepts opWakeConfig r ∧ leAt r.params 0 1 ≤ 31 ∧ (bit (leAt r.params 0 1) 3 = true → s.id.variant = .iw)
      ∧ (bit (leAt r.params 0 1) 4 = true → s.follower = true) ∧ leAt r.params 1 1 ≤ 127 ∧ (∀ k < 4, leAt r.params (2 + k) 1 ≤ 2)
      ∧ 100 ≤ leAt r.params 6 2 ∧ leAt r.params 6 2 ≤ 60000 :=
  ⟨rq ([7, 127, 0, 1, 2, 2] ++ le 2 60000 ++ le 8 0), base, by unfold State.accepts; decide +kernel⟩

theorem meets_EstimatesFollowSweepsAndLimitFollowsEstimates_0 : ∃ (_codes : List Nat) (s : State),
    s.sweeps = true ∧ s.tmp.codes = none :=
  ⟨List.replicate 20 2048, base, by decide +kernel⟩

theorem meets_EstimatesFollowSweepsAndLimitFollowsEstimates_1 : ∃ (cs : List Nat) (at_ : Nat) (s : State),
    s.tmp.codes = some cs ∧ s.tmp.sweepAt = some at_ :=
  ⟨List.replicate 20 960, 0, { base with tmp := { base.tmp with codes := some (List.replicate 20 960), sweepAt := some 0 } }, by decide +kernel⟩

theorem meets_EstimatesFollowSweepsAndLimitFollowsEstimates_2 : ∃ s : State,
    s.mpUp = true ∧ (s.power = 1 ∨ s.power = 2) ∧ s.tmp.published.isSome = true ∧ s.get Reg.TMP_STATUS.STATE < 2 :=
  ⟨{ base with tmp := { base.tmp with published := some 0 } }, by decide +kernel⟩

theorem meets_EstimatesFollowSweepsAndLimitFollowsEstimates_3 : ∃ s : State,
    s.mpUp = true ∧ (s.power = 1 ∨ s.power = 2) ∧ s.tmp.published.isSome = true ∧ 2 ≤ s.get Reg.TMP_STATUS.STATE ∧ s.cpUp = true
      ∧ toSigned 16 (s.get Reg.TMP_HOT.THETA) < (s.get Reg.TMP_POLICY_T.STEP_LO : Int) :=
  ⟨{ base.setAll [(Reg.TMP_STATUS.STATE, 2), (Reg.TMP_POLICY_T.STEP_LO, 1000), (Reg.TMP_HOT.THETA, 999)] with tmp := { base.tmp with published := some 0 } },
    by decide +kernel⟩

theorem meets_EstimatesFollowSweepsAndLimitFollowsEstimates_4 : ∃ s : State,
    s.mpUp = true ∧ (s.power = 1 ∨ s.power = 2) ∧ s.tmp.published.isSome = true ∧ 2 ≤ s.get Reg.TMP_STATUS.STATE ∧ s.cpUp = false
      ∧ toSigned 16 (s.get Reg.TMP_HOT.THETA) < (s.get Reg.TMP_POLICY_T.STEP_LO : Int) :=
  ⟨{ base.setAll [(Reg.TMP_STATUS.STATE, 2), (Reg.TMP_POLICY_T.STEP_LO, 1000), (Reg.TMP_HOT.THETA, 999)] with cpUp := false, tmp := { base.tmp with published := some 0 } },
    by decide +kernel⟩

theorem meets_BoostsStopsAndThermalCommands_0 : ∃ (landed : Nat) (s : State),
    s.tmp.boostAt = some landed ∧ s.mpUp = true ∧ s.flag Reg.TMP_STATUS.BOOST = true :=
  ⟨0, { base.set Reg.TMP_STATUS.BOOST 1 with tmp := { base.tmp with boostAt := some 0 } }, by decide +kernel⟩

theorem meets_BoostsStopsAndThermalCommands_1 : ∃ s : State,
    s.get Reg.TMP_STATUS.STATE = 2 ∧ s.beam.front.stop.target = 4096 ∧ s.beam.stopFade.level s.scan.frameStart s.period = 4096 :=
  ⟨{ base.set Reg.TMP_STATUS.STATE 2 with beam := { base.beam with front := { base.beam.front with stop := ⟨4096, 0, false, 1⟩ }, stopFade := ⟨4096, 4096, 0, 0, false⟩ } },
    by decide +kernel⟩

theorem meets_BoostsStopsAndThermalCommands_2 : ∃ (r : Req) (s : State),
    s.accepts opThermalStatus r ∧ s.answers r :=
  ⟨rq ([]), base, by unfold State.accepts State.answers; decide +kernel⟩

theorem meets_BoostsStopsAndThermalCommands_3 : ∃ (r : Req) (s : State),
    s.accepts opThermalPolicy r ∧ thermalBad r.params = false ∧ bit (leAt r.params 9 1) 1 = false :=
  ⟨rq (thermalPolicy 1), base, by unfold State.accepts; decide +kernel⟩

theorem meets_BoostsStopsAndThermalCommands_4 : ∃ (r : Req) (s : State),
    s.accepts opThermalPolicy r ∧ thermalBad r.params = false ∧ bit (leAt r.params 9 1) 1 = true ∧ s.flag Reg.TMP_STATUS.BOOST = false
      ∧ (s.atHandler opThermalPolicy r).boostGrants = true :=
  ⟨rq (thermalPolicy 2), (base.set Reg.PWR_STATE.POWER 1).set Reg.TMP_HOT.THETA 999, by unfold State.accepts; decide +kernel⟩

theorem meets_SelfTestsRunJudgeAndReport_0 : ∃ s : State,
    s.phase = .lbist ∧ s.bst.run = none ∧ s.id.lifecycle ≠ .returned
      ∧ (s.id.lifecycle = .manufacture → s.flag Reg.BST_CTRL.STARTUP_LBIST_EN = true) :=
  ⟨{ base with phase := .lbist }, by decide +kernel⟩

theorem meets_SelfTestsRunJudgeAndReport_1 : ∃ s : State,
    s.phase = .lbist ∧ s.bst.run = none ∧ (s.id.lifecycle = .returned ∨ (s.id.lifecycle = .manufacture
      ∧ s.flag Reg.BST_CTRL.STARTUP_LBIST_EN = false)) :=
  ⟨{ base with phase := .lbist, id := { base.id with lifecycle := .returned } }, by decide +kernel⟩

theorem meets_SelfTestsRunJudgeAndReport_2 : ∃ (x : TestRun) (u patterns signature : Nat) (rest : List Nat) (s : State),
    s.bst.run = some x ∧ x.engine = 1 ∧ x.left = u :: rest ∧ rest ≠ [] ∧ u < 5 ∧ lbistTarget u ≤ patterns
      ∧ signature % 2 ^ 64 = nth 0 s.id.lbistRefs u :=
  ⟨run0 1 [0, 1], 0, 65536, 0, [1], testing (run0 1 [0, 1]), by decide +kernel⟩

theorem meets_SelfTestsRunJudgeAndReport_3 : ∃ (x : TestRun) (u patterns signature : Nat) (restored : Bool) (rest : List Nat) (s : State),
    s.bst.run = some x ∧ x.engine = 1 ∧ x.left = u :: rest ∧ rest ≠ [] ∧ s.lockedOut = false ∧ (∀ w ∈ s.flt.windows, w.reaction ≠ 6)
      ∧ (patterns < lbistTarget u ∨ signature % 2 ^ 64 ≠ nth 0 s.id.lbistRefs u ∨ (restored = false ∧ (x.origin ≠ 0 ∨ u = 1))) :=
  ⟨run0 1 [4, 1], 4, 16383, 0, true, [1], testing (run0 1 [4, 1]), by decide +kernel⟩

theorem meets_SelfTestsRunJudgeAndReport_4 : ∃ s : State,
    s.phase = .abist ∧ s.bst.run = none ∧ (s.flag Reg.BST_CTRL.REUSE_EN = false ∨ s.bst.shut = none ∨ s.bst.consumed = true) :=
  ⟨{ base with phase := .abist }, by decide +kernel⟩

theorem meets_SelfTestsRunJudgeAndReport_5 : ∃ (x : TestResult) (s : State),
    s.phase = .abist ∧ s.bst.run = none ∧ s.flag Reg.BST_CTRL.REUSE_EN = true ∧ (s.id.lifecycle = .field ∨ s.id.lifecycle = .service)
      ∧ s.bst.shut = some x ∧ s.bst.consumed = false ∧ x.skipped = false ∧ x.verdict = 1 ∧ x.epoch = s.epoch ∧ s.quality ≠ 3
      ∧ s.time - x.time < 86400000000 ∧ s.bst.maps.length ≤ 768 :=
  ⟨result0, { base.set Reg.BST_CTRL.REUSE_EN 1 with phase := .abist, clk := { base.clk with timeSet := true }, bst := { base.bst with shut := some result0 } },
    by decide +kernel⟩

theorem meets_SelfTestsRunJudgeAndReport_6 : ∃ (x : TestRun) (i _vstr : Nat) (rest : List Nat) (s : State),
    s.bst.run = some x ∧ x.engine = 0 ∧ x.left = i :: rest ∧ rest ≠ [] ∧ i ≤ 6 :=
  ⟨run0 0 [0, 1], 0, 24500, [1], testing (run0 0 [0, 1]), by decide +kernel⟩

theorem meets_SelfTestsRunJudgeAndReport_7 : ∃ (x : TestRun) (n dev vstr : Nat) (rest : List Nat) (s : State),
    s.bst.run = some x ∧ x.engine = 0 ∧ x.left = 2 :: rest ∧ rest ≠ [] ∧ x.clear = false ∧ 20000 ≤ vstr ∧ 151 ≤ dev ∧ s.limpLit n = false
      ∧ s.mappedBy 1 n = false ∧ s.bst.maps.length < 768 :=
  ⟨run0 0 [2, 3], 131071, 151, 20000, [3], testing (run0 0 [2, 3]), by decide +kernel⟩

theorem meets_SelfTestsRunJudgeAndReport_8 : ∃ (x : TestRun) (i : Nat) (rest : List Nat) (s : State),
    s.bst.run = some x ∧ x.engine = 0 ∧ x.left = i :: rest ∧ rest ≠ [] :=
  ⟨run0 0 [2, 3], 2, [3], testing (run0 0 [2, 3]), by decide +kernel⟩

theorem meets_SelfTestsRunJudgeAndReport_9 : ∃ (r : Req) (s : State),
    s.accepts opBistRun r ∧ s.power = 2 ∧ s.pwr.entry = none ∧ s.bst.run = none ∧ s.calBusy = false ∧ s.com.writing = none
      ∧ s.get Reg.UPD_SESSION.STATE < 5 ∧ leAt r.params 0 1 ≤ 1 ∧ leAt r.params 1 1 ≤ 1 ∧ (s.id.lifecycle = .field → leAt r.params 0 1 = 0
      ∧ leAt r.params 1 1 = 0) ∧ (leAt r.params 0 1 = 1 → leAt r.params 1 1 = 0) ∧ leAt r.params 2 2 ≠ 0
      ∧ leAt r.params 2 2 < (if leAt r.params 0 1 = 0 then 128 else 32) ∧ leAt r.params 4 4 = 0 :=
  ⟨rq ([0, 0] ++ le 2 127 ++ le 4 0), base, by unfold State.accepts; decide +kernel⟩

theorem meets_SelfTestsRunJudgeAndReport_10 : ∃ (r : Req) (s : State),
    s.accepts opBistResult r ∧ s.answers r ∧ leAt r.params 0 1 ≤ 2 ∧ leAt r.params 1 3 = 0 :=
  ⟨rq ([2, 0, 0, 0]), { base with bst := { base.bst with shut := some result0 } }, by unfold State.accepts State.answers; decide +kernel⟩

theorem meets_UpdatesDownloadVerifyActivateConfirmAndFallBack_0 : ∃ (r : Req) (s : State),
    s.accepts opUpdateBegin r ∧ s.restarting = false ∧ s.get Reg.UPD_SESSION.STATE = 0 ∧ (∀ c < 3,
      c ≠ Header.target r.params → (s.core c).state = 0 ∨ 4 ≤ (s.core c).state) ∧ (s.core (Header.target r.params)).state ≠ 3
      ∧ (s.follower = true → r.target ≠ 0x0F) :=
  ⟨rq (header1), held 4, by unfold State.accepts; decide +kernel⟩

theorem meets_UpdatesDownloadVerifyActivateConfirmAndFallBack_1 : ∃ (c : Nat) (_written : Bool) (s : State),
    s.get Reg.UPD_SESSION.STATE = 1 ∧ s.mpUp = true ∧ Header.target s.upd.header = c ∧ c ≤ 2 ∧ s.upd.header.length = 256
      ∧ (s.upd.again = true ∨ s.imageState c ≠ 4 ∨ s.flashFitted = false ∨ s.ramStore = true) :=
  ⟨1, true, session 1 4 [], by decide +kernel⟩

theorem meets_UpdatesDownloadVerifyActivateConfirmAndFallBack_2 : ∃ (c o : Nat) (s : State),
    s.get Reg.UPD_SESSION.STATE = 1 ∧ s.mpUp = true ∧ Header.target s.upd.header = c ∧ c ≤ 2 ∧ s.upd.again = false ∧ s.imageState c = 4
      ∧ s.flashFitted = true ∧ s.ramStore = false ∧ s.findSpace 3 (s.imageHeader c ++ s.imageBytes c).length = some o :=
  ⟨1, 12288, session 1 4 [2 ^ 28], by decide +kernel⟩

theorem meets_UpdatesDownloadVerifyActivateConfirmAndFallBack_3 : ∃ (c : Nat) (s : State),
    s.get Reg.UPD_SESSION.STATE = 1 ∧ s.mpUp = true ∧ Header.target s.upd.header = c ∧ s.upd.again = false ∧ s.imageState c = 4
      ∧ s.flashFitted = true ∧ s.ramStore = false :=
  ⟨1, session 1 4 [2 ^ 28], by decide +kernel⟩

theorem meets_UpdatesDownloadVerifyActivateConfirmAndFallBack_4 : ∃ (r : Req) (s : State),
    s.accepts opUpdateData r ∧ s.get Reg.UPD_SESSION.STATE = 2 ∧ leAt r.params 0 2 = s.get Reg.UPD_SESSION.NEXT_SEQ
      ∧ s.upd.lastChunk ≠ some (leAt r.params 0 2, leAt r.params 2 4)
      ∧ (r.params.drop 6).length = chunkLength (Header.size s.upd.header) (leAt r.params 0 2)
      ∧ crc32cFold (1008 * leAt r.params 0 2) (r.params.drop 6) = leAt r.params 2 4 ∧ s.armed 0x23 = false :=
  ⟨rq (le 2 0 ++ le 4 (crc32cFold 0 [1, 2, 3, 4]) ++ [1, 2, 3, 4]), session 2 1 [], by unfold State.accepts; decide +kernel⟩

theorem meets_UpdatesDownloadVerifyActivateConfirmAndFallBack_5 : ∃ (r : Req) (s : State),
    s.accepts opUpdateData r ∧ s.get Reg.UPD_SESSION.STATE = 2 ∧ leAt r.params 0 2 ≠ s.get Reg.UPD_SESSION.NEXT_SEQ
      ∧ s.upd.lastChunk ≠ some (leAt r.params 0 2, leAt r.params 2 4) ∧ s.armed 0x23 = false ∧ (s.follower = true → r.target ≠ 0x0F) :=
  ⟨rq (le 2 1 ++ le 4 0 ++ [1, 2, 3, 4]), session 2 1 [], by unfold State.accepts; decide +kernel⟩

theorem meets_UpdatesDownloadVerifyActivateConfirmAndFallBack_6 : ∃ (r : Req) (s : State),
    s.accepts opUpdateVerify r ∧ s.get Reg.UPD_SESSION.STATE = 2 ∧ leAt r.params 0 1 ≤ 2 ∧ leAt r.params 1 3 = 0
      ∧ s.get Reg.UPD_SESSION.TARGET = leAt r.params 0 1 ∧ s.get Reg.UPD_RECEIVED.BYTES = Header.size s.upd.header :=
  ⟨rq ([1, 0, 0, 0]), (session 2 1 []).set Reg.UPD_RECEIVED.BYTES 4, by unfold State.accepts; decide +kernel⟩

theorem meets_UpdatesDownloadVerifyActivateConfirmAndFallBack_7 : ∃ (c : Nat) (s : State),
    s.get Reg.UPD_SESSION.STATE = 3 ∧ s.mpUp = true ∧ Header.target s.upd.header = c ∧ c ≤ 2 :=
  ⟨1, session 3 1 [], by decide +kernel⟩

theorem meets_UpdatesDownloadVerifyActivateConfirmAndFallBack_8 : ∃ (r : Req) (s : State),
    s.accepts opUpdateActivate r ∧ leAt r.params 0 1 ≤ 2 ∧ (s.core (leAt r.params 0 1)).state = 2 ∧ leAt r.params 1 1 ≤ 1 ∧ leAt r.params 2 2 = 0
      ∧ s.restarting = false ∧ (s.atHandler opUpdateActivate r).spLitBar (leAt r.params 0 1) (leAt r.params 1 1) = false :=
  ⟨rq ([1, 1, 0, 0]), held 2, by unfold State.accepts; decide +kernel⟩

theorem meets_UpdatesDownloadVerifyActivateConfirmAndFallBack_9 : ∃ (r : Req) (s : State),
    s.accepts opUpdateConfirm r ∧ leAt r.params 0 1 ≤ 2 ∧ s.imageState (leAt r.params 0 1) = 3 ∧ leAt r.params 1 1 ≤ 1 ∧ leAt r.params 2 2 = 0
      ∧ ((s.core (leAt r.params 0 1)).expired = false ∨ s.archiveEntry (leAt r.params 0 1) = none)
      ∧ ((s.core (leAt r.params 0 1)).migration = false ∨ leAt r.params 1 1 = 1) :=
  ⟨rq ([1, 1, 0, 0]), held 3, by unfold State.accepts; decide +kernel⟩

theorem meets_UpdatesDownloadVerifyActivateConfirmAndFallBack_10 : ∃ (r : Req) (s : State),
    s.accepts opUpdateFallback r ∧ leAt r.params 0 1 ≤ 2 ∧ leAt r.params 1 1 ≤ 1 ∧ leAt r.params 2 2 = 0
      ∧ (s.atHandler opUpdateFallback r).spLitBar (leAt r.params 0 1) (leAt r.params 1 1) = false ∧ s.get Reg.UPD_SESSION.STATE ≠ 1
      ∧ s.get Reg.UPD_SESSION.STATE ≠ 3 ∧ s.restarting = false ∧ (s.follower = true → r.target ≠ 0x0F) :=
  ⟨rq ([1, 1, 0, 0]), held 4, by unfold State.accepts; decide +kernel⟩

theorem meets_UpdatesDownloadVerifyActivateConfirmAndFallBack_11 : ∃ (c : Nat) (e : LibEntry) (s : State),
    s.get Reg.UPD_SESSION.STATE = 6 ∧ s.mpUp = true ∧ s.get Reg.UPD_SESSION.TARGET = c ∧ c ≤ 2 ∧ s.archiveEntry c = some e
      ∧ (imageRegion c).1 + e.length ≤ (imageRegion c).2 ∧ s.phase ≠ .loaderHold :=
  ⟨1, archive1, archived1 6, by decide +kernel⟩

theorem meets_UpdatesDownloadVerifyActivateConfirmAndFallBack_12 : ∃ (c : Nat) (fb : Bool) (s : State),
    s.phase = .service ∧ s.upd.restart = some (c, fb) ∧ c ≤ 2 ∧ s.upd.activated = none ∧ (s.core c).state = 3 ∧ (s.core c).attempts < 3
      ∧ (s.core c).expired = false :=
  ⟨1, true, booting true none, by decide +kernel⟩

theorem meets_UpdatesDownloadVerifyActivateConfirmAndFallBack_13 : ∃ (c : Nat) (s : State),
    s.phase = .service ∧ s.upd.restart = some (c, false) ∧ c ≤ 2 ∧ s.upd.activated = some c ∧ (s.core c).state = 3 ∧ (s.core c).attempts < 3
      ∧ (s.core c).expired = false :=
  ⟨1, booting false (some 1), by decide +kernel⟩

theorem meets_UpdatesDownloadVerifyActivateConfirmAndFallBack_14 : ∃ s : State,
    s.phase = .loader ∧ s.pwr.wake = none ∧ (∀ c < 3, s.loaderVerdict c = .boots) :=
  ⟨{ base with phase := .loader }, by decide +kernel⟩

theorem meets_UpdatesDownloadVerifyActivateConfirmAndFallBack_15 : ∃ (c : Nat) (s : State),
    s.phase = .loader ∧ c < 3 ∧ s.loaderVerdict c = .holds ∧ (∀ k < 3, s.loaderVerdict k ≠ .restores) ∧ s.armed 0x23 = false :=
  ⟨1, { held 1 with phase := .loader }, by decide +kernel⟩

theorem meets_UpdatesDownloadVerifyActivateConfirmAndFallBack_16 : ∃ (c : Nat) (s : State),
    c < 3 ∧ s.mpUp = true ∧ (s.core c).state = 3 ∧ (s.core c).expired = false :=
  ⟨1, held 3, by decide +kernel⟩

theorem meets_UpdatesDownloadVerifyActivateConfirmAndFallBack_17 : ∃ (c : Nat) (s : State),
    c < 3 ∧ s.mpUp = true ∧ (s.core c).state = 3 :=
  ⟨1, held 3, by decide +kernel⟩

theorem meets_UpdatesDownloadVerifyActivateConfirmAndFallBack_18 : ∃ (r : Req) (s : State),
    s.accepts opUpdateStatus r ∧ s.answers r :=
  ⟨rq ([]), base, by unfold State.accepts State.answers; decide +kernel⟩

theorem meets_PacketsAreDispatchedAndSystemCommandsAnswered_0 : ∃ s : State,
    s.nextSafety = none ∧ s.nextInTurn = none :=
  ⟨base, by decide +kernel⟩

theorem meets_PacketsAreDispatchedAndSystemCommandsAnswered_1 : ∃ (n : Nat) (p : Packet) (safety : Bool) (s : State),
    ((s.nextSafety = some (n, p) ∧ safety = true) ∨ (s.nextSafety = none ∧ s.nextInTurn = some (n, p) ∧ safety = false)) ∧ n ≠ 5 ∧ n ≠ 6
      ∧ s.assemblyOf n = none ∧ opOf p.opcode = none ∧ (s.follower = true → p.target ≠ 0x0F) :=
  ⟨0, ⟨sealed 0 0x0099 1 1 0 [], 0, 0⟩, false, { base with rings := [(0, [⟨sealed 0 0x0099 1 1 0 [], 0, 0⟩])] }, by decide +kernel⟩

theorem meets_PacketsAreDispatchedAndSystemCommandsAnswered_2 : ∃ (n : Nat) (p : Packet) (op : Op) (safety : Bool) (s : State),
    ((s.nextSafety = some (n, p) ∧ safety = true) ∨ (s.nextSafety = none ∧ s.nextInTurn = some (n, p) ∧ safety = false)) ∧ n ≠ 5 ∧ n ≠ 6
      ∧ s.assemblyOf n = none ∧ s.headerStatus p = none ∧ p.frag = false ∧ s.duplicateOf n p = none ∧ opOf p.opcode = some op ∧ s.foldOf p = s.tag :=
  ⟨0, ⟨packet0, 0, 0⟩, opSysIdentify, false, { base with rings := [(0, [⟨packet0, 0, 0⟩])] }, Or.inr (by decide +kernel), by decide, by decide,
    by decide +kernel, by decide +kernel, by decide +kernel, by decide +kernel, rfl, by decide +kernel⟩

theorem meets_PacketsAreDispatchedAndSystemCommandsAnswered_3 : ∃ (ring : Nat) (a : Assembly) (s : State),
    s.assemblyOf ring = some a ∧ s.ringRoom (ring + 8) = true ∧ (s.follower = true → a.target ≠ 0x0F) :=
  ⟨0, assembly0, { base with proto := { base.proto with assembly := [(0, some assembly0)] } }, by decide +kernel⟩

theorem meets_PacketsAreDispatchedAndSystemCommandsAnswered_4 : ∃ (ring : Nat) (s : State),
    s.cpUp = true ∧ 8 ≤ ring ∧ ring < 16 ∧ Assoc.get 0 s.proto.lost ring ≠ 0 ∧ s.eventRoom ring = true :=
  ⟨15, { base with proto := { base.proto with lost := [(15, 3)] } }, by decide +kernel⟩

theorem meets_PacketsAreDispatchedAndSystemCommandsAnswered_5 : ∃ (r : Req) (s : State),
    s.accepts opSysIdentify r ∧ s.answers r :=
  ⟨rq ([]), base, by unfold State.accepts State.answers; decide +kernel⟩

theorem meets_PacketsAreDispatchedAndSystemCommandsAnswered_6 : ∃ (r : Req) (s : State),
    s.accepts opSysStatus r ∧ s.answers r :=
  ⟨rq ([]), base, by unfold State.accepts State.answers; decide +kernel⟩

theorem meets_PacketsAreDispatchedAndSystemCommandsAnswered_7 : ∃ (r : Req) (s : State),
    s.accepts opSysReset r ∧ leAt r.params 0 1 ≤ 1 ∧ leAt r.params 1 1 ≤ 1 ∧ leAt r.params 2 2 = 0x5AA5 ∧ s.proto.resetDue = none
      ∧ (leAt r.params 0 1 = 0 → s.conducts = true → leAt r.params 1 1 = 1) :=
  ⟨rq ([1, 0] ++ le 2 0x5AA5), base, by unfold State.accepts; decide +kernel⟩

theorem meets_PacketsAreDispatchedAndSystemCommandsAnswered_8 : ∃ (r : Req) (s : State),
    s.accepts opSysReset r ∧ leAt r.params 0 1 = 0 ∧ s.conducts = true ∧ bit (leAt r.params 1 1) 0 = false ∧ (s.follower = true → r.target ≠ 0x0F) :=
  ⟨rq ([0, 0] ++ le 2 0x5AA5), lit, by unfold State.accepts; decide +kernel⟩

theorem meets_PacketsAreDispatchedAndSystemCommandsAnswered_9 : ∃ (r : Req) (s : State),
    s.accepts opSysLifecycle r :=
  ⟨rq (le 144 0), base, by unfold State.accepts; decide +kernel⟩

theorem meets_PacketsAreDispatchedAndSystemCommandsAnswered_10 : ∃ (r : Req) (s : State),
    s.accepts opRegRead r ∧ s.answers r ∧ accessFault (leAt r.params 0 4) (leAt r.params 4 2) 1012 = none ∧ leAt r.params 6 2 = 0
      ∧ (region (leAt r.params 0 4) = some 20 → ∀ x ∈ wordsFrom (leAt r.params 0 4) (leAt r.params 4 2),
      ((s.atHandler opRegRead r).flashPlace x).isSome) :=
  ⟨rq (le 4 0x40000000 ++ le 2 1 ++ le 2 0), base, by unfold State.accepts State.answers; decide +kernel⟩

theorem meets_PacketsAreDispatchedAndSystemCommandsAnswered_11 : ∃ (r : Req) (e : Nat) (s : State),
    s.accepts opRegRead r ∧ accessFault (leAt r.params 0 4) (leAt r.params 4 2) 1012 = some e ∧ (s.follower = true → r.target ≠ 0x0F) :=
  ⟨rq (le 4 0x30000000 ++ le 2 1012 ++ le 2 0), 0x30000000, base, by unfold State.accepts; decide +kernel⟩

theorem meets_RegistersAreWrittenAndCheckUnitsAndCrossingsRun_0 : ∃ (r : Req) (w : WordWrite) (f : Field) (s : State),
    s.accepts opRegWrite r ∧ wordWrites r.params = [w] ∧ leAt r.params 6 1 ≤ 1 ∧ leAt r.params 7 1 = 0 ∧ accessFault w.addr 1 506 = none ∧ (∃ n,
      region w.addr = some n ∧ 3 ≤ n ∧ n ≤ 19) ∧ w.addr ∉ [0x40300104, 0x40000010, 0x4010002C, 0x41000000] ∧ hstRing w.addr = none
      ∧ (s.atHandler opRegWrite r).wordStatus [w] w = Status.ok ∧ f ∈ (regFields w.addr).getD [] ∧ (∀ g ∈ (regFields w.addr).getD [],
      g.key = f.key → g = f) ∧ f.key ∉ (answerFields ++ eventFields).map Field.key :=
  ⟨(withWrite 0x40600000 [5] (rq [])), ⟨0x40600000, 0xFFFFFFFF, 5⟩, ((regFields 0x40600000).getD []).headD Reg.SCN_TICK.TICK, base,
    by unfold State.accepts; decide +kernel, rfl, by decide +kernel, by decide +kernel, by decide +kernel, ⟨9, by decide +kernel⟩, by decide +kernel,
    by decide +kernel, by decide +kernel, by decide +kernel, by decide +kernel, by decide +kernel⟩

theorem meets_RegistersAreWrittenAndCheckUnitsAndCrossingsRun_1 : ∃ (r : Req) (w : WordWrite) (s : State),
    s.accepts opRegWrite r ∧ leAt r.params 6 1 ≤ 1 ∧ leAt r.params 7 1 = 0
      ∧ accessFault (leAt r.params 0 4) (leAt r.params 4 2) (if bit (leAt r.params 6 1) 0 then 506 else 1012) = none
      ∧ ((wordWrites r.params).any (fun x => inLayers x.addr) = true → (s.atHandler opRegWrite r).layerWriteStatus ((wordWrites r.params).map (·.addr)) = Status.ok)
      ∧ (wordWrites r.params).find? (fun w => (s.atHandler opRegWrite r).wordStatus (wordWrites r.params) w != Status.ok) = some w
      ∧ (s.follower = true → r.target ≠ 0x0F) :=
  ⟨(withWrite 0x40800004 [5] (rq [])), ⟨0x40800004, 0xFFFFFFFF, 5⟩, base, by unfold State.accepts; decide +kernel, by decide +kernel,
    by decide +kernel, by decide +kernel, by decide +kernel, rfl, by decide +kernel⟩

theorem meets_RegistersAreWrittenAndCheckUnitsAndCrossingsRun_2 : ∃ (r : Req) (w : WordWrite) (s : State),
    s.accepts opRegWrite r ∧ leAt r.params 6 1 ≤ 1 ∧ leAt r.params 7 1 = 0
      ∧ accessFault (leAt r.params 0 4) (leAt r.params 4 2) (if bit (leAt r.params 6 1) 0 then 506 else 1012) = none
      ∧ (wordWrites r.params).find? (fun x => inLayers x.addr) = some w
      ∧ (s.atHandler opRegWrite r).layerWriteStatus ((wordWrites r.params).map (·.addr)) ≠ Status.ok ∧ (s.follower = true → r.target ≠ 0x0F) :=
  ⟨withWrite 0x01000000 [5] (rq []), ⟨0x01000000, 0xFFFFFFFF, 5⟩, base, by unfold State.accepts; decide +kernel, by decide +kernel, by decide +kernel,
    by decide +kernel, rfl, by decide +kernel, by decide +kernel⟩

theorem meets_RegistersAreWrittenAndCheckUnitsAndCrossingsRun_3 : ∃ (r : Req) (v : Nat) (s : State),
    s.accepts opRegWrite (withWrite 0x40800004 [v] r) ∧ s.power = 2 ∧ 60 ≤ v % 128 ∧ v % 128 ≤ 120 :=
  ⟨rq [], 60, base, by unfold State.accepts; decide +kernel⟩

theorem meets_RegistersAreWrittenAndCheckUnitsAndCrossingsRun_4 : ∃ (r : Req) (v : Nat) (s : State),
    s.accepts opRegWrite (withWrite 0x40800004 [v] r) ∧ s.power ≠ 2 ∧ (s.follower = true → r.target ≠ 0x0F) :=
  ⟨rq [], 120, ready1, by unfold State.accepts; decide +kernel⟩

theorem meets_RegistersAreWrittenAndCheckUnitsAndCrossingsRun_5 : ∃ (r : Req) (v : Nat) (s : State),
    s.accepts opRegWrite (withWrite 0x40B00000 [v] r) ∧ (s.id.lifecycle = .manufacture ∨ s.id.lifecycle = .service) :=
  ⟨rq [], 7, configured, by unfold State.accepts; decide +kernel⟩

theorem meets_RegistersAreWrittenAndCheckUnitsAndCrossingsRun_6 : ∃ (r : Req) (v : Nat) (s : State),
    s.accepts opRegWrite (withWrite 0x40B00000 [v] r) ∧ s.id.lifecycle ≠ .manufacture ∧ s.id.lifecycle ≠ .service
      ∧ (s.follower = true → r.target ≠ 0x0F) :=
  ⟨rq [], 7, base, by unfold State.accepts; decide +kernel⟩

theorem meets_RegistersAreWrittenAndCheckUnitsAndCrossingsRun_7 : ∃ (r : Req) (offset v : Nat) (s : State),
    s.accepts opRegWrite (withWrite (0x41000000 + 4 * (offset % 2 ^ 18)) [v] r) ∧ v < 2 ^ 32 ∧ offset ∈ [1, 2, 3, 4, 6, 7]
      ∧ (s.atHandler opRegWrite r).hstBad (fun x => if x = 0x41000000 + 4 * offset then v else (s.atHandler opRegWrite r).registerWord x) (0x41000000 + 4 * offset) = false :=
  ⟨rq [], 1, 43, base, by unfold State.accepts; decide +kernel⟩

theorem meets_RegistersAreWrittenAndCheckUnitsAndCrossingsRun_8 : ∃ (r : Req) (v : Nat) (s : State),
    s.accepts opRegWrite (withWrite 0x41000000 [v] r) ∧ v < 2 ^ 32 ∧ s.follower = false ∧ s.hstEnables v ≠ 0 :=
  ⟨rq [], 2, base, by unfold State.accepts; decide +kernel⟩

theorem meets_RegistersAreWrittenAndCheckUnitsAndCrossingsRun_9 : ∃ (r : Req) (v : Nat) (s : State),
    s.accepts opRegWrite (withWrite 0x41000000 [v] r) ∧ v < 2 ^ 32 ∧ s.follower = true :=
  ⟨rq [], 2, follower0, by unfold State.accepts; decide +kernel⟩

theorem meets_RegistersAreWrittenAndCheckUnitsAndCrossingsRun_10 : ∃ (r : Req) (offset : Nat) (words : List Nat) (s : State),
    offset < 2 ^ 20 ∧ 1 ≤ words.length ∧ words.length ≤ 1012 ∧ 4 * offset + 4 * words.length ≤ 0x400000
      ∧ s.accepts opRegWrite (withWrite (0x01000000 + 4 * offset) words r)
      ∧ (s.atHandler opRegWrite r).layerWriteStatus (wordsFrom (0x01000000 + 4 * offset) words.length) = Status.ok :=
  ⟨rq [], 2046, [1, 2], layered, by unfold State.accepts; decide +kernel⟩

theorem meets_RegistersAreWrittenAndCheckUnitsAndCrossingsRun_11 : ∃ (r : Req) (address : Nat) (s : State),
    address < 2 ^ 32 ∧ s.accepts opRegWrite (withWrite 0x40300104 [address] r) ∧ clearStatus address = Status.ok :=
  ⟨rq [], 0x40000020, base, by unfold State.accepts; decide +kernel⟩

theorem meets_RegistersAreWrittenAndCheckUnitsAndCrossingsRun_12 : ∃ (r : Req) (address : Nat) (s : State),
    s.accepts opRegWrite (withWrite 0x40300104 [address] r) ∧ address ∈ keptCounters ∧ (s.follower = true → r.target ≠ 0x0F) :=
  ⟨rq [], 0x4010003C, base, by unfold State.accepts; decide +kernel⟩

theorem meets_RegistersAreWrittenAndCheckUnitsAndCrossingsRun_13 : ∃ (r : Req) (supply : Nat) (s : State),
    s.accepts opRegWrite (withWrite 0x4010002C [256 + supply % 4] r) :=
  ⟨rq [], 3, base, by unfold State.accepts; decide +kernel⟩

theorem meets_RegistersAreWrittenAndCheckUnitsAndCrossingsRun_14 : ∃ (u _poly start len _fold _expect : Nat) (_foldEn _compare : Bool) (s : State),
    u < 4 ∧ s.ownerUp u = true ∧ s.flag (Reg.CHK_STATUS.BUSY u) = false ∧ rangeBad (start % 2 ^ 32) (len % 2 ^ 27) = false :=
  ⟨3, 3, 0x40000000, 4, 0, 0, true, true, base, by decide +kernel⟩

theorem meets_RegistersAreWrittenAndCheckUnitsAndCrossingsRun_15 : ∃ (u _poly _start _len _fold _expect : Nat) (_foldEn _compare : Bool) (s : State),
    u < 4 ∧ s.ownerUp u = true ∧ s.flag (Reg.CHK_STATUS.BUSY u) = true :=
  ⟨3, 3, 0x40000000, 4, 0, 0, true, true, base.set (Reg.CHK_STATUS.BUSY 3) 1, by decide +kernel⟩

theorem meets_RegistersAreWrittenAndCheckUnitsAndCrossingsRun_16 : ∃ (u _poly start len _fold _expect : Nat) (_foldEn _compare : Bool) (s : State),
    u < 4 ∧ s.ownerUp u = true ∧ s.flag (Reg.CHK_STATUS.BUSY u) = false ∧ rangeBad (start % 2 ^ 32) (len % 2 ^ 27) = true :=
  ⟨0, 3, 0x30000000, 4, 0, 0, true, true, base, by decide +kernel⟩

theorem meets_RegistersAreWrittenAndCheckUnitsAndCrossingsRun_17 : ∃ (u _poly _start _len _fold _expect : Nat) (_foldEn _compare : Bool) (s : State),
    u < 4 ∧ s.ownerUp u = true :=
  ⟨0, 3, 0x30000000, 4, 0, 0, true, true, base, by decide +kernel⟩

theorem meets_RegistersAreWrittenAndCheckUnitsAndCrossingsRun_18 : ∃ (u : Nat) (s : State),
    u < 4 ∧ s.ownerUp u = true ∧ s.flag (Reg.CHK_STATUS.BUSY u) = true :=
  ⟨3, checking, by decide +kernel⟩

theorem meets_RegistersAreWrittenAndCheckUnitsAndCrossingsRun_19 : ∃ (u : Nat) (c : CheckScan) (s : State),
    u < 4 ∧ s.chk.scans.find u = some c ∧ s.offAddress c = none ∧ s.armed (0x20 + u) = false :=
  ⟨3, scan0, checking, by decide +kernel⟩

theorem meets_RegistersAreWrittenAndCheckUnitsAndCrossingsRun_20 : ∃ (u a : Nat) (c : CheckScan) (s : State),
    u < 4 ∧ s.chk.scans.find u = some c ∧ s.offAddress c = none ∧ c.start ≤ a ∧ a < c.start + c.len ∧ s.flt.windows = [] :=
  ⟨3, 0x40000003, scan0, checking, by decide +kernel⟩

theorem meets_RegistersAreWrittenAndCheckUnitsAndCrossingsRun_21 : ∃ (k item : Nat) (w : Window) (s : State),
    s.flt.windows.find? (fun w => w.reaction == k && w.item == item) = some w ∧ k ∈ [2, 3, 4, 6] :=
  ⟨6, 0, ⟨6, 0, true, 0, 0⟩, { base with flt := { base.flt with windows := [⟨6, 0, true, 0, 0⟩] } }, by decide +kernel⟩

theorem meets_RegistersAreWrittenAndCheckUnitsAndCrossingsRun_22 : ∃ (x n _items : Nat) (s : State),
    s.crossingRuns x = true ∧ n ≤ us 1800 :=
  ⟨0, us 1800, 3, base, by decide +kernel⟩

theorem meets_RegistersAreWrittenAndCheckUnitsAndCrossingsRun_23 : ∃ (x n _items : Nat) (s : State),
    s.crossingRuns x = true ∧ x ≠ 11 ∧ x ≠ 13 ∧ us 2200 ≤ n ∧ s.flt.windows = [] :=
  ⟨15, us 2200, 3, base, by decide +kernel⟩

theorem meets_RegistersAreWrittenAndCheckUnitsAndCrossingsRun_24 : ∃ (x n items : Nat) (s : State),
    s.chk.resets.find x = some n ∧ s.crossingPowered x = true ∧ n + items = 0 :=
  ⟨5, 0, 0, { base with chk := { base.chk with resets := [(5, 0)] } }, by decide +kernel⟩

theorem meets_RegistersAreWrittenAndCheckUnitsAndCrossingsRun_25 : ∃ (x _items : Nat) (s : State),
    s.crossingPowered x = false :=
  ⟨16, 0, base, by decide +kernel⟩

theorem meets_RegistersAreWrittenAndCheckUnitsAndCrossingsRun_26 : ∃ (x n items : Nat) (s : State),
    s.chk.resets.find x = some n ∧ s.crossingPowered x = true ∧ n + items ≠ 0 :=
  ⟨5, 1, 0, { base with chk := { base.chk with resets := [(5, 1)] } }, by decide +kernel⟩

theorem meets_StartsClocksAndModuleResetsAct_0 : ∃ (mv : Nat) (s : State),
    s.phase = .dark ∧ s.pwr.heldReset ≠ 3 ∧ 2890 < mv :=
  ⟨2891, { base with phase := .dark }, by decide +kernel⟩

theorem meets_StartsClocksAndModuleResetsAct_1 : ∃ (mv : Nat) (s : State),
    s.phase = .dark ∧ s.pwr.heldReset = 3 ∧ 3090 < mv :=
  ⟨3091, { base with phase := .dark, pwr := { base.pwr with heldReset := 3 } }, by decide +kernel⟩

theorem meets_StartsClocksAndModuleResetsAct_2 : ∃ (mv : Nat) (_s : State),
    mv ≤ 2810 :=
  ⟨2810, base, by decide +kernel⟩

theorem meets_StartsClocksAndModuleResetsAct_3 : ∃ (_bootMode _testEn _refclk : Bool) (_role vcore vana : Nat) (s : State),
    s.phase = .alwaysOn ∧ s.coreGood vcore vana = true ∧ s.flt.windows = [] :=
  ⟨false, false, true, 3, 1000, 3000, { base with phase := .alwaysOn }, by decide +kernel⟩

theorem meets_StartsClocksAndModuleResetsAct_4 : ∃ (_bootMode _testEn _refclk : Bool) (_role vcore vana : Nat) (s : State),
    s.coreGood vcore vana = false :=
  ⟨false, false, true, 0, 0, 0, base, by decide +kernel⟩

theorem meets_StartsClocksAndModuleResetsAct_5 : ∃ (_lost : List Nat) (_readable : Bool) (s : State),
    s.phase = .cpBoot ∧ s.pwr.wake = none ∧ s.imagesRun = true ∧ s.mpUp = true ∧ s.pads.refclk = true ∧ s.tmp.published.isSome = true :=
  ⟨[], true, { running with phase := .cpBoot }, by decide +kernel⟩

theorem meets_StartsClocksAndModuleResetsAct_6 : ∃ (_lost : List Nat) (_readable : Bool) (s : State),
    s.imagesRun = false :=
  ⟨[], true, base, by decide +kernel⟩

theorem meets_StartsClocksAndModuleResetsAct_7 : ∃ (diff : Nat) (s : State),
    s.spUp = true ∧ s.phase ≠ .dark ∧ s.phase ≠ .alwaysOn ∧ diff ≤ 99 :=
  ⟨99, base, by decide +kernel⟩

theorem meets_StartsClocksAndModuleResetsAct_8 : ∃ (diff : Nat) (s : State),
    s.spUp = true ∧ s.phase ≠ .dark ∧ s.phase ≠ .alwaysOn ∧ 201 ≤ diff ∧ s.flt.windows = [] :=
  ⟨201, base, by decide +kernel⟩

theorem meets_StartsClocksAndModuleResetsAct_9 : ∃ s : State,
    s.flag Reg.LNK_STATUS.REF_FWD = false :=
  ⟨base, by decide +kernel⟩

theorem meets_StartsClocksAndModuleResetsAct_10 : ∃ s : State,
    s.flag Reg.LNK_STATUS.REF_FWD = true ∧ s.get Reg.LNK_TIMING.HOLD_MS ≠ 0 :=
  ⟨base.setAll [(Reg.LNK_STATUS.REF_FWD, 1), (Reg.LNK_TIMING.HOLD_MS, 5)], by decide +kernel⟩

theorem meets_StartsClocksAndModuleResetsAct_11 : ∃ (t0 : Nat) (s : State),
    s.proto.resetDue = some (0, t0) :=
  ⟨7, { base with proto := { base.proto with resetDue := some (0, 7) } }, by decide +kernel⟩

theorem meets_StartsClocksAndModuleResetsAct_12 : ∃ (t0 : Nat) (s : State),
    s.proto.resetDue = some (1, t0) :=
  ⟨7, { base with proto := { base.proto with resetDue := some (1, 7) } }, by decide +kernel⟩

theorem meets_StartsClocksAndModuleResetsAct_13 : ∃ s : State,
    s.proto.resetDue = none :=
  ⟨base, by decide +kernel⟩

theorem meets_StartsClocksAndModuleResetsAct_14 : ∃ (n : Nat) (s : State),
    s.phase ≠ .dark ∧ 1000 ≤ n :=
  ⟨1000, base, by decide +kernel⟩

theorem meets_StartsClocksAndModuleResetsAct_15 : ∃ (mv : Nat) (s : State),
    s.phase ≠ .dark ∧ mv ≤ 720 :=
  ⟨720, base, by decide +kernel⟩

theorem meets_StartsClocksAndModuleResetsAct_16 : ∃ s : State,
    s.phase ≠ .dark :=
  ⟨base, by decide +kernel⟩

theorem meets_StartsClocksAndModuleResetsAct_17 : ∃ s : State,
    s.phase ≠ .dark ∧ s.flag Reg.PWR_TIME_STATUS.XTAL = true :=
  ⟨base.set Reg.PWR_TIME_STATUS.XTAL 1, by decide +kernel⟩

theorem meets_StartsClocksAndModuleResetsAct_18 : ∃ s : State,
    s.phase ≠ .dark ∧ s.flag Reg.PWR_TIME_STATUS.XTAL = false :=
  ⟨base.set Reg.PWR_TIME_STATUS.XTAL 0, by decide +kernel⟩

/-! ### The statements about the machine as a whole -/

theorem meets_StepRunsTheFrontCommandOrIdles_1 : ∃ s : State, s.pending = [] := ⟨State.reset, rfl⟩

/-- A command that waits: it moves the state from one canonical state to another. -/
def queued : State := { base with pending := [.resetNLow 50] }

theorem meets_EveryStepKeepsTheCanonicalForm : ∃ s t : State, s.canonical = true ∧ step s = .next t :=
  ⟨queued, { base with now := 50 }, by decide +kernel, rfl⟩

theorem meets_EveryStepKeepsRingsWithinTheirEntries : ∃ s t : State, s.ringsFit ∧ step s = .next t :=
  ⟨queued, { base with now := 50 }, fun _ => Nat.zero_le _, rfl⟩

theorem meets_RequestsThatFailACheckChangeNothing_0 : ∃ (r : Req) (st : Status) (s : State), s.executes r.ring opSysIdentify.code = true
    ∧ s.cascadeRoom (if s.widened opSysIdentify.code then 0x0F else r.target) = true
    ∧ (s.follower = true ∨ s.admitted r.target = false ∨ r.target = 0 ∨ r.target = 0x0F) ∧ s.barred opSysIdentify r = some st :=
  ⟨rq [1], Status.badLength, base, by decide +kernel⟩

theorem meets_RequestsThatFailACheckChangeNothing_1 : ∃ (r : Req) (s : State), s.executes r.ring opSysIdentify.code = false ∧ s.ringRoom r.ring = true :=
  ⟨rq [], State.reset, by decide +kernel⟩

/-- R270: the answer BAD_LENGTH to a SYS_IDENTIFY with a parameter. -/
theorem test_bad_length : (match exec (.sysIdentify (rq [1])) base with
    | .next t => (t.ring 8).map Packet.bytes
    | _ => []) = [sealed 0 0x8100 1 0 0 (le 2 Status.badLength)] := by decide +kernel

/-! ### The spec's worked examples -/

/-- The example of 00_scope: pixel (1,234, 300) lies in string 76,954 and tile 147. -/
theorem test_example_pixel_place : stringOf 615634 = 76954 ∧ tileOf 615634 = 147 ∧ stringTile 76954 = 147 := by decide +kernel

/-- The examples of R71 and after Table 3-3: the phase of string 76,954, and its brightest pixel from tick 133 to tick 4,095. -/
theorem test_example_pulse : phaseOf 76954 = 3250 ∧ pulseStart 76954 3963 = 133 := by decide +kernel

/-- Table 3-3: class 44 and the PWM values of string 76,954. -/
theorem test_example_conversion :
    convert (fun c => if c < 43 then 0 else if c = 43 then 3143680 else 3428352) (fun _ => false)
      [3120, 5480, 9870, 12400, 12960, 11050, 7300, 2010] = (44, [954, 1676, 3018, 3792, 3963, 3379, 2232, 615], 0) := by decide +kernel

/-- The example of R48: 96 frames per second at TICK 62 give four light frames per input frame. -/
theorem test_example_lock : lockN (15 * 1041667) (framePeriod 62 0) = 4 ∧ lockInRange (15 * 1041667) (framePeriod 62 0) = true
    ∧ framePeriod 62 2225 = 260417 := by decide +kernel

/-- Table 4-9: the gain codes of the two sites. -/
theorem test_example_gain_codes : [138, 122, 104].map (gainCode · 2) = [50, 90, 150] ∧ [138, 122, 104].map (gainCode · 6) = [70, 113, 177]
    ∧ [100, 90, 76].map (gainRaw · 13) = [253, 309, 413] ∧ [140, 127, 110].map (gainCode · 0) = [37, 67, 116] := by decide +kernel

/-- The field map of Table 6-11; its other nodes stand at 0. -/
def exampleMap : FieldMap :=
  { h0 := -1600, v0 := 400, dh := 100, dv := 100
    nodes := (List.range 297).map (fun k =>
      if k = 3 * 33 + 18 then (7164, 2556) else if k = 3 * 33 + 19 then (6648, 2560) else if k = 4 * 33 + 18 then (7164, 2044)
      else if k = 4 * 33 + 19 then (6652, 2046) else if k = 5 * 33 + 18 then (7168, 1532) else if k = 5 * 33 + 19 then (6656, 1534) else (0, 0)) }

/-- The context of the oncoming vehicle. -/
def exampleBox : ObjEntry := ⟨1, true, false, false, false, 0, 6, 12, 0, 240, 290, 30, -10, -150, 0, 2500, 0, 0, 0⟩

/-- The oncoming vehicle of 06_beam_synthesis: columns 840 to 872, rows 249 to 274, in two frames running. -/
theorem test_example_core_rectangle : coreRect exampleBox (some exampleMap) 0 120000 250000 100 = ⟨840, 872, 249, 274⟩
    ∧ coreRect exampleBox (some exampleMap) 0 370000 250000 100 = ⟨840, 872, 249, 274⟩ := by decide +kernel

/-- Table 6-13, and the pixel at distance 13. -/
theorem test_example_edge : (List.range 12).map (fun k => profile 0 4096 (k + 7) 6 12)
      = [60, 235, 515, 885, 1322, 1801, 2295, 2774, 3211, 3581, 3861, 4036] ∧ scale12 40000 2295 = 22412 := by decide +kernel

/-- The example of R245: 6.00 m, and Gen3 permitted. -/
theorem test_example_cable : cableLength (64 * 20572) 0 70 = 60 ∧ cableGen (64 * 20572) 0 70 = 3 := by decide +kernel

/-- The example of R344: MAX_RATE and ROW_MIN of a hop with three slices. -/
theorem test_example_hop : maxRate 2 3 = 200 ∧ rowMin 2 3 = 814 ∧ maxRate 3 3 = 240 ∧ rowMin 3 3 = 407 := by decide +kernel

/-- The example of R305: a reply of 150 bytes leaves in three frames. -/
theorem test_example_can_segments : (List.range 3).map (fun i => (canSegmentBytes (le 150 0) i).take 1) = [[0x80], [0x01], [0x42]]
    ∧ (canSegmentBytes (le 150 0) 2).drop 25 = List.replicate 39 0xCC := by decide +kernel

/-- The example of R266: the header of a BEAM_OBJECT_CLEAR, and the length of its packet. -/
theorem test_example_packet : (sealed 0x8C412E07 0x0202 0x17 1 0 (le 20 0)).take 8 = [0x02, 0x02, 0x17, 0x01, 0x14, 0, 0, 0]
    ∧ (sealed 0x8C412E07 0x0202 0x17 1 0 (le 20 0)).length = 30 := by decide +kernel

/-! ### Commands that cannot be sent -/

/-- A request that breaks each range in turn: ring, SEQ, TARGET, length. -/
theorem test_illformed_request_parts : ([⟨8, 0, true, 0, [], 0⟩, ⟨0, 256, true, 0, [], 0⟩, ⟨0, 0, true, 16, [], 0⟩, ⟨0, 0, true, 0, le 4057 0, 0⟩] : List Req).all
    (fun r => !r.wf) = true := by decide +kernel

/-- A request that no ring can carry. -/
def badReq : Req := ⟨8, 0, true, 0, [], 0⟩

/-- Every command that is a request alone refuses it. -/
theorem test_illformed_requests : (([.sysIdentify, .sysStatus, .sysReset, .regRead, .regWrite, .sysLifecycle, .beamSelectPattern, .beamObjectSet, .beamObjectClear,
      .beamObjectList, .beamFieldMap, .fadeSet, .layerConfig, .layerEnable, .symbolPlace, .bisqueFlatten, .libraryInstallBegin,
      .libraryInstallData, .libraryInstallEnd, .libraryInstallDelete, .libraryInstallAbort, .storeRead, .storeWrite, .linkStatus,
      .linkTrainRetrain, .linkTrainRestart, .linkTrainStepDown, .linkTrainStepUp, .linkPolicy, .safetyStatus] ++
      [.commissionLoad, .commissionConfirm, .safetyResetArm, .safetyResetConfirm, .faultReadFirst, .faultReadHistory, .faultClear,
      .faultInject, .faultPolicy, .powerState, .wakeConfig, .timeGet, .timeSet, .calRun, .calStatus, .defectMapRead, .thermalStatus,
      .thermalPolicy, .bistRun, .bistResult, .updateBegin, .updateData, .updateVerify, .updateActivate, .updateConfirm, .updateFallback,
      .updateStatus, .cascadeStatus, .cascadeMode, .senseConfig] ++
      [.senseRead] : List (Req → Instr)).all (fun c => !(c badReq).wf)) = true := by decide +kernel

/-- Every check of the commands with other operands refuses a value outside its range. -/
theorem test_illformed_commands : (([.powerUp 65536, .controllerResetRelease true 4 true true 1 1, .controllerResetRelease true 1 true true 65536 1,
      .controllerResetRelease true 1 true true 1 65536, .supplyWarning 0 1, .supplyWarning 4 1, .supplyWarning 1 65536,
      .supplyWarningClear 0 1, .supplyWarningClear 4 1, .supplyWarningClear 1 65536, .supplyMonitorReset 0 1, .supplyMonitorReset 4 1,
      .supplyMonitorReset 1 65536, .imageBoot 3 true, .lbistUnitComplete 1 (2 ^ 64) true, .abistItemComplete [] 65536,
      .startupReady [65536] true, .rowPacedLoad 17, .rowTransferReceived 103 true, .lateReload 103 true, .spOutputCheck (some 512),
      .complianceFlag 131072 1, .complianceFlag 1 65536, .openClamp 1048576 1, .openClamp 1 65536, .fwdLitSample 1048576 1 true,
      .fwdLitSample 1 65536 true, .fwdDarkSample 1048576 1 true, .fwdDarkSample 1 65536 true, .openProbeRow [⟨2048, 0, 0, 0⟩]] ++
      [.openProbeRow [⟨0, 3, 0, 0⟩], .reverseSensingReading [], .presenceHoldExpiry 8, .lockoutRecordWrite 3,
      .dualInputChange 0 1 true true 1, .dualInputChange 3 1 true true 1, .dualInputChange 1 2 true true 1, .discrepancyTimeout 0 1,
      .discrepancyTimeout 3 1, .discrepancyTimeout 1 2, .cutoffWindowEnd 512 1, .tempHighTrip 8 1, .tempHighTrip 1 4096,
      .tempHighRelease 8 1, .tempHighRelease 1 4096, .tempCutTrip 8 1, .tempCutTrip 1 4096, .tempCutRelease 8 1, .tempCutRelease 1 4096,
      .vstrOvervoltageTrip 65536 1, .vstrOvervoltageRelease 65536, .fadeComplete 256, .flipCopyComplete 8, .laneLock 4 1 1,
      .laneLockLoss 4 1 1 1, .laneLockLoss 1 257 1 1, .fomSample [(256, 0)], .fomSample [(0, 256)], .fomSample (List.replicate 5 (0, 0)),
      .frameHeaderRx [] 1] ++
      [.followerStatusTimeout 0, .followerStatusTimeout 4, .markRx [] 1, .takeRx [], .spiWriteTransaction [] 1, .spiReadTransaction 256 1,
      .canFrameRx (2 ^ 29) true true 0 [], .canFrameRx (2 ^ 11) false true 0 [], .canFrameRx 0 true true 16 [],
      .canFrameRx 0 true true 0 (le 65 0), .t1sFrameRx (2 ^ 48) 1 1 true true [] 1, .t1sFrameRx 1 (2 ^ 48) 1 true true [] 1,
      .t1sFrameRx 1 1 65536 true true [] 1, .t1sFrameRx 1 1 1 true true (le 1501 0) 1, .daliForwardFrame 256 1, .daliForwardFrame 1 256,
      .daliGoToScene 16, .daliArcPower 256, .daliQuery 143, .daliQuery 198, .legacyWriteSeg 65536 [], .legacyWriteSeg 1 [65536],
      .legacyWriteReg 256 1, .legacyWriteReg 1 65536, .legacyReadReg 256 1, .legacyReadReg 1 256, .fragmentTimeout 8, .eventsLostPlace 7,
      .eventsLostPlace 16, .scnTickWrite badReq 1] ++
      [.scnTickWrite (rq []) (2 ^ 32), .diagCtrlWrite badReq 1, .diagCtrlWrite (rq []) (2 ^ 32), .hstRegisterWrite badReq 1 1,
      .hstRegisterWrite (rq []) (2 ^ 18) 1, .hstRegisterWrite (rq []) 1 (2 ^ 32), .layerBufferWrite badReq 1 [],
      .layerBufferWrite (rq []) (2 ^ 20) [], .layerBufferWrite (rq []) 1 [(2 ^ 32)], .chkGo 4 1 true true 1 1 1 1 true,
      .chkGo 1 (2 ^ 32) true true 1 1 1 1 true, .chkGo 1 1 true true (2 ^ 32) 1 1 1 true, .chkGo 1 1 true true 1 (2 ^ 32) 1 1 true,
      .chkGo 1 1 true true 1 1 (2 ^ 32) 1 true, .chkGo 1 1 true true 1 1 1 (2 ^ 32) true, .chkAbort 4, .chkScanDone 4 [] none,
      .chkCntClear badReq 1, .chkCntClear (rq []) (2 ^ 32), .pwrMeasStart badReq 1, .pwrMeasStart (rq []) 4, .measDone 65536,
      .spiWakeMatch 256, .daliWake 256 1, .daliWake 1 256, .retentionCheck (2 ^ 32) 1 true 1 true, .retentionCheck 1 256 true 1 true,
      .retentionCheck 1 1 true 8 true, .bankRebuildDone 32 true, .wakeTargetReached [65536] true] ++
      [.ondemandWakeDone 256, .ondemandWakeTimeout 256 1 1 1 1, .ondemandWakeTimeout 1 (2 ^ 32) 1 1 1, .ondemandWakeTimeout 1 1 16 1 1,
      .ondemandWakeTimeout 1 1 1 8 1, .tempSweep [], .tempSweep (List.replicate 20 4096), .confirmWindowExpiry 3,
      .faultReport [⟨512, 0, 0, 0⟩], .faultReport [⟨0, 2 ^ 32, 0, 0⟩], .faultReport [⟨0, 0, 16, 0⟩], .faultReport [⟨0, 0, 0, 8⟩],
      .crossingStall 16 1 1, .crossingResetDone 16 1, .t1sFrameSent 17, .legacyFrameInvalid 0, .legacyFrameInvalid 4,
      .domainSwitchOff 256] : List Instr).all (fun c => !c.wf)) = true := by decide +kernel

/-- The packets that the requests of these tests stand for can be sent. -/
theorem test_wellformed : ([.sysIdentify (rq []), .powerUp 3300, .tempSweep (List.replicate 20 4095), .frameHeaderRx (le 32 0) 0] : List Instr).all
    Instr.wf = true := by decide +kernel

end Sys2Proof.Tests
end

namespace Sys2Proof.Machine

/-! ### Time: no shared operation moves time but the copy of an image (R415) -/

/-- Steps that each leave time where it is leave it there together. -/
theorem foldl_now {α : Type} {f : State → α → State} (h : ∀ s a, (f s a).now = s.now) (l : List α) : ∀ s, (l.foldl f s).now = s.now := by
  induction l with
  | nil => intro s; rfl
  | cons a l ih => intro s; exact (ih _).trans (h s a)

/-- The time of either branch. -/
theorem now_ite (c : Prop) {_ : Decidable c} (s t : State) : (if c then s else t).now = if c then s.now else t.now := apply_ite _ _ _ _

theorem fst_now_ite (c : Prop) {_ : Decidable c} (x y : State × Bool) : (if c then x else y).1.now = if c then x.1.now else y.1.now :=
  apply_ite (fun z : State × Bool => z.1.now) _ _ _

/-- A frame without time leaves time where it is. -/
theorem KeptBut.now_eq {ps : List Part} {s t : State} (h : KeptBut ps s t) (hp : Part.now ∉ ps) : t.now = s.now := h .now hp

@[simp] theorem State.setAll_now (s : State) (l : List (Field × Nat)) : (s.setAll l).now = s.now := (State.setAll_kept l s).now_eq (by simp)
@[simp] theorem State.irq_now (s : State) (n : Nat) : (s.irq n).now = s.now := rfl
@[simp] theorem State.bump_now (s : State) (f sat : Field) : (s.bump f sat).now = s.now :=
  (Quiet.bump s f sat [f, sat] (by simp) (by simp)).1.now_eq (by simp)
@[simp] theorem State.eventOf_now (s : State) (k o : Nat) (b : List Byte) : (s.eventOf k o b).now = s.now :=
  (Quiet.eventOf s k o b []).1.now_eq (by simp)
@[simp] theorem State.event_now (s : State) (o : Nat) (b : List Byte) : (s.event o b).now = s.now := State.eventOf_now s _ o b
@[simp] theorem State.safetyEvent_now (s : State) (a b c : Nat) : (s.safetyEvent a b c).now = s.now := State.event_now _ _ _
@[simp] theorem State.beamEvent_now (s : State) (a b c d : Nat) : (s.beamEvent a b c d).now = s.now := State.event_now _ _ _
@[simp] theorem State.linkEvent_now (s : State) (a : Nat) : (s.linkEvent a).now = s.now := State.event_now _ _ _
@[simp] theorem State.updateEvent_now (s : State) (a b c : Nat) : (s.updateEvent a b c).now = s.now := State.event_now _ _ _
@[simp] theorem State.calEvent_now (s : State) : s.calEvent.now = s.now := State.event_now _ _ _
@[simp] theorem State.placeHeld_now (s : State) : s.placeHeld.now = s.now :=
  foldl_now (fun s (e : Nat × Nat × List Byte) => State.eventOf_now s e.1 e.2.1 e.2.2) _ _
@[simp] theorem State.setPower_now (s : State) (p : Nat) : (s.setPower p).now = s.now := rfl
@[simp] theorem State.countOn_now (s : State) : s.countOn.now = s.now := rfl
@[simp] theorem State.freshNonce_now (s : State) : s.freshNonce.now = s.now := rfl
@[simp] theorem State.breakInput_now (s : State) : s.breakInput.now = s.now := rfl
@[simp] theorem State.addRepeat_now (s : State) (i : Nat) : (s.addRepeat i).now = s.now := rfl
@[simp] theorem State.plogAdd_now (s : State) (e : KilnEntry) : (s.plogAdd e).now = s.now := rfl
@[simp] theorem State.resetCrossings_now (s : State) (l : List Nat) : (s.resetCrossings l).now = s.now := rfl
@[simp] theorem State.setWork_now (s : State) (w : Tables) : (s.setWork w).now = s.now := rfl
@[simp] theorem State.editionUp_now (s : State) : s.editionUp.now = s.now := rfl
@[simp] theorem State.setDimmer_now (s : State) (a b : Nat) : (s.setDimmer a b).now = s.now := rfl
@[simp] theorem State.setStop_now (s : State) (a b : Nat) (c : Bool) : (s.setStop a b c).now = s.now := rfl
@[simp] theorem State.fillBuffer_now (s : State) (n p : Nat) (b : List Byte) : (s.fillBuffer n p b).now = s.now := rfl
@[simp] theorem State.clearCopy_now (s : State) (d : Layer) (c : Nat) : (s.clearCopy d c).now = s.now := rfl
@[simp] theorem State.clearBank_now (s : State) (b : Nat) : (s.clearBank b).now = s.now := rfl
@[simp] theorem State.loadDefects_now (s : State) (c : Nat) : (s.loadDefects c).now = s.now := rfl
@[simp] theorem State.loadGains_now (s : State) (c : Nat) : (s.loadGains c).now = s.now := rfl
@[simp] theorem State.nvmStore_now (s : State) (a : Nat) (b : List Nat) : (s.nvmStore a b).now = s.now := rfl
@[simp] theorem State.setCore_now (s : State) (c : Nat) (x : CoreImage) : (s.setCore c x).now = s.now := rfl
@[simp] theorem State.rowsUp_now (s : State) (b : Nat) : (s.rowsUp b).now = s.now := rfl
@[simp] theorem State.writeBlock_now (s : State) (k : Nat) (b : List Nat) : (s.writeBlock k b).now = s.now := rfl
@[simp] theorem State.eraseRegion_now (s : State) (c : Nat) (h : List Byte) : (s.eraseRegion c h).now = s.now := rfl
@[simp] theorem State.settleRegs_now (s : State) (l : NMap) : (s.settleRegs l).now = s.now := rfl

@[simp] theorem State.showCore_now (s : State) (c : Nat) : (s.showCore c).now = s.now := State.setAll_now _ _
@[simp] theorem State.writeWord_now (s : State) (c : Nat) (x : CoreImage) : (s.writeWord c x).now = s.now := by
  simp only [State.writeWord, State.showCore_now, State.nvmStore_now, State.setCore_now]
@[simp] theorem State.writeGreen_now (s : State) (c : Nat) (h : List Byte) : (s.writeGreen c h).now = s.now := State.writeWord_now _ _ _
@[simp] theorem State.resetWord_now (s : State) : s.resetWord.now = s.now := State.setAll_now _ _
@[simp] theorem State.senseLost_now (s : State) : s.senseLost.now = s.now := State.setAll_now _ _
@[simp] theorem State.firstTake_now (s : State) (e : KilnEntry) (r : Nat) : (s.firstTake e r).now = s.now := State.setAll_now _ _

@[simp] theorem State.noteConduct_now (s : State) : s.noteConduct.now = s.now := by
  unfold State.noteConduct; split <;> rfl
@[simp] theorem State.limpLight_now (s : State) : s.limpLight.now = s.now := by
  unfold State.limpLight; split
  · rfl
  · split <;> rfl
@[simp] theorem State.limpDark_now (s : State) : s.limpDark.now = s.now := by
  unfold State.limpDark; split <;> rfl
@[simp] theorem State.limpFollow_now (s : State) : s.limpFollow.now = s.now := by
  simp [State.limpFollow, now_ite]
@[simp] theorem State.safeFollow_now (s : State) : s.safeFollow.now = s.now := by
  unfold State.safeFollow; split <;> rfl
@[simp] theorem State.judge_now (s : State) : s.judge.now = s.now := by
  simp [State.judge, now_ite]
@[simp] theorem State.coverStart_now (s : State) : s.coverStart.now = s.now := by
  simp [State.coverStart, now_ite]
@[simp] theorem State.permitFall_now (s : State) : s.permitFall.now = s.now := by
  simp [State.permitFall, now_ite]
@[simp] theorem State.linkState_now (s : State) (n : Nat) : (s.linkState n).now = s.now := rfl
@[simp] theorem State.dropFrame_now (s : State) : s.dropFrame.now = s.now := by
  unfold State.dropFrame; split <;> simp
@[simp] theorem State.linkLeave_now (s : State) (n : Nat) : (s.linkLeave n).now = s.now := by
  simp [State.linkLeave]
@[simp] theorem State.lossCore_now (s : State) : s.lossCore.now = s.now := by
  simp [State.lossCore, now_ite]
@[simp] theorem State.linkReset_now (s : State) : s.linkReset.now = s.now := by
  simp [State.linkReset, now_ite]
@[simp] theorem State.stagesDropped_now (s : State) : s.stagesDropped.now = s.now :=
  (State.setAll_now _ _).trans (foldl_now (fun _ _ => State.setAll_now _ _) _ _)
@[simp] theorem State.cpRestart_now (s : State) : s.cpRestart.now = s.now := by
  simp [State.cpRestart]
@[simp] theorem State.coreRestart_now (s : State) (c : Nat) : (s.coreRestart c).now = s.now := by
  unfold State.coreRestart; split <;> simp
@[simp] theorem State.bisqueLost_now (s : State) : s.bisqueLost.now = s.now := by
  simp [State.bisqueLost, now_ite]
@[simp] theorem State.bankRebuild_now (s : State) (b : Nat) : (s.bankRebuild b).now = s.now := by
  unfold State.bankRebuild
  split
  · rfl
  · extract_lets s₁
    rw [now_ite, State.bisqueLost_now, ite_self]
    rfl
@[simp] theorem State.faultFollow_now (s : State) : s.faultFollow.now = s.now := by
  simp [State.faultFollow]
@[simp] theorem State.kilnAdd_now (s : State) (e : KilnEntry) : (s.kilnAdd e).now = s.now := by
  simp [State.kilnAdd, now_ite]
@[simp] theorem State.firstMerge_now (s : State) (c : Nat) : (s.firstMerge c).now = s.now := by
  simp [State.firstMerge]
@[simp] theorem State.enterLockout_now (s : State) (c k : Nat) (p : Bool) (d : Nat) : (s.enterLockout c k p d).now = s.now := by
  unfold State.enterLockout
  split
  · split
    · exact State.judge_now _
    · rfl
  · simp
@[simp] theorem State.scanReset_now (s : State) : s.scanReset.now = s.now := by
  simp [State.scanReset]
@[simp] theorem State.react_now (s : State) (r : Report) : (s.react r).now = s.now := by
  unfold State.react; split <;> simp
@[simp] theorem State.openWindow_now (s : State) (r : Report) (b : Bool) : (s.openWindow r b).now = s.now := by
  simp [State.openWindow, now_ite]
@[simp] theorem State.faultPulse_now (s : State) : s.faultPulse.now = s.now := by
  simp [State.faultPulse, now_ite]
@[simp] theorem State.faultEvent_now (s : State) (e : KilnEntry) : (s.faultEvent e).now = s.now := by
  simp [State.faultEvent, now_ite]
@[simp] theorem State.mergeEntry_now (s : State) (e : KilnEntry) : (s.mergeEntry e).now = s.now := by
  simp [State.mergeEntry, now_ite]
@[simp] theorem State.reportShadowed_now (s : State) (r : Report) (l : List Window) : (s.reportShadowed r l).now = s.now := by
  simp [State.reportShadowed, now_ite]
@[simp] theorem State.reportMerged_now (s : State) (r : Report) : (s.reportMerged r).now = s.now := by
  simp [State.reportMerged]
@[simp] theorem State.reportRaised_now (s : State) (r : Report) : (s.reportRaised r).now = s.now := by
  simp [State.reportRaised, now_ite]
@[simp] theorem State.takeReport_now (s : State) (r : Report) : (s.takeReport r).now = s.now := by
  unfold State.takeReport
  split
  · simp
  · split
    · simp [now_ite]
    · simp
@[simp] theorem State.report_now (s : State) (r : Report) : (s.report r).now = s.now := by
  simp [State.report, now_ite]
@[simp] theorem State.fault_now (s : State) (a b c d : Nat) : (s.fault a b c d).now = s.now := State.report_now _ _
@[simp] theorem State.injected_now (s : State) : s.injected.now = s.now := by
  simp [State.injected, now_ite]
@[simp] theorem State.injectAt_now (s : State) (c : Nat) : (s.injectAt c).now = s.now := by
  simp [State.injectAt, now_ite]
@[simp] theorem State.entryFailed_now (s : State) (k i : Nat) (e : LibEntry) : (s.entryFailed k i e).now = s.now := by
  simp [State.entryFailed, now_ite]
@[simp] theorem State.entryRead_now (s : State) (k i : Nat) (e : Option LibEntry) : (s.entryRead k i e).now = s.now := by
  cases e with
  | none => rfl
  | some e => simp [State.entryRead, now_ite]
@[simp] theorem State.commitWork_now (s : State) : s.commitWork.now = s.now := by
  simp [State.commitWork, now_ite]
@[simp] theorem State.showMap_now (s : State) (m : Option FieldMap) : (s.showMap m).now = s.now := by
  cases m <;> simp [State.showMap]
@[simp] theorem State.selectBase_now (s : State) (a b c : Nat) (d : Bool) : (s.selectBase a b c d).now = s.now := by
  simp [State.selectBase, State.microLoads, now_ite]

/-! #### The rebuild of a bank -/

@[simp] theorem State.endRun_now (s : State) (n : Nat) : (s.endRun n).now = s.now := by
  simp [State.endRun]
@[simp] theorem State.calCommit_now (s : State) (run : Bool) (a b : List Nat) (c d e : Assoc Nat) (f : List DefectEvent) :
    (s.calCommit run a b c d e f).now = s.now := by
  unfold State.calCommit
  dsimp only
  split
  · simp [now_ite]
  · rw [now_ite]
    simp only [State.set_now, State.setCal_now, ite_self]
    apply foldl_now
    intro s' t
    rfl
@[simp] theorem State.maskCommit_now (s : State) : s.maskCommit.now = s.now := by
  simp [State.maskCommit, now_ite]
@[simp] theorem State.rebuildMask_now (s : State) : s.rebuildMask.now = s.now := by
  unfold State.rebuildMask
  extract_lets stuck tested want out change
  exact State.maskCommit_now _
@[simp] theorem State.reloadBuffer_now (s : State) (n : Nat) (b : Bool) : (s.reloadBuffer n b).1.now = s.now := by
  unfold State.reloadBuffer
  split
  · rfl
  · split
    · simp [now_ite]
    · split
      · simp [now_ite]
      · split <;> simp [now_ite]
@[simp] theorem State.loseLayers_now (s : State) (b : Nat) : (s.loseLayers b).now = s.now :=
  (foldl_now (fun s n => State.fault_now (s.set (Reg.CMP_LAYER_STATUS.LOST n) 1) Src.layerLost n 2 4) _ _).trans
    (foldl_now (fun s (x : Nat × Layer × Nat) => State.clearCopy_now s x.2.1 x.2.2) _ _)
@[simp] theorem State.loseSymbols_now (s : State) (b : Nat) : (s.loseSymbols b).now = s.now :=
  foldl_now (fun _ _ => State.entryRead_now _ _ _ _) _ _
@[simp] theorem State.loseStore_now (s : State) (b : Nat) : (s.loseStore b).now = s.now := by
  simp [State.loseStore]

/-- Rebuilding a bank's content takes no time of its own: its bound has passed before (R451). -/
theorem State.rebuildBank_now (s : State) (bank : Nat) (b : Bool) : (s.rebuildBank bank b).1.now = s.now := by
  simp only [State.rebuildBank, fst_now_ite, List.foldl_cons, List.foldl_nil, State.reloadBuffer_now, State.clearBank_now,
    State.loadGains_now, State.loadDefects_now, State.loseStore_now, State.loseSymbols_now, State.loseLayers_now,
    State.rebuildMask_now, State.senseLost_now, ite_self]
theorem State.endRebuild_now (s : State) (bank : Nat) (b : Bool) : (s.endRebuild bank b).now = s.now := by
  simp [State.endRebuild, State.rebuildBank_now]
@[simp] theorem State.dropWindow_now (s : State) (k i : Nat) : (s.dropWindow k i).now = s.now := by
  simp [State.dropWindow]

/-! #### The start of a core -/

@[simp] theorem State.pulseMode_now (s : State) (b : Bool) : (s.pulseMode b).now = s.now := by
  simp [State.pulseMode]
@[simp] theorem State.settleMap_now (s : State) (m : Option FieldMap) : (s.settleMap m).now = s.now := by
  simp [State.settleMap]
@[simp] theorem State.cutBlock_now (s : State) (k : Nat) (b : List Nat) (n m : Nat) : (s.cutBlock k b n m).now = s.now := by
  unfold State.cutBlock; split <;> rfl
@[simp] theorem State.cutWrites_now (s : State) : s.cutWrites.now = s.now := by
  have hfold : ∀ (l : List (Nat × List Nat)) (s : State), (l.foldl (fun (s : State) p => s.writeBlock p.1 p.2) s).now = s.now :=
    fun l s => foldl_now (fun s (p : Nat × List Nat) => State.writeBlock_now s p.1 p.2) l s
  unfold State.cutWrites
  split
  · rfl
  · dsimp only
    split
    · simp [now_ite, hfold]
    · simp [hfold]
@[simp] theorem State.cutCommission_now (s : State) : s.cutCommission.now = s.now := by
  unfold State.cutCommission; split <;> rfl
@[simp] theorem State.loseController_now (s : State) : s.loseController.now = s.now := by
  simp [State.loseController]
@[simp] theorem State.mirrorsReset_now (s : State) : s.mirrorsReset.now = s.now := by
  simp [State.mirrorsReset]
@[simp] theorem State.banksUp_now (s : State) : s.banksUp.now = s.now :=
  (State.setAll_now _ _).trans (foldl_now State.rowsUp_now _ _)
@[simp] theorem State.powerReset_now (s : State) : s.powerReset.now = s.now := by
  simp [State.powerReset]
@[simp] theorem State.controllerReset_now (s : State) (c : Nat) : (s.controllerReset c).now = s.now := by
  simp [State.controllerReset]
@[simp] theorem State.endStop_now (s : State) : s.endStop.now = s.now := by
  simp [State.endStop, now_ite]
@[simp] theorem State.beginReady_now (s : State) (n : Nat) : (s.beginReady n).now = s.now := by
  simp [State.beginReady]
@[simp] theorem State.variantValues_now (s : State) : s.variantValues.now = s.now := by
  simp [State.variantValues, now_ite]
@[simp] theorem State.roleValue_now (s : State) : s.roleValue.now = s.now := by
  simp [State.roleValue, now_ite]
@[simp] theorem State.unpreserve_now (s : State) : s.unpreserve.now = s.now := by
  simp [State.unpreserve]
@[simp] theorem State.fallbackBegin_now (s : State) (c : Nat) : (s.fallbackBegin c).now = s.now := by
  simp [State.fallbackBegin, now_ite]
@[simp] theorem State.fallbackCopy_now (s : State) (c : Nat) : (s.fallbackCopy c).1.now = s.now := by
  unfold State.fallbackCopy
  split
  · rfl
  · dsimp only; split <;> simp
@[simp] theorem State.migrationFailed_now (s : State) (c f : Nat) : (s.migrationFailed c f).now = s.now := by
  simp [State.migrationFailed, now_ite]
@[simp] theorem State.migrate_now (s : State) (c : Nat) (a b : Bool) : (s.migrate c a b).now = s.now := by
  simp [State.migrate, now_ite]
@[simp] theorem State.stopAsked_now (s : State) : s.stopAsked.now = s.now := by
  unfold State.stopAsked; split <;> simp
@[simp] theorem State.coreUp_now (s : State) (c : Nat) : (s.coreUp c).now = s.now := by
  unfold State.coreUp; split <;> simp

/-- An automatic fallback takes the time of its copy, for which the spec gives no bound (R528). -/
theorem State.le_autoRestore_now (s : State) (c : Nat) : s.now ≤ (s.autoRestore c).now := by
  simp [State.autoRestore]
theorem State.le_countBoot_now (s : State) (c : Nat) : s.now ≤ (s.countBoot c).now := by
  unfold State.countBoot
  extract_lets x s₁
  have hread : s₁.now = s.now := by simp [s₁, now_ite, State.archiveRead]
  split
  · exact Nat.le_of_eq hread.symm
  · split
    · exact Nat.le_trans (Nat.le_of_eq hread.symm) (State.le_autoRestore_now _ _)
    · simp [hread]
theorem State.le_bootImage_now (s : State) (c : Nat) (b : Bool) : s.now ≤ (s.bootImage c b).now := by
  refine Nat.le_trans (State.le_countBoot_now s c) (Nat.le_of_eq ?_)
  unfold State.bootImage
  extract_lets s₁ x s₂ s₃ k s₄ s₅ u s₆
  have h₄ : s₄.now = s₁.now := by simp [s₄, s₃, s₂, now_ite]
  have h₅ : s₅.now = s₁.now := by simp [s₅, h₄]
  split
  · simp only [State.updateEvent_now, State.setAll_now, State.freshNonce_now]
    exact h₅.symm
  · exact h₅.symm

/-- A core that comes back never takes time back (R288, R415). -/
theorem State.le_coreBack_now (s : State) (m : Nat) : s.now ≤ (s.coreBack m).now := by
  unfold State.coreBack
  dsimp only
  generalize (if m = 2 then 1 else m) = c
  split
  · exact Nat.le_refl _
  · split
    · exact Nat.le_of_eq (State.controllerReset_now _ _).symm
    · split
      · exact Nat.le_refl _
      · exact Nat.le_trans (State.le_bootImage_now s c true) (Nat.le_of_eq (State.coreUp_now _ _).symm)

end Sys2Proof.Machine

namespace Sys2Proof.Machine

/-! ### The collector: what a report without a reaction changes (R408, R415) -/

/-- The registers that the collector changes as it takes a report, but the counters of the classes. -/
def collectorFields : List Field :=
  [Reg.FLT_STATUS.UNCLEARED, Reg.FLT_STATUS.FIRST_VALID, Reg.FLT_STATUS.WINDOW, Reg.FLT_STATUS.HIGHEST, Reg.FLT_STATUS.KILN_HEAD,
   Reg.FLT_STATUS.KILN_COUNT, Reg.FLT_STATUS.SEQ_WRAP, Reg.FLT_STATUS.CNT_SAT, Reg.FLT_FAULTN.PIN, Reg.FLT_FIRST_ID.SEQ,
   Reg.FLT_FIRST_ID.SOURCE, Reg.FLT_FIRST_ID.CLASS, Reg.FLT_FIRST_ID.MASTER, Reg.FLT_FIRST_INFO.ACCESS, Reg.FLT_FIRST_INFO.REACTION,
   Reg.FLT_FIRST_INFO.HIGHEST, Reg.FLT_FIRST_INFO.INJECTED, Reg.FLT_FIRST_INFO.RESTORED, Reg.FLT_FIRST_INFO.STANDING,
   Reg.FLT_FIRST_INFO.MERGES, Reg.FLT_FIRST_ADDR.ADDRESS, Reg.FLT_FIRST_TIME_LO.TIME, Reg.FLT_FIRST_TIME_HI.TIME,
   Reg.FLT_FIRST_EPOCH.EPOCH, Reg.FLT_FIRST_EPOCH.QUALITY, Reg.FLT_SHADOW_COUNT.COUNT, Reg.FLT_MERGE_COUNT.COUNT,
   Reg.FLT_PULSE_DROP_COUNT.COUNT]

/-- The parts that a report without a reaction may change. -/
abbrev collectorParts : List Part := [.flt, .regs, .rings, .proto]

/-- The frame of a step of the collector, with the registers it may change. -/
def Collected (fs : List Field) (s t : State) : Prop := KeptBut collectorParts s t ∧ RegsKeptBut fs s t

theorem RegsKeptBut.mono {fs gs : List Field} {s t : State} (h : RegsKeptBut fs s t) (hs : ∀ f ∈ fs, f ∈ gs) : RegsKeptBut gs s t := by
  intro f hf
  refine h f (fun hm => hf ?_)
  obtain ⟨g, hg, hk⟩ := List.mem_map.1 hm
  refine List.mem_map.2 ⟨g, ?_, hk⟩
  rcases List.mem_append.1 hg with hg | hg
  · exact List.mem_append_left _ (hs g hg)
  · exact List.mem_append_right _ hg

theorem Collected.refl (fs : List Field) (s : State) : Collected fs s s := ⟨KeptBut.refl _ s, RegsKeptBut.refl _ s⟩
theorem Collected.trans {fs : List Field} {s t u : State} (h : Collected fs s t) (k : Collected fs t u) : Collected fs s u :=
  ⟨h.1.trans k.1, h.2.trans k.2⟩
theorem Collected.mono {fs gs : List Field} {s t : State} (h : Collected fs s t) (hs : ∀ f ∈ fs, f ∈ gs) : Collected gs s t :=
  ⟨h.1, h.2.mono hs⟩
theorem Collected.ite {fs : List Field} {s t u : State} (c : Prop) [Decidable c] (h : Collected fs s t) (k : Collected fs s u) :
    Collected fs s (if c then t else u) := by
  split
  · exact h
  · exact k

theorem key_mem_of_mem {f : Field} {fs : List Field} (h : f ∈ fs) : f.key ∈ (fs ++ eventFields).map Field.key :=
  List.mem_map_of_mem (List.mem_append_left _ h)

theorem Collected.of_quiet {fs : List Field} {s t : State} (h : Quiet fs s t) : Collected fs s t := ⟨h.1.mono (by decide), h.2⟩
theorem Collected.set (s : State) (f : Field) (v : Nat) {fs : List Field} (h : f ∈ fs) : Collected fs s (s.set f v) :=
  Collected.of_quiet (Quiet.set s f v fs (key_mem_of_mem h))
theorem Collected.setAll {fs : List Field} (l : List (Field × Nat)) (h : ∀ p ∈ l, p.1 ∈ fs) : ∀ s : State, Collected fs s (s.setAll l) := by
  induction l with
  | nil => intro s; exact Collected.refl fs s
  | cons p l ih =>
    intro s
    exact (Collected.set s p.1 p.2 (h p (by simp))).trans (ih (fun q hq => h q (by simp [hq])) _)
theorem Collected.bump (s : State) (f sat : Field) {fs : List Field} (hf : f ∈ fs) (hs : sat ∈ fs) : Collected fs s (s.bump f sat) :=
  Collected.of_quiet (Quiet.bump s f sat fs (key_mem_of_mem hf) (key_mem_of_mem hs))
theorem Collected.setFlt (s : State) (c : Collector) (fs : List Field) : Collected fs s (s.setFlt c) := by
  refine ⟨?_, RegsKeptBut.of_regs rfl⟩
  intro p hp; cases p <;> first | rfl | simp at hp

section
variable (s : State) (e : KilnEntry)

theorem Collected.addRepeat (i : Nat) (fs : List Field) : Collected fs s (s.addRepeat i) := Collected.setFlt s _ fs
theorem Collected.plogAdd (fs : List Field) : Collected fs s (s.plogAdd e) := Collected.setFlt s _ fs

theorem Collected.faultFollow : Collected collectorFields s s.faultFollow :=
  (Collected.setAll [(Reg.FLT_STATUS.UNCLEARED, _), (Reg.FLT_STATUS.HIGHEST, _), (Reg.FLT_STATUS.WINDOW, _)]
    (by simp [collectorFields]) s).trans (Collected.set _ Reg.FLT_FAULTN.PIN _ (by decide))

theorem Collected.kilnAdd : Collected collectorFields s (s.kilnAdd e) := by
  unfold State.kilnAdd
  extract_lets slot next c s₁ s₂
  have h₂ : Collected collectorFields s s₂ :=
    (Collected.setFlt s _ _).trans (Collected.ite _ (Collected.set _ Reg.FLT_STATUS.SEQ_WRAP _ (by decide)) (Collected.refl _ _))
  exact (h₂.trans (Collected.set _ Reg.FLT_STATUS.KILN_HEAD _ (by decide))).trans (Collected.set _ Reg.FLT_STATUS.KILN_COUNT _ (by decide))

theorem Collected.firstTake (r : Nat) : Collected collectorFields s (s.firstTake e r) :=
  Collected.setAll _ (by simp [collectorFields]) s

theorem Collected.firstMerge (c : Nat) : Collected collectorFields s (s.firstMerge c) :=
  ((Collected.set s Reg.FLT_FIRST_INFO.MERGES _ (by decide)).trans (Collected.set _ Reg.FLT_FIRST_INFO.HIGHEST _ (by decide))).trans
    (Collected.bump _ _ _ (by decide) (by decide))

theorem Collected.mergeEntry : Collected collectorFields s (s.mergeEntry e) :=
  ((Collected.firstMerge s e.cls).trans (Collected.setFlt _ _ _)).trans (Collected.ite _ (Collected.plogAdd _ _ _) (Collected.refl _ _))

theorem Collected.faultPulse : Collected collectorFields s s.faultPulse := by
  unfold State.faultPulse
  split
  · exact Collected.ite _ (Collected.setFlt _ _ _) (Collected.ite _ (Collected.setFlt _ _ _) (Collected.bump _ _ _ (by decide) (by decide)))
  · exact Collected.refl _ _

theorem Collected.faultEvent : Collected collectorFields s (s.faultEvent e) :=
  Collected.ite _ (Collected.of_quiet (Quiet.event _ _ _ _)) (Collected.refl _ _)

theorem Collected.irq (n : Nat) (fs : List Field) : Collected fs s (s.irq n) := ⟨(State.irq_kept s n).mono (by decide), State.irq_regs_kept s n fs⟩
end

/-- Without a reaction no window opens. -/
theorem State.openWindow_none (s : State) (r : Report) (b : Bool) (h : Src.reaction r.source = 0) : s.openWindow r b = s := by
  simp [State.openWindow, h]

/-! #### A report split at the counter of its class -/

/-- What comes before the class counter and what comes after it changes none of the counters of the classes. -/
def CountsOnce (c : Field) (s t : State) : Prop :=
  ∃ u, Collected collectorFields s u ∧ Collected collectorFields (u.bump c Reg.FLT_STATUS.CNT_SAT) t

theorem CountsOnce.collected {c : Field} {s t : State} (h : CountsOnce c s t) : Collected (c :: collectorFields) s t := by
  obtain ⟨u, hu, ht⟩ := h
  have hsub : ∀ f ∈ collectorFields, f ∈ c :: collectorFields := fun f hf => List.mem_cons_of_mem _ hf
  exact ((hu.mono hsub).trans (Collected.bump u c _ (by simp) (hsub _ (by decide)))).trans (ht.mono hsub)

/-- A saturating counter below its greatest value is raised by one. -/
theorem State.get_bump (s : State) (f sat : Field) (h : s.get f < f.max) (hsat : f.key ≠ sat.key) (he : f.key ∉ eventFields.map Field.key) :
    (s.bump f sat).get f = s.get f + 1 := by
  have hw : s.get f + 1 < 2 ^ f.width := by unfold Field.max at h; omega
  have hq : (s.bumpQuiet f sat).1.get f = s.get f + 1 := by
    unfold State.bumpQuiet
    rw [if_neg (Nat.ne_of_lt h)]
    split
    · simp [State.get_set_other _ _ _ _ hsat, Nat.mod_eq_of_lt hw]
    · simp [Nat.mod_eq_of_lt hw]
  unfold State.bump
  dsimp only
  split
  · exact ((Quiet.event _ _ _ []).2 f (by simpa using he)).trans hq
  · exact hq

theorem CountsOnce.get {c : Field} {s t : State} (h : CountsOnce c s t) (hlt : s.get c < c.max)
    (hc : c.key ∉ (collectorFields ++ eventFields).map Field.key) : t.get c = s.get c + 1 := by
  obtain ⟨u, hu, ht⟩ := h
  have hus : u.get c = s.get c := hu.2 c hc
  have hsat : c.key ≠ Reg.FLT_STATUS.CNT_SAT.key := fun e => hc (e ▸ key_mem_of_mem (by decide))
  have he : c.key ∉ eventFields.map Field.key := fun m => hc (by rw [List.map_append]; exact List.mem_append_right _ m)
  rw [ht.2 c hc, State.get_bump u c _ (hus ▸ hlt) hsat he, hus]

theorem CountsOnce.reportRaised (s : State) (r : Report) (h : Src.reaction r.source = 0) :
    CountsOnce (clsCounter (Src.cls r.source)) s (s.reportRaised r) := by
  refine ⟨s.kilnAdd (s.entryOf r false false), Collected.kilnAdd _ _, ?_⟩
  unfold State.reportRaised
  extract_lets e first s₁ s₂ c s₃ s₄ s₅
  rw [State.openWindow_none _ _ _ h]
  have h₂ : Collected collectorFields s₁ s₂ := Collected.ite _ (Collected.firstTake _ _ _) (Collected.refl _ _)
  have h₃ : Collected collectorFields s₂ s₃ := Collected.ite _ (Collected.setFlt _ _ _) (Collected.refl _ _)
  have h₄ : Collected collectorFields s₃ s₄ := Collected.ite _ (Collected.plogAdd _ _ _) (Collected.refl _ _)
  have h₅ : Collected collectorFields s₄ s₅ :=
    ((Collected.irq _ _ _).trans (Collected.faultPulse _)).trans (Collected.faultEvent _ _)
  exact (((h₂.trans h₃).trans h₄).trans h₅).trans (Collected.faultFollow _)

theorem CountsOnce.reportMerged (s : State) (r : Report) (h : Src.reaction r.source = 0) :
    CountsOnce (clsCounter (Src.cls r.source)) s (s.reportMerged r) := by
  refine ⟨s.kilnAdd (s.entryOf r true false), Collected.kilnAdd _ _, ?_⟩
  unfold State.reportMerged
  dsimp only
  rw [State.openWindow_none _ _ _ h]
  exact ((Collected.mergeEntry _ _).trans (Collected.faultEvent _ _)).trans (Collected.faultFollow _)

/-- A shadowed CORRECTED report counts in its class (Table 13-13). -/
theorem CountsOnce.reportShadowed (s : State) (r : Report) (ws : List Window) (h : Src.cls r.source = 1) :
    CountsOnce (clsCounter (Src.cls r.source)) s (s.reportShadowed r ws) := by
  unfold State.reportShadowed
  extract_lets first e s₁ s₂
  refine ⟨s₁, (Collected.kilnAdd s e).trans (Collected.bump _ _ _ (by decide) (by decide)), ?_⟩
  have he : e.cls = Src.cls r.source := rfl
  have h₂ : s₂ = s₁.bump (clsCounter (Src.cls r.source)) Reg.FLT_STATUS.CNT_SAT := by simp [s₂, he, h]
  rw [← h₂]
  exact Collected.ite _ (Collected.mergeEntry _ _) (Collected.refl _ _)

/-- A CORRECTED report without a reaction is counted once, whether it repeats an entry, is shadowed, merges or is raised. -/
theorem CountsOnce.takeReport_corrected (s : State) (r : Report) (h : Src.reaction r.source = 0) (hc : Src.cls r.source = 1) :
    CountsOnce Reg.FLT_CORRECTED_COUNT.COUNT s (s.takeReport r) := by
  have hk : clsCounter (Src.cls r.source) = Reg.FLT_CORRECTED_COUNT.COUNT := by rw [hc]; rfl
  rw [← hk]
  unfold State.takeReport
  split
  · exact ⟨s.addRepeat _, Collected.addRepeat _ _ _, by rw [hk]; exact Collected.refl _ _⟩
  · split
    · split
      · exact CountsOnce.reportMerged s r h
      · exact CountsOnce.reportRaised s r h
    · exact CountsOnce.reportShadowed s r _ hc

/-- With no window open a CONTAINED report is raised. -/
theorem State.takeReport_contained (s : State) (r : Report) (hc : Src.cls r.source = 2) (hw : s.flt.windows = []) :
    s.takeReport r = s.reportRaised r := by
  simp [State.takeReport, State.repeatIndex, State.shadowing, State.firstWindow, hc, hw]

/-- A report that leaves LNK_STATUS.INPUT alone declares no input loss. -/
theorem State.report_eq_takeReport (s : State) (r : Report) (h : (s.takeReport r).get Reg.LNK_STATUS.INPUT = s.get Reg.LNK_STATUS.INPUT) :
    s.report r = s.takeReport r := by
  unfold State.report
  dsimp only
  rw [if_neg]
  simp only [State.losable, h, Bool.and_eq_true, Bool.or_eq_true, beq_iff_eq, not_and]
  omega

theorem clsCounter_input (c : Nat) : Reg.LNK_STATUS.INPUT.key ∉ ((clsCounter c :: collectorFields) ++ eventFields).map Field.key := by
  unfold clsCounter; split <;> decide

theorem CountsOnce.report_eq {s : State} {r : Report} {c : Nat} (h : CountsOnce (clsCounter c) s (s.takeReport r)) : s.report r = s.takeReport r :=
  State.report_eq_takeReport s r (h.collected.2 _ (clsCounter_input c))

/-- The registers of the check units and crossings are none of the collector's. -/
theorem checks_not_collector (f : Field) (n : Nat) (hf : 0x40300000 * 32 ≤ f.key) :
    f.key ∉ ((clsCounter n :: collectorFields) ++ eventFields).map Field.key := by
  have hlow : ∀ g ∈ (clsCounter n :: collectorFields) ++ eventFields, g.key < 0x40300000 * 32 := by
    unfold clsCounter; split <;> decide
  intro hm
  obtain ⟨g, hg, hk⟩ := List.mem_map.1 hm
  have := hlow g hg
  omega

/-! #### The uncleared faults -/

@[simp] theorem State.bump_flt (s : State) (f sat : Field) : (s.bump f sat).flt = s.flt :=
  (Quiet.bump s f sat [f, sat] (by simp) (by simp)).1 .flt (by decide)
@[simp] theorem State.event_flt (s : State) (o : Nat) (b : List Byte) : (s.event o b).flt = s.flt := (Quiet.event s o b []).1 .flt (by decide)
@[simp] theorem State.setAll_flt (s : State) (l : List (Field × Nat)) : (s.setAll l).flt = s.flt := (State.setAll_kept l s) .flt (by decide)
@[simp] theorem State.irq_flt (s : State) (n : Nat) : (s.irq n).flt = s.flt := rfl
@[simp] theorem State.firstTake_flt (s : State) (e : KilnEntry) (r : Nat) : (s.firstTake e r).flt = s.flt := State.setAll_flt _ _
@[simp] theorem State.faultFollow_flt (s : State) : s.faultFollow.flt = s.flt := State.setAll_flt s _
@[simp] theorem State.faultEvent_flt (s : State) (e : KilnEntry) : (s.faultEvent e).flt = s.flt := by
  unfold State.faultEvent; split <;> simp
@[simp] theorem State.kilnAdd_uncleared (s : State) (e : KilnEntry) : (s.kilnAdd e).flt.uncleared = s.flt.uncleared := by
  unfold State.kilnAdd
  dsimp only
  split <;> rfl
@[simp] theorem State.faultPulse_uncleared (s : State) : s.faultPulse.flt.uncleared = s.flt.uncleared := by
  unfold State.faultPulse
  split
  · split
    · rfl
    · split
      · rfl
      · simp
  · rfl

/-- A fault raised in a class above CORRECTED stays uncleared (R420). -/
theorem State.reportRaised_uncleared (s : State) (r : Report) (h : Src.reaction r.source = 0) (hc : 2 ≤ Src.cls r.source) :
    (s.reportRaised r).flt.uncleared = s.flt.uncleared ++ [⟨s.flt.nextSeq, r.source, Src.cls r.source, r.addr⟩] := by
  unfold State.reportRaised
  extract_lets e first s₁ s₂ c s₃ s₄ s₅
  have he : 2 ≤ e.cls := hc
  have h₂ : s₂.flt.uncleared = s.flt.uncleared := by
    simp only [s₂]
    split <;> simp [s₁]
  have h₃ : s₃.flt.uncleared = s₂.flt.uncleared ++ [⟨e.seq, e.source, e.cls, e.addr⟩] := by simp [s₃, he]
  have h₄ : s₄.flt.uncleared = s₃.flt.uncleared := by simp [s₄, he, State.plogAdd]
  have h₅ : s₅.flt.uncleared = s₄.flt.uncleared := by simp [s₅]
  rw [State.openWindow_none _ _ _ h, State.faultFollow_flt, h₅, h₄, h₃, h₂]
  rfl

/-- A CONTAINED fault without a reaction, raised while no window is open: what it changes, and the uncleared fault it leaves. -/
theorem State.fault_contained (s : State) (source addr master access : Nat) (hc : Src.cls source = 2) (hr : Src.reaction source = 0)
    (hw : s.flt.windows = []) :
    Collected (Reg.FLT_CONTAINED_COUNT.COUNT :: collectorFields) s (s.fault source addr master access)
      ∧ (s.fault source addr master access).flt.uncleared = s.flt.uncleared ++ [⟨s.flt.nextSeq, source, 2, addr⟩] := by
  generalize hrep : (⟨source, addr, master, access, false, false⟩ : Report) = r
  have hs : r.source = source := by rw [← hrep]
  have ha : r.addr = addr := by rw [← hrep]
  have ht : s.takeReport r = s.reportRaised r := State.takeReport_contained s r (hs ▸ hc) hw
  have hcount : CountsOnce (clsCounter (Src.cls r.source)) s (s.reportRaised r) := CountsOnce.reportRaised s r (hs ▸ hr)
  have heq : s.fault source addr master access = s.reportRaised r := by
    rw [State.fault, hrep, CountsOnce.report_eq (ht ▸ hcount), ht]
  rw [heq]
  refine ⟨?_, ?_⟩
  · rw [hs, hc] at hcount
    exact hcount.collected
  · rw [State.reportRaised_uncleared s r (hs ▸ hr) (Nat.le_of_eq (by rw [hs, hc])), hs, ha, hc]

/-- A CORRECTED fault without a reaction is counted once (R413, R415, R416). -/
theorem State.fault_corrected (s : State) (source addr master access : Nat) (hc : Src.cls source = 1) (hr : Src.reaction source = 0) :
    CountsOnce Reg.FLT_CORRECTED_COUNT.COUNT s (s.fault source addr master access) := by
  have h := CountsOnce.takeReport_corrected s ⟨source, addr, master, access, false, false⟩ hr hc
  rw [State.fault, CountsOnce.report_eq (c := 1) h]
  exact h

end Sys2Proof.Machine

namespace Sys2Proof.Machine

/-! ### Check units (R537 to R541) -/

section
variable {α : Type}

theorem Assoc.find_erase_other (m : Assoc α) {k a : Nat} (h : a ≠ k) : Assoc.find (Assoc.erase m k) a = Assoc.find m a := by
  induction m with
  | nil => rfl
  | cons p m ih =>
    obtain ⟨b, v⟩ := p
    by_cases hb : k = b
    · subst hb; simp [Assoc.erase, Assoc.find, h, ih]
    · by_cases ha : a = b <;> simp [Assoc.erase, Assoc.find, hb, ha, ih]

theorem Assoc.find_put_same (m : Assoc α) (k : Nat) (v : α) (h : Assoc.find m k = none) : Assoc.find (Assoc.put m k v) k = some v := by
  induction m with
  | nil => simp [Assoc.put, Assoc.find]
  | cons p m ih =>
    obtain ⟨b, w⟩ := p
    by_cases hb : k = b
    · simp [Assoc.find, hb] at h
    · simp only [Assoc.find, hb, if_false] at h
      by_cases hl : k < b <;> simp [Assoc.put, Assoc.find, hl, hb, ih h]

theorem Assoc.find_put_other (m : Assoc α) {k a : Nat} (v : α) (h : a ≠ k) : Assoc.find (Assoc.put m k v) a = Assoc.find m a := by
  induction m with
  | nil => simp [Assoc.put, Assoc.find, h]
  | cons p m ih =>
    obtain ⟨b, w⟩ := p
    by_cases hl : k < b <;> by_cases ha : a = b <;> simp [Assoc.put, Assoc.find, hl, ha, h, ih]
    intro hk; omega

@[simp] theorem Assoc.find_insert_same (m : Assoc α) (k : Nat) (v : α) : Assoc.find (Assoc.insert m k v) k = some v :=
  Assoc.find_put_same _ k v (Assoc.find_erase_same m k)

theorem Assoc.find_insert_other (m : Assoc α) {k a : Nat} (v : α) (h : a ≠ k) : Assoc.find (Assoc.insert m k v) a = Assoc.find m a :=
  (Assoc.find_put_other _ v h).trans (Assoc.find_erase_other m h)
end

theorem State.setChk_kept (s : State) (c : Checks) : KeptBut [.chk] s (s.setChk c) := by
  intro p hp; cases p <;> first | rfl | simp at hp

@[simp] theorem State.setAll_chk (s : State) (l : List (Field × Nat)) : (s.setAll l).chk = s.chk := (State.setAll_kept l s) .chk (by decide)

theorem RegsKeptBut.setAll (s : State) {fs : List Field} (l : List (Field × Nat)) (h : ∀ p ∈ l, p.1 ∈ fs) : RegsKeptBut fs s (s.setAll l) :=
  (Collected.setAll l h s).2

/-- The fields of a check unit that a scan's end sets. -/
abbrev scanFields (u : Nat) : List Field :=
  [Reg.CHK_STATUS.BUSY u, Reg.CHK_STATUS.DONE u, Reg.CHK_STATUS.ERROR u, Reg.CHK_RESULT.VALUE u, Reg.CHK_STATUS.MATCH u]

/-- What a unit reads once its scan has ended with a code, a result and a comparison. -/
structure State.ScanEnded (s : State) (u code value match_ : Nat) : Prop where
  busy : s.get (Reg.CHK_STATUS.BUSY u) = 0
  done : s.get (Reg.CHK_STATUS.DONE u) = 1
  error : s.get (Reg.CHK_STATUS.ERROR u) = code % 8
  result : s.get (Reg.CHK_RESULT.VALUE u) = value % 2 ^ 32
  matched : s.get (Reg.CHK_STATUS.MATCH u) = match_ % 2

/-- A field that several writes leave out reads as before. -/
theorem State.get_setAll_other (l : List (Field × Nat)) (f : Field) : ∀ s : State, f.key ∉ l.map (fun p => p.1.key) → (s.setAll l).get f = s.get f := by
  induction l with
  | nil => intro s _; rfl
  | cons p l ih =>
    intro s h
    simp only [List.map_cons, List.mem_cons, not_or] at h
    exact (ih _ h.2).trans (State.get_set_other s _ _ _ h.1)

/-- A field written once among several writes reads as its value cut to its width. -/
theorem State.get_setAll (l : List (Field × Nat)) (f : Field) (v : Nat) : ∀ s : State, (l.map (fun p => p.1.key)).Nodup → (f, v) ∈ l →
    (s.setAll l).get f = v % 2 ^ f.width := by
  induction l with
  | nil => intro s _ h; simp at h
  | cons p l ih =>
    intro s hn hm
    simp only [List.map_cons, List.nodup_cons] at hn
    rcases List.mem_cons.1 hm with rfl | hm
    · exact (State.get_setAll_other l f _ hn.1).trans (State.get_set_same s f v)
    · exact ih _ hn.2 hm

theorem scanFields_nodup (u : Nat) : ((scanFields u).map Field.key).Nodup := by
  simp [scanFields, Field.key, Reg.CHK_STATUS.BUSY, Reg.CHK_STATUS.DONE, Reg.CHK_STATUS.ERROR, Reg.CHK_RESULT.VALUE, Reg.CHK_STATUS.MATCH]
  omega

theorem State.scanEnded_setAll (s : State) (u code value match_ : Nat) :
    (s.setAll [(Reg.CHK_STATUS.BUSY u, 0), (Reg.CHK_STATUS.DONE u, 1), (Reg.CHK_STATUS.ERROR u, code), (Reg.CHK_RESULT.VALUE u, value),
      (Reg.CHK_STATUS.MATCH u, match_)]).ScanEnded u code value match_ := by
  have h : ∀ f v, (f, v) ∈ [(Reg.CHK_STATUS.BUSY u, 0), (Reg.CHK_STATUS.DONE u, 1), (Reg.CHK_STATUS.ERROR u, code), (Reg.CHK_RESULT.VALUE u, value),
      (Reg.CHK_STATUS.MATCH u, match_)] → _ := fun f v => State.get_setAll _ f v s (scanFields_nodup u)
  exact ⟨h _ 0 (by simp), h _ 1 (by simp), h _ code (by simp), h _ value (by simp), h _ match_ (by simp)⟩

/-- A scan that ends with an error: RESULT and MATCH read 0 (R539, R540). -/
theorem State.scanError_spec (s : State) (u code : Nat) :
    (s.scanError u code).ScanEnded u code 0 0 ∧ (s.scanError u code).chk.scans.find u = none ∧ KeptBut [.chk, .regs] s (s.scanError u code)
      ∧ RegsKeptBut (scanFields u) s (s.scanError u code) := by
  refine ⟨State.scanEnded_setAll _ u code 0 0, ?_, ?_, ?_⟩
  · simp [State.scanError, Assoc.find_erase_same]
  · exact ((State.setChk_kept s _).mono (by simp)).trans ((State.setAll_kept _ _).mono (by simp))
  · exact (RegsKeptBut.of_regs rfl).trans (RegsKeptBut.setAll _ _ (by simp))

/-- The fields of a check unit that a write of its registers sets, in the order of the write. -/
abbrev settingFields (u : Nat) : List Field :=
  [Reg.CHK_START.ADDRESS u, Reg.CHK_LENGTH.BYTES u, Reg.CHK_FOLD.FOLD u, Reg.CHK_EXPECT.VALUE u, Reg.CHK_CTRL.POLY u, Reg.CHK_CTRL.FOLD_EN u,
   Reg.CHK_CTRL.COMPARE u]

/-- The state after the settings of a unit were written (R537). -/
def State.chkSettings (s : State) (u poly start len fold expect : Nat) (foldEn compare : Bool) : State :=
  s.setAll [(Reg.CHK_START.ADDRESS u, start), (Reg.CHK_LENGTH.BYTES u, len), (Reg.CHK_FOLD.FOLD u, fold),
    (Reg.CHK_EXPECT.VALUE u, expect), (Reg.CHK_CTRL.POLY u, poly), (Reg.CHK_CTRL.FOLD_EN u, b2n foldEn),
    (Reg.CHK_CTRL.COMPARE u, b2n compare)]

/-- CHK_GO of a unit whose owner runs. -/
theorem exec_chkGo (u poly start len fold expect : Nat) (foldEn compare abort : Bool) (s : State) (hu : u < 4) (ho : s.ownerUp u = true) :
    exec (.chkGo u poly foldEn compare start len fold expect abort) s
      = .next (if abort then (s.chkSettings u poly start len fold expect foldEn compare).checkAbort u
          else (s.chkSettings u poly start len fold expect foldEn compare).checkGo u) :=
  if_pos ⟨hu, ho⟩

theorem settingFields_nodup (u : Nat) : ((settingFields u).map Field.key).Nodup := by
  simp [settingFields, Field.key, Reg.CHK_START.ADDRESS, Reg.CHK_LENGTH.BYTES, Reg.CHK_FOLD.FOLD, Reg.CHK_EXPECT.VALUE, Reg.CHK_CTRL.POLY,
    Reg.CHK_CTRL.FOLD_EN, Reg.CHK_CTRL.COMPARE]
  omega

section
variable (s : State) (u poly start len fold expect : Nat) (foldEn compare : Bool)

theorem State.chkSettings_kept : KeptBut [.regs] s (s.chkSettings u poly start len fold expect foldEn compare) := State.setAll_kept _ s

theorem State.chkSettings_regs (fs : List Field) (h : ∀ f ∈ settingFields u, f ∈ fs) :
    RegsKeptBut fs s (s.chkSettings u poly start len fold expect foldEn compare) :=
  (RegsKeptBut.setAll s _ (by simp)).mono h

/-- The settings do not touch the unit's status. -/
theorem State.chkSettings_busy : (s.chkSettings u poly start len fold expect foldEn compare).get (Reg.CHK_STATUS.BUSY u) = s.get (Reg.CHK_STATUS.BUSY u) := by
  refine State.get_setAll_other _ _ s ?_
  simp [Field.key, Reg.CHK_STATUS.BUSY, Reg.CHK_START.ADDRESS, Reg.CHK_LENGTH.BYTES, Reg.CHK_FOLD.FOLD, Reg.CHK_EXPECT.VALUE, Reg.CHK_CTRL.POLY,
    Reg.CHK_CTRL.FOLD_EN, Reg.CHK_CTRL.COMPARE]
  omega

/-- Each setting reads as it was written, cut to its width. -/
theorem State.chkSettings_get {f : Field} {v : Nat}
    (h : (f, v) ∈ [(Reg.CHK_START.ADDRESS u, start), (Reg.CHK_LENGTH.BYTES u, len), (Reg.CHK_FOLD.FOLD u, fold), (Reg.CHK_EXPECT.VALUE u, expect),
      (Reg.CHK_CTRL.POLY u, poly), (Reg.CHK_CTRL.FOLD_EN u, b2n foldEn), (Reg.CHK_CTRL.COMPARE u, b2n compare)]) :
    (s.chkSettings u poly start len fold expect foldEn compare).get f = v % 2 ^ f.width :=
  State.get_setAll _ f v s (settingFields_nodup u) h

theorem State.chkSettings_start : (s.chkSettings u poly start len fold expect foldEn compare).get (Reg.CHK_START.ADDRESS u) = start % 2 ^ 32 :=
  State.chkSettings_get s u poly start len fold expect foldEn compare (by simp)
theorem State.chkSettings_len : (s.chkSettings u poly start len fold expect foldEn compare).get (Reg.CHK_LENGTH.BYTES u) = len % 2 ^ 27 :=
  State.chkSettings_get s u poly start len fold expect foldEn compare (by simp)

/-- What GO latches: the settings as they were written (R538). -/
theorem State.checkGo_chkSettings (hb : s.flag (Reg.CHK_STATUS.BUSY u) = false) (hr : rangeBad (start % 2 ^ 32) (len % 2 ^ 27) = false) :
    (s.chkSettings u poly start len fold expect foldEn compare).checkGo u
      = ((s.chkSettings u poly start len fold expect foldEn compare).setChk { s.chk with
          scans := s.chk.scans.insert u ⟨s.now, start % 2 ^ 32, len % 2 ^ 27, poly % 4, if foldEn then some (fold % 2 ^ 32) else none, compare,
            expect % 2 ^ 32⟩ }).set (Reg.CHK_STATUS.BUSY u) 1 := by
  have hchk : (s.chkSettings u poly start len fold expect foldEn compare).chk = s.chk := State.setAll_chk s _
  have hnow : (s.chkSettings u poly start len fold expect foldEn compare).now = s.now := State.setAll_now s _
  have hbusy : (s.chkSettings u poly start len fold expect foldEn compare).flag (Reg.CHK_STATUS.BUSY u) = false := by
    rw [State.flag, State.chkSettings_busy]; exact hb
  have hpoly : (s.chkSettings u poly start len fold expect foldEn compare).get (Reg.CHK_CTRL.POLY u) = poly % 4 :=
    State.chkSettings_get s u poly start len fold expect foldEn compare (by simp)
  have hfold : (s.chkSettings u poly start len fold expect foldEn compare).get (Reg.CHK_FOLD.FOLD u) = fold % 2 ^ 32 :=
    State.chkSettings_get s u poly start len fold expect foldEn compare (by simp)
  have hexpect : (s.chkSettings u poly start len fold expect foldEn compare).get (Reg.CHK_EXPECT.VALUE u) = expect % 2 ^ 32 :=
    State.chkSettings_get s u poly start len fold expect foldEn compare (by simp)
  have hen : (s.chkSettings u poly start len fold expect foldEn compare).flag (Reg.CHK_CTRL.FOLD_EN u) = foldEn := by
    rw [State.flag, State.chkSettings_get s u poly start len fold expect foldEn compare (v := b2n foldEn) (by simp)]
    cases foldEn <;> rfl
  have hcomp : (s.chkSettings u poly start len fold expect foldEn compare).flag (Reg.CHK_CTRL.COMPARE u) = compare := by
    rw [State.flag, State.chkSettings_get s u poly start len fold expect foldEn compare (v := b2n compare) (by simp)]
    cases compare <;> rfl
  unfold State.checkGo
  simp only [hbusy, Bool.false_eq_true, if_false, State.chkSettings_start, State.chkSettings_len, hr, hchk, hnow, hpoly, hfold, hexpect, hen, hcomp]

/-- R537, R538: GO starts a scan with the settings of its write. -/
theorem chkGo_starts (hu : u < 4) (ho : s.ownerUp u = true) (hb : s.flag (Reg.CHK_STATUS.BUSY u) = false)
    (hr : rangeBad (start % 2 ^ 32) (len % 2 ^ 27) = false) :
    Answers (.chkGo u poly foldEn compare start len fold expect false) s (fun t =>
      t.chk.scans.find u = some ⟨s.now, start % 2 ^ 32, len % 2 ^ 27, poly % 4, if foldEn then some (fold % 2 ^ 32) else none, compare, expect % 2 ^ 32⟩
        ∧ t.get (Reg.CHK_STATUS.BUSY u) = 1 ∧ (∀ m, m ≠ u → t.chk.scans.find m = s.chk.scans.find m) ∧ t.chk.resets = s.chk.resets
        ∧ KeptBut [.chk, .regs] s t
        ∧ RegsKeptBut [Reg.CHK_START.ADDRESS u, Reg.CHK_LENGTH.BYTES u, Reg.CHK_FOLD.FOLD u, Reg.CHK_EXPECT.VALUE u, Reg.CHK_CTRL.POLY u,
            Reg.CHK_CTRL.FOLD_EN u, Reg.CHK_CTRL.COMPARE u, Reg.CHK_STATUS.BUSY u] s t) := by
  refine ⟨_, exec_chkGo u poly start len fold expect foldEn compare false s hu ho, ?_⟩
  simp only [Bool.false_eq_true, if_false, State.checkGo_chkSettings s u poly start len fold expect foldEn compare hb hr]
  refine ⟨by simp, State.get_set_same _ _ _, fun m hm => by simp [Assoc.find_insert_other _ _ hm], rfl, ?_, ?_⟩
  · exact (((State.chkSettings_kept s u poly start len fold expect foldEn compare).mono (by simp)).trans
      ((State.setChk_kept _ _).mono (by simp))).trans ((State.set_kept _ _ _).mono (by simp))
  · exact ((State.chkSettings_regs s u poly start len fold expect foldEn compare _ (by simp)).trans (RegsKeptBut.of_regs rfl)).trans
      (State.set_regs_kept _ _ _ _ (key_mem_of_mem (by simp)))

/-- R538: GO while BUSY is lost. -/
theorem chkGo_busy_lost (hu : u < 4) (ho : s.ownerUp u = true) (hb : s.flag (Reg.CHK_STATUS.BUSY u) = true) :
    Answers (.chkGo u poly foldEn compare start len fold expect false) s (fun t =>
      t.get (Reg.CHK_STATUS.GO_LOST u) = 1 ∧ KeptBut [.regs] s t) := by
  refine ⟨_, exec_chkGo u poly start len fold expect foldEn compare false s hu ho, ?_⟩
  have hbusy : (s.chkSettings u poly start len fold expect foldEn compare).flag (Reg.CHK_STATUS.BUSY u) = true := by
    rw [State.flag, State.chkSettings_busy]; exact hb
  simp only [Bool.false_eq_true, if_false, State.checkGo, hbusy, if_true]
  exact ⟨State.get_set_same _ _ _, (State.chkSettings_kept s u poly start len fold expect foldEn compare).trans (State.set_kept _ _ _)⟩

/-- R539: GO on an empty range or one that leaves its region ends at once with error 1. -/
theorem chkGo_range_refused (hu : u < 4) (ho : s.ownerUp u = true) (hb : s.flag (Reg.CHK_STATUS.BUSY u) = false)
    (hr : rangeBad (start % 2 ^ 32) (len % 2 ^ 27) = true) :
    Answers (.chkGo u poly foldEn compare start len fold expect false) s (fun t =>
      t.get (Reg.CHK_STATUS.DONE u) = 1 ∧ t.get (Reg.CHK_STATUS.ERROR u) = 1 ∧ t.get (Reg.CHK_RESULT.VALUE u) = 0 ∧ t.get (Reg.CHK_STATUS.MATCH u) = 0
        ∧ t.get (Reg.CHK_STATUS.BUSY u) = 0 ∧ KeptBut [.chk, .regs] s t) := by
  refine ⟨_, exec_chkGo u poly start len fold expect foldEn compare false s hu ho, ?_⟩
  have hbusy : (s.chkSettings u poly start len fold expect foldEn compare).flag (Reg.CHK_STATUS.BUSY u) = false := by
    rw [State.flag, State.chkSettings_busy]; exact hb
  simp only [Bool.false_eq_true, if_false, State.checkGo, hbusy, State.chkSettings_start, State.chkSettings_len, hr, if_true]
  obtain ⟨he, -, hk, -⟩ := State.scanError_spec (s.chkSettings u poly start len fold expect foldEn compare) u 1
  exact ⟨he.done, he.error, he.result, he.matched, he.busy,
    ((State.chkSettings_kept s u poly start len fold expect foldEn compare).mono (by simp)).trans hk⟩

/-- ABORT of a unit that scans: it ends with error 5 within 16 cycles of its clock (R540). -/
theorem State.checkAbort_spec (hb : s.flag (Reg.CHK_STATUS.BUSY u) = true) :
    s.now ≤ (s.checkAbort u).now ∧ (s.checkAbort u).now ≤ s.now + 16 ∧ (s.checkAbort u).ScanEnded u 5 0 0 ∧ (s.checkAbort u).chk.scans.find u = none
      ∧ KeptBut [.now, .draws, .chk, .regs] s (s.checkAbort u) ∧ RegsKeptBut (scanFields u) s (s.checkAbort u) := by
  have heq : s.checkAbort u = ((s.wait (s.free % 17)).drawn).scanError u 5 := if_pos hb
  obtain ⟨he, hf, hk, hr⟩ := State.scanError_spec ((s.wait (s.free % 17)).drawn) u 5
  have hwait : KeptBut [.now, .draws, .chk, .regs] s (s.wait (s.free % 17)).drawn := by
    intro p hp; cases p <;> first | rfl | simp at hp
  have hnow : (s.checkAbort u).now = s.now + s.free % 17 := by rw [heq]; exact hk.now_eq (by simp)
  rw [heq] at hnow ⊢
  have := Nat.mod_lt s.free (show 17 > 0 by decide)
  exact ⟨by omega, by omega, he, hf, hwait.trans (hk.mono (by simp)), (RegsKeptBut.of_regs rfl).trans hr⟩

/-- R540: with ABORT in the same write the ABORT acts and the GO is ignored. -/
theorem chkGo_abort (hu : u < 4) (ho : s.ownerUp u = true) :
    Answers (.chkGo u poly foldEn compare start len fold expect true) s (fun t =>
      (s.flag (Reg.CHK_STATUS.BUSY u) = false → t.get (Reg.CHK_START.ADDRESS u) = start % 2 ^ 32 ∧ KeptBut [.regs] s t)
        ∧ (s.flag (Reg.CHK_STATUS.BUSY u) = true → t.chk.scans.find u = none ∧ t.get (Reg.CHK_STATUS.BUSY u) = 0 ∧ t.get (Reg.CHK_STATUS.ERROR u) = 5
          ∧ KeptBut [.now, .draws, .chk, .regs] s t)) := by
  refine ⟨_, exec_chkGo u poly start len fold expect foldEn compare true s hu ho, ?_⟩
  have hkept := State.chkSettings_kept s u poly start len fold expect foldEn compare
  have hbusy : (s.chkSettings u poly start len fold expect foldEn compare).flag (Reg.CHK_STATUS.BUSY u) = s.flag (Reg.CHK_STATUS.BUSY u) := by
    rw [State.flag, State.chkSettings_busy]; rfl
  simp only [if_true]
  refine ⟨fun hb => ?_, fun hb => ?_⟩
  · rw [State.checkAbort, hbusy, hb]
    exact ⟨State.chkSettings_start s u poly start len fold expect foldEn compare, hkept⟩
  · obtain ⟨-, -, he, hf, hk, -⟩ := State.checkAbort_spec _ u (hbusy.trans hb)
    exact ⟨hf, he.busy, he.error, (hkept.mono (by simp)).trans hk⟩

/-- R540: CHK_ABORT. -/
theorem chkAbort_stops (hu : u < 4) (ho : s.ownerUp u = true) (hb : s.flag (Reg.CHK_STATUS.BUSY u) = true) :
    Answers (.chkAbort u) s (fun t =>
      s.now ≤ t.now ∧ t.now ≤ s.now + 16 ∧ t.chk.scans.find u = none ∧ t.get (Reg.CHK_STATUS.BUSY u) = 0 ∧ t.get (Reg.CHK_STATUS.DONE u) = 1
        ∧ t.get (Reg.CHK_STATUS.ERROR u) = 5 ∧ t.get (Reg.CHK_RESULT.VALUE u) = 0 ∧ t.get (Reg.CHK_STATUS.MATCH u) = 0
        ∧ KeptBut [.now, .draws, .chk, .regs] s t ∧ RegsKeptBut [Reg.CHK_STATUS.BUSY u, Reg.CHK_STATUS.DONE u, Reg.CHK_STATUS.ERROR u,
            Reg.CHK_RESULT.VALUE u, Reg.CHK_STATUS.MATCH u] s t) := by
  obtain ⟨hlo, hhi, he, hf, hk, hr⟩ := State.checkAbort_spec s u hb
  exact ⟨_, if_pos ⟨hu, ho⟩, hlo, hhi, hf, he.busy, he.done, he.error, he.result, he.matched, hk, hr⟩
end

/-! #### Scans that end -/

/-- Without a corrected error no row is noted and no fault raised. -/
theorem State.scanCorrected_nil (s : State) (n : Nat) (c : CheckScan) (last : Nat) : s.scanCorrected n c last [] = s := by
  unfold State.scanCorrected
  split <;> rfl

theorem State.until_drawn_kept (s : State) (t : Nat) (ps : List Part) (hn : Part.now ∈ ps) (hd : Part.draws ∈ ps) : KeptBut ps s (s.until t).drawn := by
  intro p hp; cases p <;> first | rfl | exact absurd hn hp | exact absurd hd hp

/-- The check of the bytes of a scan, its fold word before them (R535, R538). -/
def State.scanValue (s : State) (c : CheckScan) : Nat :=
  polyCrc c.poly ((match c.fold with | some f => le 4 f | none => []) ++ (List.range c.len).map (fun i => s.scanByte (c.start + i)))

/-- The result of a whole scan that no injection touches. -/
theorem State.scanResult_eq (s : State) (u : Nat) (c : CheckScan) (h : s.armed (0x20 + u) = false) :
    s.scanResult u c = (s.setChk { s.chk with scans := s.chk.scans.erase u }).setAll [(Reg.CHK_STATUS.BUSY u, 0), (Reg.CHK_STATUS.DONE u, 1),
      (Reg.CHK_STATUS.ERROR u, 0), (Reg.CHK_RESULT.VALUE u, s.scanValue c), (Reg.CHK_STATUS.MATCH u, b2n (c.compare && s.scanValue c == c.expect))] := by
  obtain ⟨at_, start, len, poly, fold, compare, expect⟩ := c
  simp only [State.scanResult, h, Bool.false_eq_true, if_false, State.injectAt]
  cases fold <;> rfl

/-- R538, R541: a whole scan gives the check of its bytes. -/
theorem chkScanDone_whole (u : Nat) (c : CheckScan) (s : State) (hfind : s.chk.scans.find u = some c) (hoff : s.offAddress c = none)
    (harm : s.armed (0x20 + u) = false) :
    Answers (.chkScanDone u [] none) s (fun t =>
      let h := (s.until (c.at_ + s.scanTime c)).drawn
      let v := polyCrc c.poly ((match c.fold with | some f => le 4 f | none => []) ++ (List.range c.len).map (fun i => h.scanByte (c.start + i)))
      t.now = max s.now (c.at_ + s.scanTime c) ∧ t.chk.scans.find u = none ∧ t.get (Reg.CHK_STATUS.BUSY u) = 0 ∧ t.get (Reg.CHK_STATUS.DONE u) = 1
        ∧ t.get (Reg.CHK_STATUS.ERROR u) = 0 ∧ t.get (Reg.CHK_RESULT.VALUE u) = v % 2 ^ 32
        ∧ t.get (Reg.CHK_STATUS.MATCH u) = b2n (c.compare && v == c.expect)
        ∧ KeptBut [.now, .draws, .chk, .regs] s t ∧ RegsKeptBut [Reg.CHK_STATUS.BUSY u, Reg.CHK_STATUS.DONE u, Reg.CHK_STATUS.ERROR u,
            Reg.CHK_RESULT.VALUE u, Reg.CHK_STATUS.MATCH u] s t) := by
  generalize hh : (s.until (c.at_ + s.scanTime c)).drawn = h
  have hstop : h.scanStop c none = none := by
    have : h.offAddress c = none := by rw [← hh]; exact hoff
    simp [State.scanStop, this]
  have hunarmed : h.armed (0x20 + u) = false := by rw [← hh]; exact harm
  have hexec : exec (.chkScanDone u [] none) s = .next (h.scanResult u c) := by
    change execChkScanDone u [] none s = _
    rw [execChkScanDone, hfind]
    simp only [hh, hstop, State.scanCorrected_nil]
  have hend := State.scanEnded_setAll (h.setChk { h.chk with scans := h.chk.scans.erase u }) u 0 (h.scanValue c) (b2n (c.compare && h.scanValue c == c.expect))
  have hmatch : b2n (c.compare && h.scanValue c == c.expect) % 2 = b2n (c.compare && h.scanValue c == c.expect) := by
    cases (c.compare && h.scanValue c == c.expect) <;> rfl
  refine ⟨_, hexec.trans (by rw [State.scanResult_eq h u c hunarmed]), ?_, ?_, hend.busy, hend.done, hend.error, hend.result, hend.matched.trans hmatch, ?_, ?_⟩
  · simp [← hh]
  · simp [Assoc.find_erase_same]
  · refine (KeptBut.trans ?_ ((State.setChk_kept h _).mono (by simp))).trans ((State.setAll_kept _ _).mono (by simp))
    rw [← hh]
    exact State.until_drawn_kept s _ _ (by simp) (by simp)
  · refine (RegsKeptBut.of_regs ?_).trans (RegsKeptBut.setAll _ _ (by simp))
    rw [← hh]
    rfl

theorem scanFields_key (u : Nat) {f : Field} (hf : f ∈ scanFields u) : 0x40300000 * 32 ≤ f.key := by
  simp only [scanFields, List.mem_cons, List.not_mem_nil, or_false] at hf
  rcases hf with rfl | rfl | rfl | rfl | rfl <;>
    simp only [Field.key, Reg.CHK_STATUS.BUSY, Reg.CHK_STATUS.DONE, Reg.CHK_STATUS.ERROR, Reg.CHK_RESULT.VALUE, Reg.CHK_STATUS.MATCH] <;> omega

/-- R539: a bus error inside the range stops the scan and is raised. -/
theorem chkScanDone_bus_error (u a : Nat) (c : CheckScan) (s : State) (hfind : s.chk.scans.find u = some c) (hoff : s.offAddress c = none)
    (hlo : c.start ≤ a) (hhi : a < c.start + c.len) (hw : s.flt.windows = []) :
    Answers (.chkScanDone u [] (some (.bus a))) s (fun t =>
      t.chk.scans.find u = none ∧ t.get (Reg.CHK_STATUS.DONE u) = 1 ∧ t.get (Reg.CHK_STATUS.ERROR u) = 2 ∧ t.get (Reg.CHK_RESULT.VALUE u) = 0
        ∧ t.get (Reg.CHK_STATUS.MATCH u) = 0 ∧ t.flt.uncleared = s.flt.uncleared ++ [⟨s.flt.nextSeq, Src.busError, 2, a⟩]
        ∧ KeptBut [.now, .draws, .chk, .flt, .regs, .rings, .proto] s t) := by
  generalize hh : (s.until (c.at_ + s.scanTime c)).drawn = h
  have hstop : h.scanStop c (some (.bus a)) = some (2, a) := by
    have : h.offAddress c = none := by rw [← hh]; exact hoff
    simp [State.scanStop, this, hlo, hhi]
  have hexec : exec (.chkScanDone u [] (some (.bus a))) s = .next ((h.scanError u 2).fault Src.busError a 7 3) := by
    change execChkScanDone u [] (some (.bus a)) s = _
    rw [execChkScanDone, hfind]
    simp only [hh, hstop, State.scanCorrected_nil]
    rfl
  have hsh : KeptBut [.now, .draws] s h := by rw [← hh]; exact State.until_drawn_kept s _ _ (by simp) (by simp)
  obtain ⟨hend, hgone, hk, -⟩ := State.scanError_spec h u 2
  have hflt : (h.scanError u 2).flt = s.flt := (hk .flt (by simp)).trans (hsh .flt (by simp))
  obtain ⟨hcoll, hunc⟩ := State.fault_contained (h.scanError u 2) Src.busError a 7 3 (by decide) (by decide) (by rw [hflt]; exact hw)
  have hget : ∀ f ∈ scanFields u, ((h.scanError u 2).fault Src.busError a 7 3).get f = (h.scanError u 2).get f :=
    fun f hf => hcoll.2 f (checks_not_collector f 2 (scanFields_key u hf))
  refine ⟨_, hexec, ?_, ?_, ?_, ?_, ?_, ?_, ?_⟩
  · rw [show ((h.scanError u 2).fault Src.busError a 7 3).chk = (h.scanError u 2).chk from hcoll.1 .chk (by simp)]
    exact hgone
  · exact (hget _ (by simp)).trans hend.done
  · exact (hget _ (by simp)).trans hend.error
  · exact (hget _ (by simp)).trans hend.result
  · exact (hget _ (by simp)).trans hend.matched
  · rw [hunc, hflt]
  · exact ((hsh.mono (by simp)).trans (hk.mono (by simp))).trans (hcoll.1.mono (by simp))

end Sys2Proof.Machine

namespace Sys2Proof.Machine

/-! ### Crossings (R545, R546) -/

theorem State.wait_kept (s : State) (n : Nat) : KeptBut [.now] s (s.wait n) := by
  intro p hp; cases p <;> first | rfl | simp at hp

theorem State.resetCrossings_kept (s : State) (l : List Nat) : KeptBut [.chk] s (s.resetCrossings l) := by
  intro p hp; cases p <;> first | rfl | simp at hp

/-- A saturating counter raised by several changes itself and its flag, and may send an event. -/
theorem Quiet.bumpBy (s : State) (f sat : Field) (n : Nat) (fs : List Field) (hf : f ∈ fs) (hs : sat ∈ fs) : Quiet fs s (s.bumpBy f sat n) := by
  unfold State.bumpBy
  dsimp only
  split
  · exact Quiet.refl fs s
  · split
    · exact ((Quiet.set s f _ fs (key_mem_of_mem hf)).trans (Quiet.set _ sat _ fs (key_mem_of_mem hs))).trans (Quiet.event _ _ _ fs)
    · exact Quiet.set s f _ fs (key_mem_of_mem hf)

/-- A saturating counter that stays below its greatest value is raised by the whole number. -/
theorem State.get_bumpBy (s : State) (f sat : Field) (n : Nat) (h : s.get f + n < f.max) : (s.bumpBy f sat n).get f = s.get f + n := by
  have hw : s.get f + n < 2 ^ f.width := by unfold Field.max at h; omega
  unfold State.bumpBy
  dsimp only
  split
  · omega
  · rw [if_neg (by omega), State.get_set_same, Nat.mod_eq_of_lt hw]

@[simp] theorem State.bumpBy_zero (s : State) (f sat : Field) : s.bumpBy f sat 0 = s := by simp [State.bumpBy]

/-- The registers that count the items a crossing discards. -/
abbrev flushFields (x : Nat) : List Field := [Reg.CHK_XING_FLUSH.COUNT x, Reg.CHK_FLAGS.CNT_SAT]

/-- Discarding items: what it changes, and what the crossing's record holds then. -/
theorem State.flushItems_spec (s : State) (x items : Nat) :
    KeptBut [.chk, .regs, .rings, .proto] s (s.flushItems x items) ∧ RegsKeptBut (flushFields x) s (s.flushItems x items)
      ∧ (s.flushItems x items).chk = { s.chk with resets := s.chk.resets.insert x ((s.chk.resets.find x).getD 0 + items) } := by
  obtain ⟨hk, hr⟩ := Quiet.bumpBy s (Reg.CHK_XING_FLUSH.COUNT x) Reg.CHK_FLAGS.CNT_SAT items (flushFields x) (by simp) (by simp)
  have hchk : (s.bumpBy (Reg.CHK_XING_FLUSH.COUNT x) Reg.CHK_FLAGS.CNT_SAT items).chk = s.chk := hk .chk (by decide)
  refine ⟨(hk.mono (by decide)).trans ((State.setChk_kept _ _).mono (by decide)), hr.trans (RegsKeptBut.of_regs rfl), ?_⟩
  rw [State.flushItems, State.setChk_chk, hchk]

theorem xingFlush_key (x : Nat) : 0x40300000 * 32 ≤ (Reg.CHK_XING_FLUSH.COUNT x).key := by
  simp only [Field.key, Reg.CHK_XING_FLUSH.COUNT]; omega

/-- R546: a wait of 1.8 ms or less is no fault. -/
theorem crossingStall_short (x n items : Nat) (s : State) (hn : n ≤ us 1800) :
    Answers (.crossingStall x n items) s (fun t => s.now ≤ t.now ∧ t.now ≤ s.now + n ∧ KeptBut [.now] s t) := by
  by_cases hc : s.crossingRuns x = true ∧ x ≠ 11 ∧ x ≠ 13
  · have hband : band 546 (s.wait n).now (us 1800) (us 2200) n = false := by
      have : ¬ us 2200 ≤ n := by unfold us at *; omega
      simp [band, this, hn]
    have hexec : exec (.crossingStall x n items) s = .next (s.wait n) := by
      refine (if_pos hc).trans ?_
      dsimp only
      rw [hband]
      rfl
    exact ⟨_, hexec, by simp, by simp, State.wait_kept s n⟩
  · exact ⟨s, if_neg hc, Nat.le_refl _, Nat.le_add_right _ _, KeptBut.refl _ s⟩

/-- R546: a wait of 2.2 ms resets the crossing, counts the items in flight, sets its bit and raises CROSSING_OVERRUN. -/
theorem crossingStall_long (x n items : Nat) (s : State) (hruns : s.crossingRuns x = true) (h11 : x ≠ 11) (h13 : x ≠ 13) (hn : us 2200 ≤ n)
    (hw : s.flt.windows = []) :
    Answers (.crossingStall x n items) s (fun t =>
      t.now = s.now + n ∧ t.chk.resets.find x = some items ∧ bit (t.get Reg.CHK_XING_STALL.MAP) x = true
        ∧ t.flt.uncleared = s.flt.uncleared ++ [⟨s.flt.nextSeq, Src.crossingOverrun, 2, x⟩]
        ∧ (s.get (Reg.CHK_XING_FLUSH.COUNT x) + items < (Reg.CHK_XING_FLUSH.COUNT x).max →
            t.get (Reg.CHK_XING_FLUSH.COUNT x) = s.get (Reg.CHK_XING_FLUSH.COUNT x) + items)
        ∧ KeptBut [.now, .chk, .flt, .regs, .rings, .proto] s t) := by
  have hparts := hruns
  simp only [State.crossingRuns, Bool.and_eq_true, Option.isNone_iff_eq_none] at hparts
  obtain ⟨hpow, hidle⟩ := hparts
  have hx : x < 16 := by
    simp only [State.crossingPowered, Bool.and_eq_true, decide_eq_true_eq] at hpow
    exact hpow.1.1
  have hband : band 546 (s.wait n).now (us 1800) (us 2200) n = true := if_pos hn
  generalize hr : (s.wait n).resetCrossings [x] = r
  generalize hf : r.flushItems x items = f
  generalize hm : f.set Reg.CHK_XING_STALL.MAP (f.get Reg.CHK_XING_STALL.MAP ||| 2 ^ x) = m
  have hexec : exec (.crossingStall x n items) s = .next (m.fault Src.crossingOverrun x 15 5) := by
    refine (if_pos ⟨hruns, h11, h13⟩).trans ?_
    dsimp only
    rw [hband, hr, hf, hm]
    rfl
  have hsr : KeptBut [.now, .chk] s r := by
    rw [← hr]
    exact ((State.wait_kept s n).mono (by simp)).trans ((State.resetCrossings_kept _ _).mono (by simp))
  have hrx : r.chk.resets.find x = some 0 := by
    rw [← hr]
    simp [State.resetCrossings, hidle]
  obtain ⟨hfk, hfr, hfchk⟩ := State.flushItems_spec r x items
  rw [hf] at hfk hfr hfchk
  have hmk : KeptBut [.regs] f m := by rw [← hm]; exact State.set_kept f _ _
  have hsm : KeptBut [.now, .chk, .regs, .rings, .proto] s m := ((hsr.mono (by simp)).trans (hfk.mono (by simp))).trans (hmk.mono (by simp))
  have hmflt : m.flt = s.flt := hsm .flt (by simp)
  obtain ⟨⟨hck, hcr⟩, hunc⟩ := State.fault_contained m Src.crossingOverrun x 15 5 (by decide) (by decide) (by rw [hmflt]; exact hw)
  refine ⟨_, hexec, ?_, ?_, ?_, ?_, ?_, ?_⟩
  · have hnow : m.now = r.now := (hmk .now (by simp)).trans (hfk .now (by simp))
    rw [State.fault_now, hnow, ← hr]
    rfl
  · have : (m.fault Src.crossingOverrun x 15 5).chk = f.chk := (hck .chk (by simp)).trans (hmk .chk (by simp))
    rw [this, hfchk]
    simp [hrx]
  · rw [hcr _ (checks_not_collector _ 2 (by decide)), ← hm, State.get_set_same]
    simp only [bit, Nat.testBit_mod_two_pow, Nat.testBit_or, Nat.testBit_two_pow_self, Bool.or_true, Bool.and_true, decide_eq_true_eq]
    exact hx
  · rw [hunc, hmflt]
  · intro hlt
    have hmf : m.get (Reg.CHK_XING_FLUSH.COUNT x) = f.get (Reg.CHK_XING_FLUSH.COUNT x) := by
      rw [← hm]
      refine State.get_set_other _ _ _ _ ?_
      simp only [Field.key, Reg.CHK_XING_FLUSH.COUNT, Reg.CHK_XING_STALL.MAP]
      omega
    have hrs : r.get (Reg.CHK_XING_FLUSH.COUNT x) = s.get (Reg.CHK_XING_FLUSH.COUNT x) := by
      rw [← hr]; rfl
    have hfr' : f.get (Reg.CHK_XING_FLUSH.COUNT x) = r.get (Reg.CHK_XING_FLUSH.COUNT x) + items := by
      rw [← hf]
      exact State.get_bumpBy r _ _ items (by rw [hrs]; exact hlt)
    rw [hcr _ (checks_not_collector _ 2 (xingFlush_key x)), hmf, hfr', hrs]
  · exact (hsm.mono (by simp)).trans (hck.mono (by simp))

/-- CROSSING_RESET_DONE of a crossing that is held in reset and powered. -/
theorem exec_crossingResetDone (x n items : Nat) (s : State) (hn : s.chk.resets.find x = some n) (hp : s.crossingPowered x = true) :
    exec (.crossingResetDone x items) s = .next (
      if n + items ≠ 0 then
        ((s.flushItems x items).setChk { (s.flushItems x items).chk with
          resets := (s.flushItems x items).chk.resets.erase x, pulses := if x = 10 then 0 else (s.flushItems x items).chk.pulses }).fault
          Src.crossingFlush x 15 5
      else (s.flushItems x items).setChk { (s.flushItems x items).chk with
          resets := (s.flushItems x items).chk.resets.erase x, pulses := if x = 10 then 0 else (s.flushItems x items).chk.pulses }) := by
  obtain ⟨-, -, hchk⟩ := State.flushItems_spec s x items
  change execCrossingResetDone x items s = _
  rw [execCrossingResetDone, hn]
  simp only [hp, Bool.not_true, Bool.false_eq_true, if_false, hchk, Assoc.find_insert_same, hn, Option.getD_some, bne_iff_ne]

/-- R545: a crossing that discarded nothing is released, and nothing else happens. -/
theorem crossingResetDone_clean (x n items : Nat) (s : State) (hn : s.chk.resets.find x = some n) (hp : s.crossingPowered x = true)
    (h0 : n + items = 0) :
    Answers (.crossingResetDone x items) s (fun t => t.chk.resets.find x = none ∧ t.chk.scans = s.chk.scans ∧ KeptBut [.chk] s t) := by
  obtain rfl : items = 0 := by omega
  obtain ⟨-, -, hchk⟩ := State.flushItems_spec s x 0
  refine ⟨_, (exec_crossingResetDone x n 0 s hn hp).trans (by rw [if_neg (by simpa using h0)]), ?_, ?_, ?_⟩
  · simp [Assoc.find_erase_same]
  · simp [hchk]
  · have hflush : s.flushItems x 0 = s.setChk (s.flushItems x 0).chk := by simp [State.flushItems]
    rw [hflush]
    exact (State.setChk_kept s _).trans (State.setChk_kept _ _)

/-- A crossing without power at both sides stays as it is. -/
theorem crossingResetDone_unpowered (x items : Nat) (s : State) (hp : s.crossingPowered x = false) :
    Answers (.crossingResetDone x items) s (fun t => t = s) := by
  refine ⟨s, ?_, rfl⟩
  change execCrossingResetDone x items s = _
  unfold execCrossingResetDone
  split
  · rfl
  · simp [hp]

/-- R545: a crossing that discarded items raises CROSSING_FLUSH, which its class counts once. -/
theorem crossingResetDone_flushed (x n items : Nat) (s : State) (hn : s.chk.resets.find x = some n) (hp : s.crossingPowered x = true)
    (h0 : n + items ≠ 0) :
    Answers (.crossingResetDone x items) s (fun t =>
      t.chk.resets.find x = none
        ∧ (s.get Reg.FLT_CORRECTED_COUNT.COUNT < Reg.FLT_CORRECTED_COUNT.COUNT.max → t.get Reg.FLT_CORRECTED_COUNT.COUNT = s.get Reg.FLT_CORRECTED_COUNT.COUNT + 1)
        ∧ KeptBut [.chk, .flt, .regs, .rings, .proto] s t) := by
  obtain ⟨hfk, hfr, -⟩ := State.flushItems_spec s x items
  have hexec := (exec_crossingResetDone x n items s hn hp).trans (by rw [if_pos h0])
  generalize hc : (s.flushItems x items).setChk { (s.flushItems x items).chk with
    resets := (s.flushItems x items).chk.resets.erase x, pulses := if x = 10 then 0 else (s.flushItems x items).chk.pulses } = c at hexec
  have hsc : KeptBut [.chk, .regs, .rings, .proto] s c := by rw [← hc]; exact hfk.trans ((State.setChk_kept _ _).mono (by simp))
  have hcount := State.fault_corrected c Src.crossingFlush x 15 5 (by decide) (by decide)
  have hsub := hcount.collected.1
  refine ⟨_, hexec, ?_, fun hlt => ?_, (hsc.mono (by simp)).trans (hsub.mono (by simp))⟩
  · rw [show (c.fault Src.crossingFlush x 15 5).chk = c.chk from hsub .chk (by simp), ← hc]
    exact Assoc.find_erase_same _ _
  · have hget : c.get Reg.FLT_CORRECTED_COUNT.COUNT = s.get Reg.FLT_CORRECTED_COUNT.COUNT := by
      rw [← hc]
      refine hfr _ ?_
      simp [flushFields, eventFields, Field.key, Reg.CHK_XING_FLUSH.COUNT, Reg.CHK_FLAGS.CNT_SAT, Reg.FLT_CORRECTED_COUNT.COUNT, Reg.SYS_FLAGS.EVT_LOST,
        Reg.SYS_FLAGS.CNT_SAT, Reg.SYS_EVENT_DROP_COUNT.COUNT, Reg.FLT_IRQ_STATUS.CAUSE]
      omega
    rw [hcount.get (by rw [hget]; exact hlt) (by decide), hget]

/-! ### Reaction windows (R415) -/

theorem State.setFlt_kept (s : State) (c : Collector) : KeptBut [.flt] s (s.setFlt c) := by
  intro p hp; cases p <;> first | rfl | simp at hp

theorem State.faultFollow_kept (s : State) : KeptBut [.regs] s s.faultFollow := (State.setAll_kept _ s).trans (State.set_kept _ _ _)

theorem State.dropWindow_kept (s : State) (k i : Nat) : KeptBut [.flt, .regs] s (s.dropWindow k i) :=
  ((State.setFlt_kept s _).mono (by simp)).trans ((State.faultFollow_kept _).mono (by simp))

/-- A list of windows without those of a reaction and an item. -/
theorem windows_filtered (l : List Window) (k i : Nat) :
    ∀ x ∈ l.filter (fun (w : Window) => !(w.reaction == k && w.item == i)), ¬ (x.reaction = k ∧ x.item = i) := by
  intro x hx hc
  have h := (List.mem_filter.1 hx).2
  simp [hc.1, hc.2] at h

theorem State.dropWindow_windows (s : State) (k i : Nat) : ∀ x ∈ (s.dropWindow k i).flt.windows, ¬ (x.reaction = k ∧ x.item = i) := by
  rw [State.dropWindow, State.faultFollow_flt]
  exact windows_filtered _ k i

theorem State.endRebuild_windows (s : State) (bank : Nat) (b : Bool) : ∀ x ∈ (s.endRebuild bank b).flt.windows, ¬ (x.reaction = 4 ∧ x.item = bank) := by
  rw [State.endRebuild, State.faultFollow_flt]
  exact windows_filtered _ 4 bank

/-- REACTION_WINDOW_CLOSE is executed by the collector. -/
theorem exec_reactionWindowClose (k item : Nat) (s : State) : exec (.reactionWindowClose k item) s = execReactionWindowClose k item s := rfl

section
variable (item : Nat) (w : Window) (s : State)

/-- LINK_RESET closes once the link is live again, at the latest 250 ms after it began. -/
theorem linkWindow_closes (hw : s.flt.windows.find? (fun w => w.reaction == 2 && w.item == item) = some w) :
    ∃ t, exec (.reactionWindowClose 2 item) s = .next t ∧ t.now = (if s.get Reg.LNK_STATUS.INPUT = 2 then s.now else max s.now (w.opened + ms 250))
      ∧ (∀ x ∈ t.flt.windows, ¬ (x.reaction = 2 ∧ x.item = item)) ∧ KeptBut [.now, .flt, .regs] s t := by
  generalize hu : (if s.get Reg.LNK_STATUS.INPUT = 2 then s else s.until (w.opened + ms 250)) = u
  have hexec : exec (.reactionWindowClose 2 item) s = .next (u.dropWindow 2 item) := by
    rw [exec_reactionWindowClose]
    unfold execReactionWindowClose
    rw [hw]
    dsimp only
    rw [hu]
    rfl
  have hsu : KeptBut [.now] s u := by
    rw [← hu]
    split
    · exact KeptBut.refl _ s
    · intro p hp; cases p <;> first | rfl | simp at hp
  refine ⟨_, hexec, ?_, State.dropWindow_windows _ _ _, (hsu.mono (by simp)).trans ((State.dropWindow_kept u 2 item).mono (by simp))⟩
  rw [State.dropWindow_now, ← hu, now_ite]
  rfl

/-- CORE_RESTART closes as the core runs again. -/
theorem coreWindow_closes (hw : s.flt.windows.find? (fun w => w.reaction == 3 && w.item == item) = some w) :
    ∃ t, exec (.reactionWindowClose 3 item) s = .next t ∧ s.now ≤ t.now ∧ (∀ x ∈ t.flt.windows, ¬ (x.reaction = 3 ∧ x.item = item)) := by
  obtain ⟨n, hexec⟩ : ∃ n, exec (.reactionWindowClose 3 item) s = .next (((s.until n).drawn.coreBack item).dropWindow 3 item) := by
    rw [exec_reactionWindowClose]
    unfold execReactionWindowClose
    rw [hw]
    exact ⟨_, rfl⟩
  refine ⟨_, hexec, ?_, State.dropWindow_windows _ _ _⟩
  rw [State.dropWindow_now]
  exact Nat.le_trans (show s.now ≤ (s.until n).drawn.now from Nat.le_max_left _ _) (State.le_coreBack_now (s.until n).drawn item)

/-- BANK_REBUILD closes within its bound (Table 14-6). -/
theorem bankWindow_closes (hw : s.flt.windows.find? (fun w => w.reaction == 4 && w.item == item) = some w) :
    ∃ t, exec (.reactionWindowClose 4 item) s = .next t ∧ s.now ≤ t.now ∧ t.now ≤ max s.now (w.opened + s.rebuildBound item)
      ∧ (∀ x ∈ t.flt.windows, ¬ (x.reaction = 4 ∧ x.item = item)) := by
  generalize hu : (s.until (w.opened + s.free % (s.rebuildBound item + 1))).drawn = u
  have hexec : exec (.reactionWindowClose 4 item) s = .next (u.endRebuild item true) := by
    rw [exec_reactionWindowClose]
    unfold execReactionWindowClose
    rw [hw]
    dsimp only
    rw [hu]
    rfl
  have hnow : (u.endRebuild item true).now = max s.now (w.opened + s.free % (s.rebuildBound item + 1)) := by
    rw [State.endRebuild_now, ← hu]; rfl
  have := Nat.mod_lt s.free (show s.rebuildBound item + 1 > 0 by omega)
  exact ⟨_, hexec, by omega, by omega, State.endRebuild_windows u item true⟩

/-- The window of lock-out closes between 10 ms after it opened and 20 ms, or the bound that two boundaries give. -/
theorem lockoutWindow_closes (hw : s.flt.windows.find? (fun w => w.reaction == 6 && w.item == item) = some w) :
    ∃ t, exec (.reactionWindowClose 6 item) s = .next t ∧ s.now ≤ t.now ∧ w.opened + ms 10 ≤ t.now ∧ KeptBut [.now, .draws, .flt, .regs] s t
      ∧ (s.get Reg.SAF_LOCKOUT.CHANNEL = 2 → t.now ≤ max s.now (w.opened + ms 20))
      ∧ (∀ x ∈ t.flt.windows, ¬ (x.reaction = 6 ∧ x.item = item)) := by
  generalize hb : (if s.get Reg.SAF_LOCKOUT.CHANNEL = 2 then ms 10 else 2 * s.period + ms 1) = bound
  generalize hu : (s.until (w.opened + s.free % (bound + 1) + ms 10)).drawn = u
  have hexec : exec (.reactionWindowClose 6 item) s = .next (u.dropWindow 6 item) := by
    rw [exec_reactionWindowClose]
    unfold execReactionWindowClose
    rw [hw]
    dsimp only
    rw [hb, hu]
    rfl
  have hnow : (u.dropWindow 6 item).now = max s.now (w.opened + s.free % (bound + 1) + ms 10) := by
    rw [State.dropWindow_now, ← hu]; rfl
  have hmod := Nat.mod_lt s.free (show bound + 1 > 0 by omega)
  refine ⟨_, hexec, by omega, by omega, ?_, fun hch => ?_, State.dropWindow_windows _ _ _⟩
  · refine KeptBut.trans ?_ ((State.dropWindow_kept u 6 item).mono (by simp))
    rw [← hu]
    exact State.until_drawn_kept s _ _ (by simp) (by simp)
  · have : bound = ms 10 := by rw [← hb, if_pos hch]
    unfold ms at *
    omega
end

/-- R415: a reaction's window closes in its time. -/
theorem reactionWindowClose_closes (k item : Nat) (w : Window) (s : State)
    (hw : s.flt.windows.find? (fun w => w.reaction == k && w.item == item) = some w) (hk : k ∈ [2, 3, 4, 6]) :
    Answers (.reactionWindowClose k item) s (fun t =>
      s.now ≤ t.now ∧ (∀ x ∈ t.flt.windows, ¬ (x.reaction = k ∧ x.item = item))
        ∧ (k = 2 → t.now = (if s.get Reg.LNK_STATUS.INPUT = 2 then s.now else max s.now (w.opened + ms 250)) ∧ KeptBut [.now, .flt, .regs] s t)
        ∧ (k = 4 → t.now ≤ max s.now (w.opened + s.rebuildBound item))
        ∧ (k = 6 → w.opened + ms 10 ≤ t.now ∧ KeptBut [.now, .draws, .flt, .regs] s t
          ∧ (s.get Reg.SAF_LOCKOUT.CHANNEL = 2 → t.now ≤ max s.now (w.opened + ms 20)))) := by
  simp only [List.mem_cons, List.not_mem_nil, or_false] at hk
  rcases hk with rfl | rfl | rfl | rfl
  · obtain ⟨t, he, hnow, hwin, hkept⟩ := linkWindow_closes item w s hw
    refine ⟨t, he, ?_, hwin, fun _ => ⟨hnow, hkept⟩, by simp, by simp⟩
    rw [hnow]; split <;> omega
  · obtain ⟨t, he, hnow, hwin⟩ := coreWindow_closes item w s hw
    exact ⟨t, he, hnow, hwin, by simp, by simp, by simp⟩
  · obtain ⟨t, he, hlo, hhi, hwin⟩ := bankWindow_closes item w s hw
    exact ⟨t, he, hlo, hwin, by simp, fun _ => hhi, by simp⟩
  · obtain ⟨t, he, hlo, h10, hkept, h20, hwin⟩ := lockoutWindow_closes item w s hw
    exact ⟨t, he, hlo, hwin, by simp, by simp, fun _ => ⟨h10, hkept, h20⟩⟩

end Sys2Proof.Machine

namespace Sys2Proof.Machine

/-! ### Replies: what stands in a ring stays there, and the entries kept for a reply stay free (R40, R281) -/

/-- Every packet of every ring is still there. -/
def RingsGrow (s t : State) : Prop := ∀ n, ∀ p ∈ s.ring n, p ∈ t.ring n

theorem RingsGrow.of_rings {s t : State} (h : t.rings = s.rings) : RingsGrow s t := fun n p hp => by rwa [State.ring, h]
theorem RingsGrow.refl (s : State) : RingsGrow s s := fun _ _ hp => hp
theorem RingsGrow.trans {s t u : State} (h : RingsGrow s t) (k : RingsGrow t u) : RingsGrow s u := fun n p hp => k n p (h n p hp)

/-- The entries kept for the reply of a request are free. -/
def State.KeptFree (s : State) : Prop := ∀ n k, s.proto.reserved = some (n, k) → (s.ring n).length + k ≤ 64

/-- What an event does to the rings: packets are added, and the entries kept for a reply stay kept and free. -/
structure RingsTake (s t : State) : Prop where
  grow : RingsGrow s t
  reserved : t.proto.reserved = s.proto.reserved
  free : s.KeptFree → t.KeptFree

theorem RingsTake.refl (s : State) : RingsTake s s := ⟨RingsGrow.refl s, rfl, id⟩
theorem RingsTake.trans {s t u : State} (h : RingsTake s t) (k : RingsTake t u) : RingsTake s u :=
  ⟨h.grow.trans k.grow, k.reserved.trans h.reserved, fun f => k.free (h.free f)⟩
theorem RingsTake.of_rings {s t : State} (h : t.rings = s.rings) (hr : t.proto.reserved = s.proto.reserved) : RingsTake s t :=
  ⟨RingsGrow.of_rings h, hr, fun f n k hk => by rw [State.ring, h]; exact f n k (hr ▸ hk)⟩
theorem RingsTake.setLost (s : State) (n v : Nat) : RingsTake s (s.setLost n v) := RingsTake.of_rings rfl rfl
theorem RingsTake.set (s : State) (f : Field) (v : Nat) : RingsTake s (s.set f v) := RingsTake.of_rings rfl rfl

theorem State.ring_setRing_same (s : State) (n : Nat) (q : List Packet) : (s.setRing n q).ring n = q := by simp [State.ring]
theorem State.ring_setRing_other (s : State) {n m : Nat} (q : List Packet) (h : m ≠ n) : (s.setRing n q).ring m = s.ring m :=
  Assoc.get_set_other _ _ _ h

/-- A push adds at most its packet to its ring. -/
theorem RingsGrow.push (s : State) (n : Nat) (p : Packet) : RingsGrow s (s.push n p) := by
  intro m q hq
  unfold State.push
  split
  · by_cases hm : m = n
    · subst hm; rw [State.ring_setRing_same]; exact List.mem_append_left _ hq
    · rwa [State.ring_setRing_other s _ hm]
  · exact hq

/-- A push into a ring with room puts its packet there. -/
theorem State.mem_ring_push (s : State) (n : Nat) (p : Packet) (h : (s.ring n).length < 64) : p ∈ (s.push n p).ring n := by
  rw [State.push, if_pos (by simpa [State.ringRoom] using h), State.ring_setRing_same]
  simp

/-- Where an event may enter, the entries kept for a reply stay free. -/
theorem RingsTake.push {s : State} {n : Nat} (p : Packet) (h : s.eventRoom n = true) : RingsTake s (s.push n p) := by
  have hres : (s.push n p).proto.reserved = s.proto.reserved := by unfold State.push; split <;> rfl
  refine ⟨RingsGrow.push s n p, hres, fun hf m k hk => ?_⟩
  rw [hres] at hk
  have hmk := hf m k hk
  unfold State.push
  split
  · by_cases hm : m = n
    · subst hm
      rw [State.ring_setRing_same]
      simp [State.eventRoom, hk] at h
      simp
      omega
    · rwa [State.ring_setRing_other s _ hm]
  · exact hmk

theorem RingsTake.placeEvent {s : State} {n : Nat} (pos o : Nat) (b : List Byte) (h : s.eventRoom n = true) : RingsTake s (s.placeEvent pos n o b) :=
  (RingsTake.push _ h).trans (RingsTake.of_rings rfl rfl)

theorem RingsTake.placeLost (s : State) (n : Nat) : RingsTake s (s.placeLost n) := by
  unfold State.placeLost
  dsimp only
  split
  · exact RingsTake.refl s
  · split
    case isTrue h => exact (RingsTake.placeEvent _ _ _ h).trans (RingsTake.setLost _ _ _)
    case isFalse => exact RingsTake.refl s

theorem RingsTake.bumpQuiet (s : State) (f sat : Field) : RingsTake s (s.bumpQuiet f sat).1 := by
  unfold State.bumpQuiet
  dsimp only
  split
  · exact RingsTake.refl s
  · split
    · exact (RingsTake.set s _ _).trans (RingsTake.set _ _ _)
    · exact RingsTake.set s _ _

theorem RingsTake.eventRing (s : State) (pos n o : Nat) (b : List Byte) : RingsTake s (s.eventRing pos n o b).1 := by
  unfold State.eventRing
  dsimp only
  split
  case isTrue h => exact ((RingsTake.placeLost s n).trans (RingsTake.placeEvent _ _ _ h)).trans (RingsTake.set _ _ _)
  case isFalse =>
    exact (((RingsTake.placeLost s n).trans (RingsTake.setLost _ _ _)).trans (RingsTake.set _ _ _)).trans (RingsTake.bumpQuiet _ _ _)

theorem RingsTake.eventRingList (pos o : Nat) (b : List Byte) (l : List Nat) : ∀ s : State, RingsTake s (s.eventRingList pos o b l).1 := by
  induction l with
  | nil => exact RingsTake.refl
  | cons n l ih => intro s; exact (RingsTake.eventRing s pos n o b).trans (ih _)

theorem RingsTake.event (s : State) (o : Nat) (b : List Byte) : RingsTake s (s.event o b) := by
  unfold State.event State.eventOf
  split
  · dsimp only
    split
    · exact (RingsTake.eventRingList _ _ _ _ s).trans (RingsTake.eventRingList _ _ _ _ _)
    · exact RingsTake.eventRingList _ _ _ _ s
  · exact RingsTake.of_rings rfl rfl

theorem RingsTake.bump (s : State) (f sat : Field) : RingsTake s (s.bump f sat) := by
  unfold State.bump
  dsimp only
  split
  · exact (RingsTake.bumpQuiet s f sat).trans (RingsTake.event _ _ _)
  · exact RingsTake.bumpQuiet s f sat

theorem RingsGrow.countCmd (s : State) (sent : Bool) (st : Status) : RingsGrow s (s.countCmd sent st) := by
  unfold State.countCmd State.countErr
  refine RingsGrow.trans (RingsTake.bump s Reg.SYS_CMD_COUNT.COUNT Reg.SYS_FLAGS.CNT_SAT).grow ?_
  split
  · exact (RingsTake.bump _ _ _).grow
  · exact RingsGrow.refl _

theorem RingsGrow.reserve (s : State) (x : Option (Nat × Nat)) : RingsGrow s (s.reserve x) := RingsGrow.of_rings rfl
theorem RingsGrow.keep (s : State) (n : Nat) (e : Executed) : RingsGrow s (s.keep n e) := RingsGrow.of_rings rfl

theorem RingsGrow.passOn (s : State) (op : Op) (r : Req) : RingsGrow s (s.passOn op r) :=
  RingsGrow.of_rings (State.cascadeForward_kept s _ _ _ .rings (by simp))

/-! ### The handler's state and the reply of its answer -/

section
variable (s : State) (op : Op) (r : Req)

theorem State.atHandler_kept : KeptBut [.now, .pwr, .proto] s (s.atHandler op r) := by
  unfold State.atHandler
  split <;> intro p hp <;> cases p <;> first | rfl | simp at hp

@[simp] theorem State.atHandler_regs : (s.atHandler op r).regs = s.regs := State.atHandler_kept s op r .regs (by simp)
@[simp] theorem State.atHandler_rings : (s.atHandler op r).rings = s.rings := State.atHandler_kept s op r .rings (by simp)
@[simp] theorem State.atHandler_id : (s.atHandler op r).id = s.id := State.atHandler_kept s op r .id (by simp)
@[simp] theorem State.atHandler_bus : (s.atHandler op r).bus = s.bus := State.atHandler_kept s op r .bus (by simp)
@[simp] theorem State.atHandler_get (f : Field) : (s.atHandler op r).get f = s.get f := by rw [State.get, State.atHandler_regs]; rfl
@[simp] theorem State.atHandler_follower : (s.atHandler op r).follower = s.follower := by rw [State.follower, State.atHandler_id]; rfl
@[simp] theorem State.atHandler_power : (s.atHandler op r).power = s.power := State.atHandler_get s op r _

theorem State.atHandler_reserved : (s.atHandler op r).proto.reserved = some (r.ring + 8, replySpan op.code) := rfl

@[simp] theorem State.atHandler_now : (s.atHandler op r).now = s.now + r.wait := by
  unfold State.atHandler
  split <;> rfl

/-- A request is executed only where its reply has room (R281). -/
theorem State.atHandler_keptFree (h : s.executes r.ring op.code = true) : (s.atHandler op r).KeptFree := by
  intro n k hk
  rw [State.atHandler_reserved] at hk
  obtain ⟨rfl, rfl⟩ := Prod.mk.inj (Option.some.inj hk)
  rw [State.ring, State.atHandler_rings]
  simp only [State.executes, Bool.and_eq_true, decide_eq_true_eq] at h
  exact h.2

/-- A request that is accepted: after its reply was placed the rings only grow. -/
theorem State.command_rings (h : s.accepts op r) : RingsGrow ((op.run r (s.atHandler op r)).place s.tag op r) (s.command op r) := by
  obtain ⟨hv, he, hr, hc, ht, hb⟩ := h
  generalize hw : (if s.flag Reg.PWR_STATE.SERVICE then (s.wait r.wait).setPwr { s.pwr with servicePacket := s.now + r.wait }
    else s.wait r.wait) = w
  have hs : (if (s.wait r.wait).flag Reg.PWR_STATE.SERVICE then
      (s.wait r.wait).setPwr { (s.wait r.wait).pwr with servicePacket := (s.wait r.wait).now } else s.wait r.wait) = w := hw
  have hh : s.atHandler op r = w.reserve (some (r.ring + 8, replySpan op.code)) := by rw [← hw]; rfl
  have hexec : w.executes r.ring op.code = true := Eq.trans (b := s.executes r.ring op.code) (by rw [← hw]; split <;> rfl) he
  have hroom : w.cascadeRoom (if w.widened op.code then 0x0F else r.target) = true :=
    Eq.trans (b := s.cascadeRoom (if s.widened op.code then 0x0F else r.target)) (by rw [← hw]; split <;> rfl) hc
  have hbar : (s.atHandler op r).barred op r = none := Eq.trans (b := s.barred op r) (by unfold State.atHandler; split <;> rfl) hb
  have hfol : w.follower = s.follower := by rw [← hw]; split <;> rfl
  have hmode : (s.atHandler op r).modeRefuses op.code r.target = false := by
    rcases ht with h | h | h <;> simp [State.modeRefuses, h]
  have hown : ¬ (w.follower = false ∧ 1 ≤ r.target ∧ r.target ≤ 3 ∧ w.admitted r.target ∧ !w.modeRefuses op.code r.target) := by
    rintro ⟨hmaster, hlo, hhi, -⟩
    rcases ht with h | h | h
    · simp [hfol, h] at hmaster
    · omega
    · omega
  have hserve : RingsGrow ((op.run r (s.atHandler op r)).place s.tag op r) (w.serve s.tag op r) := by
    unfold State.serve State.answerOf
    rw [← hh]
    simp only [hmode, hbar, Bool.false_eq_true, if_false]
    have hcount : RingsGrow ((op.run r (s.atHandler op r)).place s.tag op r)
        ((((op.run r (s.atHandler op r)).place s.tag op r).reserve none).countCmd
          (replies (op.run r (s.atHandler op r)).state r (op.run r (s.atHandler op r)).status) (op.run r (s.atHandler op r)).status) :=
      (RingsGrow.reserve _ _).trans (RingsGrow.countCmd _ _ _)
    split
    · exact hcount.trans (RingsGrow.keep _ _ _)
    · exact hcount
  unfold State.command State.commandAs
  simp only [hv, he, hr, Bool.not_true, Bool.false_eq_true, if_false, if_true]
  simp only [hs, hexec, hroom, Bool.and_self, if_true, if_neg hown]
  split
  · exact hserve.trans (RingsGrow.passOn _ _ _)
  · split
    · exact hserve.trans (RingsGrow.passOn _ _ _)
    · exact hserve

/-- A reply whose parameters fit one packet is one packet (R279). -/
theorem replyPackets_one (tag code seq target : Nat) (ps : List Byte) (h : ps.length ≤ 1014) :
    replyPackets tag code seq target ps = [sealed tag (code + 0x8000) seq 0 target ps] := by
  simp [replyPackets, fragments, h]

/-- The reply of an answer that is sent stands in the reply ring (R266, R270). -/
theorem State.command_replied (h : s.accepts op r) (hfit : (replyParams (op.run r (s.atHandler op r))).length ≤ 1014)
    (hroom : ((op.run r (s.atHandler op r)).state.ring (r.ring + 8)).length < 64) (hid : (op.run r (s.atHandler op r)).state.id = s.id)
    (hsent : (r.reply || !(op.run r (s.atHandler op r)).status.good) = true) (hmaster : s.follower = true → r.target ≠ 0x0F) :
    ∃ p ∈ (s.command op r).ring (r.ring + 8), p.bytes = sealed s.tag (op.code + 0x8000) r.seq 0 s.position (replyParams (op.run r (s.atHandler op r))) := by
  generalize ha : op.run r (s.atHandler op r) = a at *
  have hfol : a.state.follower = s.follower := by rw [State.follower, hid]; rfl
  have hpos : a.state.position = s.position := by rw [State.position, hid]; rfl
  have hreplies : replies a.state r a.status = true := by
    rw [replies, hsent, hfol]
    cases hf : s.follower
    · rfl
    · simpa using hmaster hf
  have hgrow := State.command_rings s op r h
  rw [ha, Answer.place, if_pos hreplies, replyPackets_one _ _ _ _ _ hfit, hpos] at hgrow
  exact ⟨_, hgrow _ _ (State.mem_ring_push _ _ _ hroom), rfl⟩

/-- A request is answered from its handler's state: everything else the answer leaves as it was before the request. -/
theorem State.command_from {ps : List Part} {t : State} (h : s.accepts op r) (ht : (op.run r (s.atHandler op r)).state = t)
    (hk : KeptBut ps (s.atHandler op r) t) : KeptBut ([.now, .pwr, .proto] ++ ps ++ answerParts) s (s.command op r) := by
  have hc := (State.command_accepted s op r h).1
  rw [ht] at hc
  exact (((State.atHandler_kept s op r).mono (by simp)).trans (hk.mono (by simp +contextual))).trans (hc.mono (by simp))
end

end Sys2Proof.Machine

namespace Sys2Proof.Machine

/-! ### The words of a request (R9, Table 9-12) -/

@[simp] theorem length_le (k : Nat) : ∀ n, (le k n).length = k := by
  induction k with
  | zero => intro n; rfl
  | succ k ih => intro n; simp [le, ih]

/-- The bytes of a number spell it, cut to their length. -/
theorem ofLe_le (k : Nat) : ∀ n, ofLe (le k n) = n % 256 ^ k := by
  induction k with
  | zero => intro n; simp [le, ofLe, Nat.mod_one]
  | succ k ih =>
    intro n
    have h8 : 2 ^ 8 = 256 := rfl
    rw [le, ofLe, ih, byte, BitVec.toNat_ofNat, h8, Nat.pow_succ', Nat.mod_mul]

theorem getElem_le (k : Nat) : ∀ n i (h : i < (le k n).length), (le k n)[i] = byte (n / 256 ^ i) := by
  induction k with
  | zero => intro n i h; simp [le] at h
  | succ k ih =>
    intro n i h
    cases i with
    | zero => simp [le]
    | succ i =>
      simp only [le, List.getElem_cons_succ]
      rw [ih, Nat.div_div_eq_div_mul, Nat.pow_succ']

/-- A number in the first part of a byte list. -/
theorem leAt_append_left (xs ys : List Byte) (off size : Nat) (h : off + size ≤ xs.length) : leAt (xs ++ ys) off size = leAt xs off size := by
  rw [leAt, leAt, List.drop_append_of_le_length (by omega), List.take_append_of_le_length (by simp; omega)]

/-- A number past the first part of a byte list. -/
theorem leAt_append_right (xs ys : List Byte) (off size : Nat) (h : xs.length ≤ off) : leAt (xs ++ ys) off size = leAt ys (off - xs.length) size := by
  rw [leAt, leAt, List.drop_append, List.drop_eq_nil_of_le h, List.nil_append]

theorem leAt_le (k n : Nat) : leAt (le k n) 0 k = n % 256 ^ k := by
  rw [leAt, List.drop_zero, List.take_of_length_le (by simp), ofLe_le]

/-- The words of a list stand at every fourth byte. -/
theorem leAt_words (ws : List Nat) : ∀ i, i < ws.length → leAt (ws.flatMap (le 4)) (4 * i) 4 = nth 0 ws i % 2 ^ 32 := by
  induction ws with
  | nil => intro i h; simp at h
  | cons w ws ih =>
    intro i h
    rw [List.flatMap_cons]
    cases i with
    | zero => rw [Nat.mul_zero, leAt_append_left _ _ _ _ (by simp), leAt_le]; rfl
    | succ i =>
      rw [leAt_append_right _ _ _ _ (by rw [length_le]; omega), length_le, show 4 * (i + 1) - 4 = 4 * i by omega, ih i (by simpa using h)]
      rfl

section
variable (a : Nat) (ws : List Nat) (r : Req)

theorem withWrite_address : leAt (withWrite a ws r).params 0 4 = a % 2 ^ 32 := by
  rw [withWrite]
  simp only [List.append_assoc]
  rw [leAt_append_left _ _ _ _ (by simp)]
  exact leAt_le 4 a

theorem withWrite_count : leAt (withWrite a ws r).params 4 2 = ws.length % 2 ^ 16 := by
  rw [withWrite]
  simp only [List.append_assoc]
  rw [leAt_append_right _ _ _ _ (by simp), leAt_append_left _ _ _ _ (by simp), length_le]
  exact leAt_le 2 ws.length

theorem withWrite_flags : leAt (withWrite a ws r).params 6 1 = 0 := by
  rw [withWrite]
  simp only [List.append_assoc]
  rw [leAt_append_right _ _ _ _ (by simp), leAt_append_right _ _ _ _ (by simp)]
  simp [leAt, ofLe, byte]

theorem withWrite_reserved : leAt (withWrite a ws r).params 7 1 = 0 := by
  rw [withWrite]
  simp only [List.append_assoc]
  rw [leAt_append_right _ _ _ _ (by simp), leAt_append_right _ _ _ _ (by simp)]
  simp [leAt, ofLe, byte]

theorem withWrite_word (i : Nat) (h : i < ws.length) : leAt (withWrite a ws r).params (8 + 4 * i) 4 = nth 0 ws i % 2 ^ 32 := by
  rw [withWrite]
  simp only
  rw [leAt_append_right _ _ _ _ (by simp), ← leAt_words ws i h]
  simp
end

/-- The write of a whole word. -/
def plainWrite (a v : Nat) : WordWrite := ⟨a, 0xFFFFFFFF, v⟩

@[simp] theorem plainWrite_addr (a v : Nat) : (plainWrite a v).addr = a := rfl
@[simp] theorem plainWrite_mask (a v : Nat) : (plainWrite a v).mask = 0xFFFFFFFF := rfl
theorem plainWrite_acts (a : Nat) {v : Nat} (h : v < 2 ^ 32) : (plainWrite a v).acts = v :=
  (Nat.and_two_pow_sub_one_eq_mod v 32).trans (Nat.mod_eq_of_lt h)
theorem plainWrite_over (a : Nat) {v : Nat} (h : v < 2 ^ 32) (old : Nat) : (plainWrite a v).over old = v := by
  rw [WordWrite.over, plainWrite_acts a h, plainWrite_mask, Nat.xor_self, Nat.and_zero, Nat.zero_or]

/-- The words of an unmasked write. -/
theorem wordWrites_withWrite (a : Nat) (ws : List Nat) (r : Req) (ha : a < 2 ^ 32) (hn : ws.length < 2 ^ 16) :
    wordWrites (withWrite a ws r).params = (List.range ws.length).map (fun i => plainWrite (a + 4 * i) (nth 0 ws i % 2 ^ 32)) := by
  unfold wordWrites
  rw [withWrite_address, withWrite_count, withWrite_flags, Nat.mod_eq_of_lt ha, Nat.mod_eq_of_lt hn]
  refine List.map_congr_left (fun i hi => ?_)
  rw [withWrite_word a ws r i (List.mem_range.1 hi)]
  rfl

theorem wordWrites_withWrite_one (a v : Nat) (r : Req) (ha : a < 2 ^ 32) :
    wordWrites (withWrite a [v] r).params = [plainWrite a (v % 2 ^ 32)] :=
  wordWrites_withWrite a [v] r ha (by simp)

/-! ### REG_WRITE: written, or refused (R291) -/

/-- The header of a request is one that REG_WRITE takes: flags known, the words in one region, no more than a packet holds. -/
structure WriteHeader (p : List Byte) : Prop where
  flags : leAt p 6 1 ≤ 1
  reserved : leAt p 7 1 = 0
  access : accessFault (leAt p 0 4) (leAt p 4 2) (if bit (leAt p 6 1) 0 then 506 else 1012) = none

section
variable (s : State) (r : Req)

/-- Where a write of the layer buffer area is allowed, no word of it is refused for that. -/
theorem State.layers_pass
    (hl : (wordWrites r.params).any (fun x => inLayers x.addr) = true → s.layerWriteStatus ((wordWrites r.params).map (·.addr)) = Status.ok) :
    ((wordWrites r.params).find? (fun w => inLayers w.addr)).filter
      (fun _ => s.layerWriteStatus ((wordWrites r.params).map (·.addr)) != Status.ok) = none := by
  cases hfind : (wordWrites r.params).find? (fun w => inLayers w.addr) with
  | none => rfl
  | some w =>
    have hin : inLayers w.addr = true := List.find?_some (p := fun w : WordWrite => inLayers w.addr) hfind
    simp [Option.filter, hl (List.any_eq_true.2 ⟨w, List.mem_of_find?_eq_some hfind, hin⟩)]

/-- Every word passes: all are written. -/
theorem runRegWrite_written (hp : WriteHeader r.params)
    (hl : (wordWrites r.params).any (fun x => inLayers x.addr) = true → s.layerWriteStatus ((wordWrites r.params).map (·.addr)) = Status.ok)
    (hw : ∀ w ∈ wordWrites r.params, s.wordStatus (wordWrites r.params) w = Status.ok) :
    runRegWrite r s
      = accept ((wordWrites r.params).foldl (fun (s : State) w => s.writeWord32 r w) (s.wakeBanks (leAt r.params 0 4) (leAt r.params 4 2))) := by
  have hlayers := s.layers_pass r hl
  have hwords : (wordWrites r.params).find? (fun w => s.wordStatus (wordWrites r.params) w != Status.ok) = none := by
    rw [List.find?_eq_none]
    intro w hm
    simp [hw w hm]
  unfold runRegWrite
  simp only [hp.access]
  rw [if_neg (by have := hp.flags; have := hp.reserved; omega), hlayers]
  simp only [hwords]

/-- The first word that does not pass is named, and nothing is written. -/
theorem runRegWrite_refused_word (w : WordWrite) (hp : WriteHeader r.params)
    (hl : (wordWrites r.params).any (fun x => inLayers x.addr) = true → s.layerWriteStatus ((wordWrites r.params).map (·.addr)) = Status.ok)
    (hw : (wordWrites r.params).find? (fun w => s.wordStatus (wordWrites r.params) w != Status.ok) = some w) :
    runRegWrite r s = errAt s (s.wordStatus (wordWrites r.params) w) w.addr := by
  have hlayers := s.layers_pass r hl
  unfold runRegWrite
  simp only [hp.access]
  rw [if_neg (by have := hp.flags; have := hp.reserved; omega), hlayers]
  simp only [hw]

/-- A write of the layer buffer area that is refused names the first of its words in the area. -/
theorem runRegWrite_refused_layer (w : WordWrite) (hp : WriteHeader r.params)
    (hw : (wordWrites r.params).find? (fun x => inLayers x.addr) = some w)
    (hl : s.layerWriteStatus ((wordWrites r.params).map (·.addr)) ≠ Status.ok) :
    runRegWrite r s = errAt s (s.layerWriteStatus ((wordWrites r.params).map (·.addr))) w.addr := by
  unfold runRegWrite
  simp only [hp.access]
  rw [if_neg (by have := hp.flags; have := hp.reserved; omega), hw]
  simp [Option.filter, hl]

/-- A layer write is done, busy or refused. -/
theorem State.layerWriteStatus_not_pending (as : List Nat) : s.layerWriteStatus as ≠ Status.pending := by
  unfold State.layerWriteStatus
  split
  · decide
  · split <;> decide

/-- A check's outcome is never ACCEPTED_PENDING. -/
theorem ite_not_pending {c : Prop} [Decidable c] {x y : Status} (hx : x ≠ Status.pending) (hy : y ≠ Status.pending) :
    (if c then x else y) ≠ Status.pending := by
  split
  · exact hx
  · exact hy

theorem clearStatus_not_pending (a : Nat) : clearStatus a ≠ Status.pending := ite_not_pending (by decide) (ite_not_pending (by decide) (by decide))

theorem State.registerStatus_not_pending (after : Nat → Nat) (w : WordWrite) : s.registerStatus after w ≠ Status.pending := by
  have bad : ∀ b : Bool, (if b then Status.badParam else Status.ok) ≠ Status.pending := fun b => ite_not_pending (by decide) (by decide)
  unfold State.registerStatus
  refine ite_not_pending (by decide) (ite_not_pending ?_ (ite_not_pending ?_ (ite_not_pending ?_ (ite_not_pending ?_ (ite_not_pending ?_
    (ite_not_pending (bad _) (ite_not_pending (bad _) (ite_not_pending (bad _) (ite_not_pending (bad _) (ite_not_pending (bad _) (by decide)))))))))))
  · exact ite_not_pending (by decide) (by decide)
  · exact ite_not_pending (by decide) (clearStatus_not_pending _)
  · exact ite_not_pending (by decide) (bad _)
  · exact ite_not_pending (by decide) (by decide)
  · exact ite_not_pending (by decide) (by decide)

theorem State.wordStatus_not_pending (ws : List WordWrite) (w : WordWrite) : s.wordStatus ws w ≠ Status.pending := by
  unfold State.wordStatus
  split
  · exact ite_not_pending (s.layerWriteStatus_not_pending _) (by decide)
  · exact ite_not_pending (s.registerStatus_not_pending _ _) (by decide)
  · decide

/-- What is neither OK nor pending refuses. -/
theorem not_good {st : Status} (hok : st ≠ Status.ok) (hp : st ≠ Status.pending) : st.good = false := by simp [Status.good, hok, hp]

/-- A REG_WRITE that is accepted is answered with OK alone. -/
theorem regWrite_replied {u : State} (h : s.accepts opRegWrite r) (hrun : runRegWrite r (s.atHandler opRegWrite r) = accept u)
    (hroom : (u.ring (r.ring + 8)).length < 64) (hid : u.id = s.id) (ha : s.answers r) : Replied s (s.command opRegWrite r) opRegWrite r [] := by
  have hrun' : opRegWrite.run r (s.atHandler opRegWrite r) = accept u := hrun
  have hrep := State.command_replied s opRegWrite r h
  rw [hrun'] at hrep
  exact hrep (by simp [replyParams, accept]) hroom hid (by simp [ha.1]) ha.2

/-- The reply of a request that is executed has room. -/
theorem State.accepts_room {s : State} {r : Req} (h : s.accepts opRegWrite r) : (s.ring (r.ring + 8)).length < 64 := by
  obtain ⟨-, hexec, -⟩ := h
  simp only [State.executes, Bool.and_eq_true, decide_eq_true_eq] at hexec
  have : replySpan opRegWrite.code = 1 := rfl
  omega

/-- A REG_WRITE that is refused names the address, and changes nothing but what counting and answering it changes. -/
theorem regWrite_refused {st : Status} {a : Nat} (h : s.accepts opRegWrite r) (hst : st.good = false)
    (hrun : runRegWrite r (s.atHandler opRegWrite r) = errAt (s.atHandler opRegWrite r) st a) (hmaster : s.follower = true → r.target ≠ 0x0F) :
    (∃ p ∈ (s.command opRegWrite r).ring (r.ring + 8), p.bytes = sealed s.tag 0x8111 r.seq 0 s.position (le 2 st ++ le 2 0 ++ le 4 a))
      ∧ KeptBut [.now, .pwr, .regs, .rings, .proto, .casc] s (s.command opRegWrite r) ∧ RegsKeptBut answerFields s (s.command opRegWrite r) := by
  have hrun' : opRegWrite.run r (s.atHandler opRegWrite r) = errAt (s.atHandler opRegWrite r) st a := hrun
  refine ⟨?_, ?_, ?_⟩
  · have hrep := State.command_replied s opRegWrite r h
    rw [hrun'] at hrep
    obtain ⟨p, hp, hbytes⟩ := hrep (by simp [replyParams, errAt])
      (by simpa [errAt, State.ring] using State.accepts_room h) (by simp [errAt]) (by simp [errAt, hst]) hmaster
    exact ⟨p, hp, by rw [hbytes]; simp [replyParams, errAt, opRegWrite]⟩
  · exact (State.command_from s opRegWrite r h (congrArg Answer.state hrun') (KeptBut.refl [] _)).mono (by simp)
  · have hregs := (State.command_accepted s opRegWrite r h).2
    rw [hrun'] at hregs
    exact (RegsKeptBut.of_regs (State.atHandler_regs s opRegWrite r)).trans hregs

/-- What follows the handler of a REG_WRITE that is accepted with the state `u`. -/
theorem regWrite_from {u : State} (h : s.accepts opRegWrite r) (hrun : runRegWrite r (s.atHandler opRegWrite r) = accept u) :
    KeptBut answerParts u (s.command opRegWrite r) ∧ RegsKeptBut answerFields u (s.command opRegWrite r) := by
  have hc := State.command_accepted s opRegWrite r h
  rw [show opRegWrite.run r (s.atHandler opRegWrite r) = accept u from hrun] at hc
  exact hc
end

end Sys2Proof.Machine

namespace Sys2Proof.Machine

/-! ### The fields of a register written (R291) -/

/-- What a field reads after a write of its register that holds `v` in all and acts with `acts`. -/
def Field.written (f : Field) (v acts x : Nat) : Nat :=
  match f.acc with
  | .rw => bits v f.lo f.width
  | .w1c => (x ^^^ (x &&& bits acts f.lo f.width)) % 2 ^ f.width
  | _ => x

/-- Clearing the same bits again changes nothing. -/
theorem clear_clear (x m w : Nat) :
    ((x ^^^ (x &&& m)) % 2 ^ w ^^^ ((x ^^^ (x &&& m)) % 2 ^ w &&& m)) % 2 ^ w = (x ^^^ (x &&& m)) % 2 ^ w := by
  refine Nat.eq_of_testBit_eq (fun i => ?_)
  simp only [Nat.testBit_mod_two_pow, Nat.testBit_xor, Nat.testBit_and]
  cases decide (i < w) <;> cases x.testBit i <;> cases m.testBit i <;> rfl

/-- Writing a field twice is writing it once. -/
theorem Field.written_written (f : Field) (v acts x : Nat) : f.written v acts (f.written v acts x) = f.written v acts x := by
  unfold Field.written
  cases f.acc
  case w1c => exact clear_clear _ _ _
  all_goals rfl

theorem State.writeField_kept (s : State) (v acts : Nat) (f : Field) : KeptBut [.regs] s (s.writeField v acts f) := by
  unfold State.writeField
  split
  · exact State.set_kept _ _ _
  · exact State.set_kept _ _ _
  · exact KeptBut.refl _ s

theorem State.writeField_get_same (s : State) (v acts : Nat) (f : Field) : (s.writeField v acts f).get f = f.written v acts (s.get f) := by
  unfold State.writeField Field.written
  cases f.acc
  case rw => exact (State.get_set_same _ _ _).trans (Nat.mod_mod _ _)
  case w1c => exact State.get_set_same _ _ _
  all_goals rfl

theorem State.writeField_get_other (s : State) (v acts : Nat) {f g : Field} (h : g.key ≠ f.key) : (s.writeField v acts f).get g = s.get g := by
  unfold State.writeField
  split
  · exact State.get_set_other _ _ _ _ h
  · exact State.get_set_other _ _ _ _ h
  · rfl

/-- The fields of a list written, in order. -/
def State.writeFields (s : State) (v acts : Nat) (fs : List Field) : State := fs.foldl (fun (s : State) f => s.writeField v acts f) s

theorem State.writeFields_kept (v acts : Nat) (fs : List Field) : ∀ s : State, KeptBut [.regs] s (s.writeFields v acts fs) := by
  induction fs with
  | nil => exact KeptBut.refl _
  | cons f fs ih => intro s; exact (State.writeField_kept s v acts f).trans (ih _)

theorem State.writeFields_get_other (v acts : Nat) (g : Field) (fs : List Field) :
    ∀ s : State, g.key ∉ fs.map Field.key → (s.writeFields v acts fs).get g = s.get g := by
  induction fs with
  | nil => intro s _; rfl
  | cons f fs ih =>
    intro s h
    simp only [List.map_cons, List.mem_cons, not_or] at h
    exact (ih _ h.2).trans (State.writeField_get_other s v acts h.1)

/-- A field of the list that shares its bits with no other reads as written. -/
theorem State.writeFields_get (v acts : Nat) (f : Field) (fs : List Field) :
    ∀ s : State, f ∈ fs → (∀ g ∈ fs, g.key = f.key → g = f) → (s.writeFields v acts fs).get f = f.written v acts (s.get f) := by
  induction fs with
  | nil => intro s h; simp at h
  | cons g fs ih =>
    intro s hf hu
    have htail : ∀ x ∈ fs, x.key = f.key → x = f := fun x hx => hu x (List.mem_cons_of_mem _ hx)
    change ((s.writeField v acts g).writeFields v acts fs).get f = _
    by_cases hm : f ∈ fs
    · rw [ih _ hm htail]
      by_cases hk : g.key = f.key
      · obtain rfl := hu g (by simp) hk
        rw [State.writeField_get_same, Field.written_written]
      · rw [State.writeField_get_other _ _ _ (Ne.symm hk)]
    · obtain rfl : f = g := by simpa [hm] using hf
      have hnot : f.key ∉ fs.map Field.key := by
        intro hmem
        obtain ⟨x, hx, hxk⟩ := List.mem_map.1 hmem
        exact hm (htail x hx hxk ▸ hx)
      rw [State.writeFields_get_other _ _ _ _ _ hnot, State.writeField_get_same]

theorem State.writeFields_regs (s : State) (v acts : Nat) (fs : List Field) : RegsKeptBut fs s (s.writeFields v acts fs) := by
  intro g hg
  refine State.writeFields_get_other v acts g fs s (fun hm => hg ?_)
  rw [List.map_append]
  exact List.mem_append_left _ hm

theorem State.vtrackFollow_kept (s : State) : KeptBut [.scan] s s.vtrackFollow := by
  unfold State.vtrackFollow
  split
  · intro p hp; cases p <;> first | rfl | simp at hp
  · split
    · exact KeptBut.refl _ s
    · intro p hp; cases p <;> first | rfl | simp at hp

/-! ### One word of a register region -/

/-- A word passes on its own: its address is one word of a register region. -/
structure RegisterWrite (p : List Byte) (w : WordWrite) : Prop where
  header : WriteHeader p
  words : wordWrites p = [w]
  outside : inLayers w.addr = false
  registers : ∃ n, region w.addr = some n ∧ 3 ≤ n ∧ n ≤ 19

/-- An access of one word is sound for every limit if it is for one. -/
theorem accessFault_one {a m : Nat} (h : accessFault a 1 m = none) (k : Nat) (hk : 1 ≤ k) : accessFault a 1 k = none := by
  unfold accessFault at h ⊢
  split at h
  · simp at h
  · rw [if_neg (by omega)]
    exact h

/-- The words of a request start at its address, and there are COUNT of them. -/
theorem wordWrites_one {p : List Byte} {w : WordWrite} (h : wordWrites p = [w]) : leAt p 4 2 = 1 ∧ w.addr = leAt p 0 4 := by
  have hlen : (wordWrites p).length = leAt p 4 2 := by simp [wordWrites]
  rw [h] at hlen
  have hone : leAt p 4 2 = 1 := hlen.symm
  refine ⟨hone, ?_⟩
  unfold wordWrites at h
  rw [hone] at h
  simp only [List.range_one, List.map_cons, List.map_nil, List.cons.injEq, and_true] at h
  rw [← h]
  split <;> simp

/-- The register regions lie outside the layer buffer area. -/
theorem not_inLayers_of_region {a n : Nat} (h : region a = some n) (hn : 3 ≤ n) : inLayers a = false := by
  unfold region at h
  split at h
  · simp at h; omega
  · simp [inLayers]; omega

theorem RegisterWrite.of_words {p : List Byte} {w : WordWrite} (hw : wordWrites p = [w]) (h6 : leAt p 6 1 ≤ 1) (h7 : leAt p 7 1 = 0)
    (ha : accessFault w.addr 1 506 = none) (hr : ∃ n, region w.addr = some n ∧ 3 ≤ n ∧ n ≤ 19) : RegisterWrite p w := by
  obtain ⟨hone, haddr⟩ := wordWrites_one hw
  refine ⟨⟨h6, h7, ?_⟩, hw, ?_, hr⟩
  · rw [hone, ← haddr]
    exact accessFault_one ha _ (by split <;> omega)
  · obtain ⟨n, hn, h3, -⟩ := hr
    exact not_inLayers_of_region hn h3

/-- The write of one whole word of a register. -/
theorem RegisterWrite.withWrite {a : Nat} (v : Nat) (r : Req) (ha : a < 2 ^ 32) (hf : accessFault a 1 506 = none)
    (hr : ∃ n, region a = some n ∧ 3 ≤ n ∧ n ≤ 19) : RegisterWrite (withWrite a [v] r).params (plainWrite a (v % 2 ^ 32)) :=
  RegisterWrite.of_words (wordWrites_withWrite_one a v r ha) (by simp [withWrite_flags]) (withWrite_reserved a [v] r) hf hr

theorem State.wordStatus_register {w : WordWrite} (s : State) (ws : List WordWrite) (h : ∃ n, region w.addr = some n ∧ 3 ≤ n ∧ n ≤ 19) :
    s.wordStatus ws w = s.registerStatus (s.afterWrite ws) w := by
  obtain ⟨n, hn, h3, h19⟩ := h
  unfold State.wordStatus
  rw [hn]
  split
  case h_1 he => have := Option.some.inj he; omega
  case h_2 he => rw [← Option.some.inj he, if_pos ⟨h3, h19⟩]
  case h_3 he => simp at he

section
variable {s : State} {r : Req} {w : WordWrite}

theorem RegisterWrite.run_ok (h : RegisterWrite r.params w) (hok : s.wordStatus [w] w = Status.ok) : runRegWrite r s = accept (s.writeRegister r w) := by
  obtain ⟨hheader, hwords, hout, n, hn, h3, -⟩ := h
  obtain ⟨hone, haddr⟩ := wordWrites_one hwords
  have hreg : region (leAt r.params 0 4) ≠ some 0 := by rw [← haddr, hn]; simp; omega
  rw [runRegWrite_written s r hheader (by simp [hwords, hout]) (by simpa [hwords] using hok), hwords, State.wakeBanks, if_neg hreg]
  rw [List.foldl_cons, List.foldl_nil, State.writeWord32, hn]
  split
  case h_1 he => have := Option.some.inj he; omega
  case h_2 => rfl

theorem RegisterWrite.run_refused (h : RegisterWrite r.params w) (hst : s.wordStatus [w] w ≠ Status.ok) :
    runRegWrite r s = errAt s (s.wordStatus [w] w) w.addr := by
  obtain ⟨hheader, hwords, hout, -⟩ := h
  rw [runRegWrite_refused_word s r w hheader (by simp [hwords, hout]) (by simp [hwords, hst]), hwords]

/-- A word of a register that is refused is named. -/
theorem RegisterWrite.refused {st : Status} (h : RegisterWrite r.params w) (hacc : s.accepts opRegWrite r)
    (hst : (s.atHandler opRegWrite r).wordStatus [w] w = st) (hbad : st ≠ Status.ok) (hmaster : s.follower = true → r.target ≠ 0x0F) :
    (∃ p ∈ (s.command opRegWrite r).ring (r.ring + 8), p.bytes = sealed s.tag 0x8111 r.seq 0 s.position (le 2 st ++ le 2 0 ++ le 4 w.addr))
      ∧ KeptBut [.now, .pwr, .regs, .rings, .proto, .casc] s (s.command opRegWrite r) ∧ RegsKeptBut answerFields s (s.command opRegWrite r) := by
  have hrun := h.run_refused (s := s.atHandler opRegWrite r) (by rw [hst]; exact hbad)
  rw [hst] at hrun
  exact regWrite_refused s r hacc (not_good hbad (hst ▸ State.wordStatus_not_pending _ _ _)) hrun hmaster

/-- What a register write leaves to the answer: the reply, and the state that the counters and the reply change. -/
theorem RegisterWrite.accepted {u : State} (h : RegisterWrite r.params w) (hacc : s.accepts opRegWrite r)
    (hok : (s.atHandler opRegWrite r).wordStatus [w] w = Status.ok) (hu : (s.atHandler opRegWrite r).writeRegister r w = u)
    (hrings : u.rings = s.rings) (hid : u.id = s.id) :
    (s.answers r → Replied s (s.command opRegWrite r) opRegWrite r []) ∧ KeptBut answerParts u (s.command opRegWrite r)
      ∧ RegsKeptBut answerFields u (s.command opRegWrite r) := by
  have hrun := h.run_ok hok
  rw [hu] at hrun
  have hroom : (u.ring (r.ring + 8)).length < 64 := by
    rw [State.ring, hrings]
    exact State.accepts_room hacc
  exact ⟨regWrite_replied s r hacc hrun hroom hid, regWrite_from s r hacc hrun⟩
end

end Sys2Proof.Machine

namespace Sys2Proof.Machine

/-! ### A register whose fields take the word (R46, R147, R291) -/

/-- The registers whose word does more than fill their fields. -/
def ownWrite (a : Nat) : Prop := a ∈ [0x40300104, 0x40000010, 0x4010002C, 0x41000000] ∨ hstRing a ≠ none

/-- The state after a register's fields were written. -/
def State.fieldsWritten (s : State) (w : WordWrite) : State :=
  s.writeFields (w.over (s.registerWord w.addr)) w.acts ((regFields w.addr).getD [])

theorem State.writeRegister_fields (s : State) (r : Req) (w : WordWrite) (h : ¬ ownWrite w.addr) :
    s.writeRegister r w = if w.addr = 0x40900000 then (s.fieldsWritten w).vtrackFollow else s.fieldsWritten w := by
  simp only [ownWrite, List.mem_cons, List.not_mem_nil, or_false, not_or, ne_eq, Decidable.not_not] at h
  obtain ⟨⟨hclear, hroute, hmeas, hctrl⟩, hhst⟩ := h
  unfold State.writeRegister
  dsimp only
  rw [if_neg hclear, if_neg hroute, if_neg hmeas, if_neg (by simp [hhst, hctrl])]
  rfl

/-- The part beside the registers that a write of a register's fields may change. -/
abbrev followParts (a : Nat) : List Part := if a = 0x40900000 then [.scan] else []

theorem State.writeRegister_fields_kept (s : State) (r : Req) (w : WordWrite) (h : ¬ ownWrite w.addr) :
    KeptBut ([.regs] ++ followParts w.addr) s (s.writeRegister r w) ∧ (s.writeRegister r w).regs = (s.fieldsWritten w).regs := by
  have hfields : KeptBut [.regs] s (s.fieldsWritten w) := State.writeFields_kept _ _ _ s
  rw [State.writeRegister_fields s r w h, followParts]
  split
  · have hfollow := State.vtrackFollow_kept (s.fieldsWritten w)
    exact ⟨(hfields.mono (by simp)).trans (hfollow.mono (by simp)), hfollow .regs (by simp)⟩
  · exact ⟨hfields.mono (by simp), rfl⟩

section
variable {s : State} {r : Req} {w : WordWrite}

/-- A register's fields are written by REG_WRITE; the counters of an answer are none of the fields spoken of. -/
theorem RegisterWrite.fields (h : RegisterWrite r.params w) (hacc : s.accepts opRegWrite r) (hplain : ¬ ownWrite w.addr)
    (hok : (s.atHandler opRegWrite r).wordStatus [w] w = Status.ok) :
    (∀ f ∈ (regFields w.addr).getD [], (∀ g ∈ (regFields w.addr).getD [], g.key = f.key → g = f) →
        f.key ∉ (answerFields ++ eventFields).map Field.key →
        (s.command opRegWrite r).get f = f.written (w.over ((s.atHandler opRegWrite r).registerWord w.addr)) w.acts (s.get f))
      ∧ (s.answers r → Replied s (s.command opRegWrite r) opRegWrite r [])
      ∧ KeptBut ([.now, .pwr, .regs, .rings, .proto, .casc] ++ followParts w.addr) s (s.command opRegWrite r)
      ∧ RegsKeptBut ((regFields w.addr).getD [] ++ answerFields) s (s.command opRegWrite r) := by
  obtain ⟨hkept, hregs⟩ := State.writeRegister_fields_kept (s.atHandler opRegWrite r) r w hplain
  have hget : ∀ f, ((s.atHandler opRegWrite r).writeRegister r w).get f = ((s.atHandler opRegWrite r).fieldsWritten w).get f := by
    intro f; rw [State.get, hregs]; rfl
  have hnot : ∀ p ∈ [Part.rings, Part.id], p ∉ [.regs] ++ followParts w.addr := by
    rw [followParts]; split <;> simp
  obtain ⟨hrep, hparts, hfields⟩ := h.accepted hacc hok rfl
    ((hkept .rings (hnot _ (by simp))).trans (State.atHandler_rings s opRegWrite r)) ((hkept .id (hnot _ (by simp))).trans (State.atHandler_id s opRegWrite r))
  refine ⟨fun f hf hu hk => ?_, hrep, ?_, ?_⟩
  · rw [hfields f hk, hget, State.fieldsWritten, State.writeFields_get _ _ _ _ _ hf hu, State.atHandler_get]
  · refine (((State.atHandler_kept s opRegWrite r).mono (by simp)).trans (hkept.mono ?_)).trans (hparts.mono (by simp))
    simp +contextual
  · have hstart : RegsKeptBut ((regFields w.addr).getD [] ++ answerFields) s (s.atHandler opRegWrite r) := RegsKeptBut.of_regs (by simp)
    have hwrite : RegsKeptBut ((regFields w.addr).getD []) (s.atHandler opRegWrite r) ((s.atHandler opRegWrite r).writeRegister r w) := by
      intro f hf
      rw [hget]
      exact State.writeFields_regs _ _ _ _ f hf
    exact (hstart.trans (hwrite.mono (by simp +contextual))).trans (hfields.mono (by simp +contextual))
end

/-- R291: a register takes the word in its RW fields and clears the W1C bits written 1; its other fields stay. -/
theorem regWrite_field (r : Req) (w : WordWrite) (f : Field) (s : State) (hacc : s.accepts opRegWrite r) (hws : wordWrites r.params = [w])
    (h6 : leAt r.params 6 1 ≤ 1) (h7 : leAt r.params 7 1 = 0) (ha : accessFault w.addr 1 506 = none)
    (hreg : ∃ n, region w.addr = some n ∧ 3 ≤ n ∧ n ≤ 19) (hown : w.addr ∉ [0x40300104, 0x40000010, 0x4010002C, 0x41000000])
    (hhst : hstRing w.addr = none) (hok : (s.atHandler opRegWrite r).wordStatus [w] w = Status.ok) (hf : f ∈ (regFields w.addr).getD [])
    (hu : ∀ g ∈ (regFields w.addr).getD [], g.key = f.key → g = f) (hk : f.key ∉ (answerFields ++ eventFields).map Field.key) :
    Answers (.regWrite r) s (fun t =>
      (f.acc = .rw → t.get f = bits (w.over ((s.atHandler opRegWrite r).registerWord w.addr)) f.lo f.width)
        ∧ (f.acc = .w1c → t.get f = (s.get f ^^^ (s.get f &&& bits w.acts f.lo f.width)) % 2 ^ f.width)
        ∧ (f.acc = .ro → t.get f = s.get f) ∧ (s.answers r → Replied s t opRegWrite r [])
        ∧ KeptBut ([.now, .pwr, .regs, .rings, .proto, .casc] ++ (if w.addr = 0x40900000 then [.scan] else [])) s t
        ∧ RegsKeptBut ((regFields w.addr).getD [] ++ answerFields) s t) := by
  have h := RegisterWrite.of_words hws h6 h7 ha hreg
  obtain ⟨hget, hrep, hparts, hregs⟩ := h.fields hacc (by simp only [ownWrite, not_or, hhst]; exact ⟨hown, by simp⟩) hok
  have hwritten := hget f hf hu hk
  refine ⟨_, rfl, fun hrw => ?_, fun hw1c => ?_, fun hro => ?_, hrep, hparts, hregs⟩
  · rw [hwritten, Field.written, hrw]
  · rw [hwritten, Field.written, hw1c]
  · rw [hwritten, Field.written, hro]

/-- R291: the first word refused is named and nothing is written. -/
theorem regWrite_refused_word (r : Req) (w : WordWrite) (s : State) (hacc : s.accepts opRegWrite r) (h6 : leAt r.params 6 1 ≤ 1)
    (h7 : leAt r.params 7 1 = 0)
    (ha : accessFault (leAt r.params 0 4) (leAt r.params 4 2) (if bit (leAt r.params 6 1) 0 then 506 else 1012) = none)
    (hl : (wordWrites r.params).any (fun x => inLayers x.addr) = true →
      (s.atHandler opRegWrite r).layerWriteStatus ((wordWrites r.params).map (·.addr)) = Status.ok)
    (hw : (wordWrites r.params).find? (fun w => (s.atHandler opRegWrite r).wordStatus (wordWrites r.params) w != Status.ok) = some w)
    (hmaster : s.follower = true → r.target ≠ 0x0F) :
    Answers (.regWrite r) s (fun t =>
      (∃ p ∈ t.ring (r.ring + 8), p.bytes = sealed s.tag 0x8111 r.seq 0 s.position
          (le 2 ((s.atHandler opRegWrite r).wordStatus (wordWrites r.params) w) ++ le 2 0 ++ le 4 w.addr))
        ∧ KeptBut [.now, .pwr, .regs, .rings, .proto, .casc] s t ∧ RegsKeptBut answerFields s t) := by
  have hbad : (s.atHandler opRegWrite r).wordStatus (wordWrites r.params) w ≠ Status.ok := by
    simpa using List.find?_some (p := fun w => (s.atHandler opRegWrite r).wordStatus (wordWrites r.params) w != Status.ok) hw
  exact ⟨_, rfl, regWrite_refused s r hacc (not_good hbad (State.wordStatus_not_pending _ _ _))
    (runRegWrite_refused_word _ r w ⟨h6, h7, ha⟩ hl hw) hmaster⟩

/-- R202, R291: a write of the layer buffer area that is refused names its first word there. -/
theorem regWrite_refused_layer (r : Req) (w : WordWrite) (s : State) (hacc : s.accepts opRegWrite r) (h6 : leAt r.params 6 1 ≤ 1)
    (h7 : leAt r.params 7 1 = 0)
    (ha : accessFault (leAt r.params 0 4) (leAt r.params 4 2) (if bit (leAt r.params 6 1) 0 then 506 else 1012) = none)
    (hw : (wordWrites r.params).find? (fun x => inLayers x.addr) = some w)
    (hl : (s.atHandler opRegWrite r).layerWriteStatus ((wordWrites r.params).map (·.addr)) ≠ Status.ok)
    (hmaster : s.follower = true → r.target ≠ 0x0F) :
    Answers (.regWrite r) s (fun t =>
      (∃ p ∈ t.ring (r.ring + 8), p.bytes = sealed s.tag 0x8111 r.seq 0 s.position
          (le 2 ((s.atHandler opRegWrite r).layerWriteStatus ((wordWrites r.params).map (·.addr))) ++ le 2 0 ++ le 4 w.addr))
        ∧ KeptBut [.now, .pwr, .regs, .rings, .proto, .casc] s t ∧ RegsKeptBut answerFields s t) :=
  ⟨_, rfl, regWrite_refused s r hacc (not_good hl (State.layerWriteStatus_not_pending _ _))
    (runRegWrite_refused_layer _ r w ⟨h6, h7, ha⟩ hw hl) hmaster⟩

/-! #### SCN_TICK (R46) -/

theorem regFields_scnTick : (regFields 0x40800004).getD [] = [Reg.SCN_TICK.TICK] := by decide

theorem scnTick_write (r : Req) (v : Nat) : RegisterWrite (withWrite 0x40800004 [v] r).params (plainWrite 0x40800004 (v % 2 ^ 32)) :=
  RegisterWrite.withWrite v r (by decide) (by decide) ⟨11, by decide⟩

theorem plainWrite_mod_over (a v old : Nat) : (plainWrite a (v % 2 ^ 32)).over old = v % 2 ^ 32 := plainWrite_over a (Nat.mod_lt _ (by decide)) old
theorem plainWrite_mod_acts (a v : Nat) : (plainWrite a (v % 2 ^ 32)).acts = v % 2 ^ 32 := plainWrite_acts a (Nat.mod_lt _ (by decide))

/-- A word written alone holds the value written. -/
theorem State.afterWrite_plain (s : State) (a v : Nat) : s.afterWrite [plainWrite a (v % 2 ^ 32)] a = v % 2 ^ 32 := by
  simpa [State.afterWrite] using plainWrite_mod_over a v _

/-- The frame tick is taken in READY and refused elsewhere. -/
theorem State.wordStatus_scnTick (s : State) (v : Nat) :
    s.wordStatus [plainWrite 0x40800004 (v % 2 ^ 32)] (plainWrite 0x40800004 (v % 2 ^ 32))
      = if s.power ≠ 2 then Status.badState else if outside 60 120 (v % 128) then Status.badParam else Status.ok := by
  rw [State.wordStatus_register _ _ ⟨11, by simp [region]⟩]
  simp only [State.registerStatus, plainWrite_addr, State.afterWrite_plain, Nat.reduceLeDiff, Nat.reduceLT, and_true, and_false, if_false, if_true,
    Nat.reduceEqDiff]
  rw [show v % 2 ^ 32 % 128 = v % 128 by omega]

/-- R46: in READY the frame tick takes a number from 60 to 120. -/
theorem scnTickWrite_ready (r : Req) (v : Nat) (s : State) (hacc : s.accepts opRegWrite (withWrite 0x40800004 [v] r)) (hp : s.power = 2)
    (hlo : 60 ≤ v % 128) (hhi : v % 128 ≤ 120) :
    Answers (.scnTickWrite r v) s (fun t =>
      t.get Reg.SCN_TICK.TICK = v % 128 ∧ (s.answers r → Replied s t opRegWrite r [])
        ∧ KeptBut [.now, .pwr, .regs, .rings, .proto, .casc] s t ∧ RegsKeptBut (Reg.SCN_TICK.TICK :: answerFields) s t) := by
  have hok : (s.atHandler opRegWrite (withWrite 0x40800004 [v] r)).wordStatus [plainWrite 0x40800004 (v % 2 ^ 32)] (plainWrite 0x40800004 (v % 2 ^ 32))
      = Status.ok := by
    rw [State.wordStatus_scnTick, if_neg (by simp [hp]), if_neg (by simp [outside]; omega)]
  obtain ⟨hget, hrep, hparts, hregs⟩ := (scnTick_write r v).fields hacc (by simp [ownWrite, hstRing]) hok
  rw [plainWrite_addr, regFields_scnTick] at hget hregs
  refine ⟨_, rfl, ?_, hrep, hparts, hregs⟩
  rw [hget _ (by simp) (by simp) (by decide), plainWrite_mod_over]
  change v % 2 ^ 32 / 2 ^ 0 % 2 ^ 7 = _
  omega

/-- R46: outside READY the frame tick is refused. -/
theorem scnTickWrite_refused (r : Req) (v : Nat) (s : State) (hacc : s.accepts opRegWrite (withWrite 0x40800004 [v] r)) (hp : s.power ≠ 2)
    (hmaster : s.follower = true → r.target ≠ 0x0F) :
    Answers (.scnTickWrite r v) s (fun t =>
      (∃ p ∈ t.ring (r.ring + 8), p.bytes = sealed s.tag 0x8111 r.seq 0 s.position (le 2 Status.badState ++ le 2 0 ++ le 4 0x40800004))
        ∧ KeptBut [.now, .pwr, .regs, .rings, .proto, .casc] s t ∧ RegsKeptBut answerFields s t) :=
  ⟨_, rfl, (scnTick_write r v).refused hacc (by rw [State.wordStatus_scnTick, if_pos (by simp [hp])]) (by decide) hmaster⟩

/-! #### DIAG_CTRL (R147) -/

theorem regFields_diagCtrl : (regFields 0x40B00000).getD [] = [Reg.DIAG_CTRL.FWD_EN, Reg.DIAG_CTRL.PROBE_EN, Reg.DIAG_CTRL.AUTO_REPAIR] := by decide

theorem diagCtrl_write (r : Req) (v : Nat) : RegisterWrite (withWrite 0x40B00000 [v] r).params (plainWrite 0x40B00000 (v % 2 ^ 32)) :=
  RegisterWrite.withWrite v r (by decide) (by decide) ⟨14, by decide⟩

/-- The diagnosis switches are taken in MANUFACTURE and SERVICE. -/
theorem State.wordStatus_diagCtrl (s : State) (v : Nat) :
    s.wordStatus [plainWrite 0x40B00000 (v % 2 ^ 32)] (plainWrite 0x40B00000 (v % 2 ^ 32))
      = if s.id.lifecycle = .manufacture ∨ s.id.lifecycle = .service then Status.ok else Status.notPermitted := by
  rw [State.wordStatus_register _ _ ⟨14, by simp [region]⟩]
  simp only [State.registerStatus, plainWrite_addr, Nat.reduceLeDiff, Nat.reduceLT, and_true, and_false, if_false, if_true, Nat.reduceEqDiff]

/-- R147: in MANUFACTURE and SERVICE the diagnosis switches take the word. -/
theorem diagCtrlWrite_written (r : Req) (v : Nat) (s : State) (hacc : s.accepts opRegWrite (withWrite 0x40B00000 [v] r))
    (hlife : s.id.lifecycle = .manufacture ∨ s.id.lifecycle = .service) :
    Answers (.diagCtrlWrite r v) s (fun t =>
      t.get Reg.DIAG_CTRL.FWD_EN = bits v 0 1 ∧ t.get Reg.DIAG_CTRL.PROBE_EN = bits v 1 1 ∧ t.get Reg.DIAG_CTRL.AUTO_REPAIR = bits v 2 1
        ∧ (s.answers r → Replied s t opRegWrite r []) ∧ KeptBut [.now, .pwr, .regs, .rings, .proto, .casc] s t
        ∧ RegsKeptBut ([Reg.DIAG_CTRL.FWD_EN, Reg.DIAG_CTRL.PROBE_EN, Reg.DIAG_CTRL.AUTO_REPAIR] ++ answerFields) s t) := by
  have hok : (s.atHandler opRegWrite (withWrite 0x40B00000 [v] r)).wordStatus [plainWrite 0x40B00000 (v % 2 ^ 32)] (plainWrite 0x40B00000 (v % 2 ^ 32))
      = Status.ok := by
    rw [State.wordStatus_diagCtrl, State.atHandler_id, if_pos hlife]
  obtain ⟨hget, hrep, hparts, hregs⟩ := (diagCtrl_write r v).fields hacc (by simp [ownWrite, hstRing]) hok
  rw [plainWrite_addr, regFields_diagCtrl] at hget hregs
  simp only [plainWrite_mod_over] at hget
  refine ⟨_, rfl, ?_, ?_, ?_, hrep, hparts, hregs⟩
  · rw [hget _ (by simp) (by decide) (by decide)]
    change v % 2 ^ 32 / 2 ^ 0 % 2 ^ 1 = v / 2 ^ 0 % 2 ^ 1
    omega
  · rw [hget _ (by simp) (by decide) (by decide)]
    change v % 2 ^ 32 / 2 ^ 1 % 2 ^ 1 = v / 2 ^ 1 % 2 ^ 1
    omega
  · rw [hget _ (by simp) (by decide) (by decide)]
    change v % 2 ^ 32 / 2 ^ 2 % 2 ^ 1 = v / 2 ^ 2 % 2 ^ 1
    omega

/-- R147: in every other life-cycle state a write to DIAG_CTRL is answered with NOT_PERMITTED and changes nothing. -/
theorem diagCtrlWrite_refused (r : Req) (v : Nat) (s : State) (hacc : s.accepts opRegWrite (withWrite 0x40B00000 [v] r))
    (hm : s.id.lifecycle ≠ .manufacture) (hs : s.id.lifecycle ≠ .service) (hmaster : s.follower = true → r.target ≠ 0x0F) :
    Answers (.diagCtrlWrite r v) s (fun t =>
      (∃ p ∈ t.ring (r.ring + 8), p.bytes = sealed s.tag 0x8111 r.seq 0 s.position (le 2 Status.notPermitted ++ le 2 0 ++ le 4 0x40B00000))
        ∧ KeptBut [.now, .pwr, .regs, .rings, .proto, .casc] s t ∧ RegsKeptBut answerFields s t) :=
  ⟨_, rfl, (diagCtrl_write r v).refused hacc
    (by rw [State.wordStatus_diagCtrl, State.atHandler_id, if_neg (by simp [hm, hs])]) (by decide) hmaster⟩

end Sys2Proof.Machine

namespace Sys2Proof.Machine

/-! ### Clearable counters (R549) -/

/-- In every register of the table fields of one place have one reset value. -/
theorem regTable_reset : ∀ x ∈ regTable, ∀ f ∈ x.fields, ∀ g ∈ x.fields, f.key = g.key → f.reset = g.reset := by decide +kernel

/-- Fields of one register at one place have one reset value. -/
theorem regFields_reset {a : Nat} {f g : Field} (hf : f ∈ (regFields a).getD []) (hg : g ∈ (regFields a).getD []) (hk : f.key = g.key) :
    f.reset = g.reset := by
  cases hfs : regFields a with
  | none => simp [hfs] at hf
  | some fs =>
    rw [hfs, Option.getD_some] at hf hg
    obtain ⟨x, hx, hat⟩ := List.exists_of_findSome?_eq_some hfs
    unfold RegFamily.fieldsAt at hat
    split at hat
    · rw [← Option.some.inj hat] at hf hg
      obtain ⟨f', hf', rfl⟩ := List.mem_map.1 hf
      obtain ⟨g', hg', rfl⟩ := List.mem_map.1 hg
      refine regTable_reset x hx f' hf' g' hg' ?_
      simp only [Field.key] at hk ⊢
      omega
    · simp at hat

/-- The fields of a list set to 0, in order. -/
def State.clearFields (s : State) (fs : List Field) : State := fs.foldl (fun (s : State) f => s.set f 0) s

theorem State.clearFields_kept (fs : List Field) : ∀ s : State, KeptBut [.regs] s (s.clearFields fs) := by
  induction fs with
  | nil => exact KeptBut.refl _
  | cons f fs ih => intro s; exact (State.set_kept s f 0).trans (ih _)

theorem State.clearFields_get_other (g : Field) (fs : List Field) : ∀ s : State, g.key ∉ fs.map Field.key → (s.clearFields fs).get g = s.get g := by
  induction fs with
  | nil => intro s _; rfl
  | cons f fs ih =>
    intro s h
    simp only [List.map_cons, List.mem_cons, not_or] at h
    exact (ih _ h.2).trans (State.get_set_other s _ _ _ h.1)

theorem State.clearFields_regs (s : State) (fs : List Field) : RegsKeptBut fs s (s.clearFields fs) := by
  intro g hg
  refine State.clearFields_get_other g fs s (fun hm => hg ?_)
  rw [List.map_append]
  exact List.mem_append_left _ hm

/-- A field that read 0, or is one of those cleared, reads 0. -/
theorem State.clearFields_get (f : Field) (fs : List Field) : ∀ s : State, (∀ g ∈ fs, f.key = g.key → f.reset = g.reset) →
    (s.get f = 0 ∨ f ∈ fs) → (s.clearFields fs).get f = 0 := by
  induction fs with
  | nil => intro s _ h; exact h.resolve_right (by simp)
  | cons g fs ih =>
    intro s hr h
    refine ih (s.set g 0) (fun x hx => hr x (List.mem_cons_of_mem _ hx)) ?_
    by_cases hk : f.key = g.key
    · left
      rw [State.get_set_key s g f 0 hk (hr g (by simp) hk), Nat.zero_mod]
    · rw [State.get_set_other s g f 0 hk]
      refine h.imp_right (fun hm => (List.mem_cons.1 hm).resolve_left ?_)
      rintro rfl
      exact hk rfl

theorem chkCntClear_write (r : Req) (a : Nat) : RegisterWrite (withWrite 0x40300104 [a] r).params (plainWrite 0x40300104 (a % 2 ^ 32)) :=
  RegisterWrite.withWrite a r (by decide) (by decide) ⟨6, by decide⟩

theorem State.wordStatus_chkCntClear (s : State) {a : Nat} (ha : a < 2 ^ 32) :
    s.wordStatus [plainWrite 0x40300104 (a % 2 ^ 32)] (plainWrite 0x40300104 (a % 2 ^ 32)) = clearStatus a := by
  rw [State.wordStatus_register _ _ ⟨6, by simp [region]⟩]
  rw [Nat.mod_eq_of_lt ha]
  simp only [State.registerStatus, plainWrite_addr, plainWrite_mask, plainWrite_acts _ ha, Nat.reduceLeDiff, Nat.reduceLT, and_true, and_false, if_false,
    if_true, Nat.reduceEqDiff]

theorem State.writeRegister_chkCntClear (s : State) (r : Req) {a : Nat} (ha : a < 2 ^ 32) :
    s.writeRegister r (plainWrite 0x40300104 (a % 2 ^ 32)) = s.clearFields ((regFields a).getD []) := by
  unfold State.writeRegister
  dsimp only
  rw [if_pos (by simp), if_neg (by simp), plainWrite_mod_acts, Nat.mod_eq_of_lt ha]
  rfl

/-- R549: the counter at the address written is cleared. -/
theorem chkCntClear_clears (r : Req) (address : Nat) (s : State) (ha : address < 2 ^ 32) (hacc : s.accepts opRegWrite (withWrite 0x40300104 [address] r))
    (hc : clearStatus address = Status.ok) :
    Answers (.chkCntClear r address) s (fun t =>
      (∀ f ∈ (regFields address).getD [], f.key ∉ (answerFields ++ eventFields).map Field.key → t.get f = 0)
        ∧ (s.answers r → Replied s t opRegWrite r []) ∧ KeptBut [.now, .pwr, .regs, .rings, .proto, .casc] s t
        ∧ RegsKeptBut ((regFields address).getD [] ++ answerFields) s t) := by
  generalize hh : s.atHandler opRegWrite (withWrite 0x40300104 [address] r) = h
  have hkept : KeptBut [.regs] h (h.clearFields ((regFields address).getD [])) := State.clearFields_kept _ h
  have hstart : KeptBut [.now, .pwr, .proto] s h := by rw [← hh]; exact State.atHandler_kept _ _ _
  have hstart' : RegsKeptBut ((regFields address).getD [] ++ answerFields) s h := RegsKeptBut.of_regs (by rw [← hh, State.atHandler_regs])
  obtain ⟨hrep, hparts, hregs⟩ := (chkCntClear_write r address).accepted (s := s) hacc (by rw [State.wordStatus_chkCntClear _ ha, hc])
    ((congrArg (State.writeRegister · _ _) hh).trans (State.writeRegister_chkCntClear h _ ha))
    ((hkept .rings (by simp)).trans (hstart .rings (by simp))) ((hkept .id (by simp)).trans (hstart .id (by simp)))
  refine ⟨_, rfl, fun f hf hk => ?_, hrep, ?_, ?_⟩
  · rw [hregs f hk]
    exact State.clearFields_get f _ h (fun g hg => regFields_reset hf hg) (Or.inr hf)
  · exact ((hstart.mono (by simp)).trans (hkept.mono (by simp))).trans (hparts.mono (by simp))
  · exact (hstart'.trans ((State.clearFields_regs h _).mono (by simp +contextual))).trans (hregs.mono (by simp +contextual))

/-- R549: the wrapping counters, those from NVM and the SAF_ ones are not cleared. -/
theorem chkCntClear_refused (r : Req) (address : Nat) (s : State) (hacc : s.accepts opRegWrite (withWrite 0x40300104 [address] r))
    (hc : address ∈ keptCounters) (hmaster : s.follower = true → r.target ≠ 0x0F) :
    Answers (.chkCntClear r address) s (fun t =>
      (∃ p ∈ t.ring (r.ring + 8), p.bytes = sealed s.tag 0x8111 r.seq 0 s.position (le 2 Status.notPermitted ++ le 2 0 ++ le 4 0x40300104))
        ∧ KeptBut [.now, .pwr, .regs, .rings, .proto, .casc] s t ∧ RegsKeptBut answerFields s t) := by
  have hlt : ∀ a ∈ keptCounters, a < 2 ^ 32 := by decide
  have hst : clearStatus address = Status.notPermitted := if_pos (by simpa using hc)
  exact ⟨_, rfl, (chkCntClear_write r address).refused hacc (by rw [State.wordStatus_chkCntClear _ (hlt _ hc), hst]) (by decide) hmaster⟩

/-! ### A conversion starts (R457) -/

theorem pwrMeas_write (r : Req) (n : Nat) : RegisterWrite (withWrite 0x4010002C [n] r).params (plainWrite 0x4010002C (n % 2 ^ 32)) :=
  RegisterWrite.withWrite n r (by decide) (by decide) ⟨4, by decide⟩

theorem State.wordStatus_pwrMeas (s : State) (n : Nat) :
    s.wordStatus [plainWrite 0x4010002C (n % 2 ^ 32)] (plainWrite 0x4010002C (n % 2 ^ 32)) = Status.ok := by
  rw [State.wordStatus_register _ _ ⟨4, by simp [region]⟩]
  simp only [State.registerStatus, plainWrite_addr, Nat.reduceLeDiff, Nat.reduceLT, false_and, if_false, Nat.reduceEqDiff]

/-- START with a supply: the conversion begins. -/
theorem State.writeRegister_pwrMeas (s : State) (r : Req) (supply : Nat) :
    s.writeRegister r (plainWrite 0x4010002C ((256 + supply % 4) % 2 ^ 32)) = (s.set Reg.PWR_MEAS_CTRL.SUPPLY (supply % 4)).measStart := by
  have hword : (256 + supply % 4) % 2 ^ 32 = 256 + supply % 4 := by omega
  have hstart : bit (256 + supply % 4) 8 = true := by
    rw [bit, Nat.testBit_eq_decide_div_mod_eq, decide_eq_true_eq]
    omega
  unfold State.writeRegister
  simp only [plainWrite_mod_over, plainWrite_mod_acts]
  rw [hword, if_neg (by simp), if_neg (by simp), if_pos (by simp), if_pos hstart, show (256 + supply % 4) % 4 = supply % 4 by omega]

theorem State.measStart_kept (s : State) : KeptBut [.regs, .pwr] s s.measStart := by
  intro p hp; cases p <;> first | rfl | simp at hp

/-- R457: writing START with a supply starts a conversion of that supply. -/
theorem pwrMeasStart_starts (r : Req) (supply : Nat) (s : State) (hacc : s.accepts opRegWrite (withWrite 0x4010002C [256 + supply % 4] r)) :
    Answers (.pwrMeasStart r supply) s (fun t =>
      t.get Reg.PWR_MEAS_CTRL.SUPPLY = supply % 4 ∧ t.get Reg.PWR_MEAS_CTRL.BUSY = 1 ∧ t.pwr.measAt = s.now + r.wait
        ∧ (s.answers r → Replied s t opRegWrite r []) ∧ KeptBut [.now, .pwr, .regs, .rings, .proto, .casc] s t
        ∧ RegsKeptBut ([Reg.PWR_MEAS_CTRL.SUPPLY, Reg.PWR_MEAS_CTRL.BUSY] ++ answerFields) s t) := by
  generalize hh : s.atHandler opRegWrite (withWrite 0x4010002C [256 + supply % 4] r) = h
  generalize hu : (h.set Reg.PWR_MEAS_CTRL.SUPPLY (supply % 4)).measStart = u
  have hkept : KeptBut [.regs, .pwr] h u := by
    rw [← hu]
    exact ((State.set_kept h _ _).mono (by simp)).trans (State.measStart_kept _)
  have hfields : RegsKeptBut [Reg.PWR_MEAS_CTRL.SUPPLY, Reg.PWR_MEAS_CTRL.BUSY] h u := by
    rw [← hu]
    exact (State.set_regs_kept h _ _ _ (key_mem_of_mem (by simp))).trans
      ((State.set_regs_kept _ Reg.PWR_MEAS_CTRL.BUSY 1 _ (key_mem_of_mem (by simp))).trans (RegsKeptBut.of_regs rfl))
  have hstart : KeptBut [.now, .pwr, .proto] s h := by rw [← hh]; exact State.atHandler_kept _ _ _
  have hstart' : RegsKeptBut ([Reg.PWR_MEAS_CTRL.SUPPLY, Reg.PWR_MEAS_CTRL.BUSY] ++ answerFields) s h :=
    RegsKeptBut.of_regs (by rw [← hh, State.atHandler_regs])
  have hnow : h.now = s.now + r.wait := by rw [← hh, State.atHandler_now]; rfl
  obtain ⟨hrep, hparts, hregs⟩ := (pwrMeas_write r (256 + supply % 4)).accepted (s := s) hacc (State.wordStatus_pwrMeas _ _)
    (((congrArg (State.writeRegister · _ _) hh).trans (State.writeRegister_pwrMeas h _ _)).trans hu)
    ((hkept .rings (by simp)).trans (hstart .rings (by simp))) ((hkept .id (by simp)).trans (hstart .id (by simp)))
  refine ⟨_, rfl, ?_, ?_, ?_, hrep, ?_, ?_⟩
  · rw [hregs _ (by decide), ← hu]
    change ((h.set Reg.PWR_MEAS_CTRL.SUPPLY (supply % 4)).set Reg.PWR_MEAS_CTRL.BUSY 1).get _ = _
    rw [State.get_set_other _ _ _ _ (by decide), State.get_set_same]
    exact Nat.mod_mod _ _
  · rw [hregs _ (by decide), ← hu]
    exact State.get_set_same (h.set Reg.PWR_MEAS_CTRL.SUPPLY (supply % 4)) Reg.PWR_MEAS_CTRL.BUSY 1
  · have hpwr : (s.command opRegWrite (withWrite 0x4010002C [256 + supply % 4] r)).pwr = u.pwr := hparts .pwr (by simp)
    rw [hpwr, ← hu]
    exact hnow
  · exact ((hstart.mono (by simp)).trans (hkept.mono (by simp))).trans (hparts.mono (by simp))
  · exact (hstart'.trans (hfields.mono (by simp +contextual))).trans (hregs.mono (by simp +contextual))

end Sys2Proof.Machine

namespace Sys2Proof.Machine

/-! ### Registers of the host buses (R321, R309) -/

/-- The address of a word of the HST_ region. -/
abbrev hstAddr (offset : Nat) : Nat := 0x41000000 + 4 * offset

theorem hstAddr_eq (offset : Nat) : hstAddr offset = 0x41000000 + 4 * offset := rfl

/-- Where the HST_ registers that are written stand. -/
theorem hstAddr_facts : ∀ o ∈ [0, 1, 2, 3, 4, 6, 7], region (hstAddr o) = some 19 ∧ accessFault (hstAddr o) 1 506 = none
    ∧ hstAddr o < 0x41100000 ∧ ((hstRing (hstAddr o)).isSome = true ∨ hstAddr o = 0x41000000) := by decide

/-- The field of HST_CTRL that the variant has no bus for. -/
def State.absentBus (s : State) : Field := if s.id.variant = .aw then Reg.HST_CTRL.DALI_EN else Reg.HST_CTRL.CAN_EN

/-- The fields of an HST_ register of which the variant has the bus. -/
def State.presentFields (s : State) (a : Nat) : List Field := ((regFields a).getD []).filter (fun f => f.key != s.absentBus.key)

/-- The table's fields of the HST_ registers that are written: writable, apart from each other and from what a write's end sets. -/
theorem hstTable : ∀ o ∈ [0, 1, 2, 3, 4, 6, 7],
    (regTable.filter (fun (f : RegFamily) => f.base == hstAddr o)).flatMap (·.fields) = (regFields (hstAddr o)).getD []
      ∧ ∀ f ∈ (regFields (hstAddr o)).getD [], f.acc = .rw ∧ f.key ∉ (plcaFields ++ answerFields ++ eventFields).map Field.key
          ∧ ∀ g ∈ (regFields (hstAddr o)).getD [], g.key = f.key → g = f := by decide +kernel

/-- The enables of the buses stand in HST_CTRL alone. -/
theorem hstTable_enables : ∀ o ∈ [1, 2, 3, 4, 6, 7], ∀ f ∈ (regFields (hstAddr o)).getD [],
    f.key ≠ Reg.HST_CTRL.DALI_EN.key ∧ f.key ≠ Reg.HST_CTRL.CAN_EN.key := by decide +kernel

theorem regFields_hstCtrl : (regFields 0x41000000).getD [] = [Reg.HST_CTRL.SPI_EN, Reg.HST_CTRL.CAN_EN, Reg.HST_CTRL.T1S_EN, Reg.HST_CTRL.DALI_EN] := by
  decide +kernel

theorem State.presentFields_eq (s : State) {o : Nat} (ho : o ∈ [1, 2, 3, 4, 6, 7]) : s.presentFields (hstAddr o) = (regFields (hstAddr o)).getD [] := by
  refine List.filter_eq_self.2 (fun f hf => ?_)
  obtain ⟨hdali, hcan⟩ := hstTable_enables o ho f hf
  rw [bne_iff_ne, State.absentBus]
  split
  · exact hdali
  · exact hcan

/-! #### The node's part in PLCA -/

theorem State.plcaFollow_kept (s : State) : KeptBut [.regs] s s.plcaFollow := by
  unfold State.plcaFollow
  dsimp only
  split
  · exact State.set_kept _ _ _
  · exact (State.setAll_kept _ s).trans (State.set_kept _ _ _)

theorem State.plcaFollow_regs (s : State) : RegsKeptBut plcaFields s s.plcaFollow := by
  unfold State.plcaFollow
  dsimp only
  split
  · exact State.set_regs_kept _ _ _ _ (by decide)
  · exact (RegsKeptBut.setAll s _ (by simp [plcaFields])).trans (State.set_regs_kept _ _ _ _ (by decide))

/-- With EN 0 the node takes no part (R309). -/
theorem State.plcaFollow_off (s : State) (h : s.get Reg.HST_T1S_PLCA.EN = 0) :
    s.plcaFollow.get Reg.HST_T1S_STATUS.PLCA_OK = 0 ∧ s.plcaFollow.get Reg.HST_T1S_STATUS.MODE = 1 ∧ s.plcaFollow.get Reg.HST_T1S_STATUS.COORD = 0 := by
  have hen : s.flag Reg.HST_T1S_PLCA.EN = false := by simp [State.flag, h]
  generalize hl : s.setAll [(Reg.HST_T1S_STATUS.PLCA_OK, 0), (Reg.HST_T1S_STATUS.MODE, 1)] = l
  have hen' : l.flag Reg.HST_T1S_PLCA.EN = false := by rw [← hl, State.flag, State.get_setAll_other _ _ _ (by decide)]; exact hen
  have heq : s.plcaFollow = l.set Reg.HST_T1S_STATUS.COORD 0 := by
    unfold State.plcaFollow
    simp only [hen, Bool.false_eq_true, if_false, hl, hen', Bool.and_false, Bool.false_and]
    rfl
  rw [heq, State.get_set_other _ _ _ _ (by decide), State.get_set_other _ _ _ _ (by decide), State.get_set_same, ← hl]
  exact ⟨State.get_setAll _ _ 0 s (by decide) (by simp), State.get_setAll _ _ 1 s (by decide) (by simp), rfl⟩

/-! #### A word of an HST_ register -/

/-- Fields written where they are writable and not the absent bus's are the present fields written. -/
theorem State.writeFields_present (v : Nat) (absent : Field) (fs : List Field) : ∀ s : State, (∀ f ∈ fs, f.acc = .rw) →
    fs.foldl (fun (s : State) (f : Field) => if f.acc == .rw && f.key != absent.key then s.set f (bits v f.lo f.width) else s) s
      = s.writeFields v 0 (fs.filter (fun f => f.key != absent.key)) := by
  induction fs with
  | nil => intro s _; rfl
  | cons f fs ih =>
    intro s h
    have hrw : f.acc = .rw := h f (by simp)
    rw [List.foldl_cons, ih _ (fun g hg => h g (List.mem_cons_of_mem _ hg)), List.filter_cons]
    by_cases hk : f.key = absent.key
    · simp [hk]
    · simp [hrw, hk, State.writeFields, State.writeField]

section
variable (s : State) {o : Nat} (v : Nat)

theorem State.setHstWord_eq (ho : o ∈ [0, 1, 2, 3, 4, 6, 7]) :
    s.setHstWord (hstAddr o) v = (s.writeFields v 0 (s.presentFields (hstAddr o))).plcaFollow := by
  obtain ⟨hfs, hrw⟩ := hstTable o ho
  unfold State.setHstWord
  dsimp only
  rw [hfs, State.writeFields_present _ _ _ _ (fun f hf => (hrw f hf).1)]
  rfl

theorem State.setHstWord_kept (ho : o ∈ [0, 1, 2, 3, 4, 6, 7]) : KeptBut [.regs] s (s.setHstWord (hstAddr o) v) := by
  rw [State.setHstWord_eq s v ho]
  exact (State.writeFields_kept _ _ _ s).trans (State.plcaFollow_kept _)

theorem State.setHstWord_regs (ho : o ∈ [0, 1, 2, 3, 4, 6, 7]) :
    RegsKeptBut ((regFields (hstAddr o)).getD [] ++ plcaFields) s (s.setHstWord (hstAddr o) v) := by
  rw [State.setHstWord_eq s v ho]
  refine ((State.writeFields_regs s v 0 _).mono (fun f hf => ?_)).trans ((State.plcaFollow_regs _).mono (by simp +contextual))
  exact List.mem_append_left _ (List.mem_filter.1 hf).1

/-- A field of a bus that the variant has reads as written. -/
theorem State.setHstWord_get (ho : o ∈ [0, 1, 2, 3, 4, 6, 7]) {f : Field} (hf : f ∈ s.presentFields (hstAddr o)) :
    (s.setHstWord (hstAddr o) v).get f = bits v f.lo f.width := by
  obtain ⟨-, hfs⟩ := hstTable o ho
  obtain ⟨hacc, hkey, hu⟩ := hfs f (List.mem_filter.1 hf).1
  have hplca : f.key ∉ (plcaFields ++ eventFields).map Field.key := by
    intro hm
    refine hkey ?_
    simp only [List.map_append, List.mem_append] at hm ⊢
    exact hm.imp_left Or.inl
  rw [State.setHstWord_eq s v ho, State.plcaFollow_regs _ f hplca, State.writeFields_get _ _ _ _ _ hf (fun g hg => hu g (List.mem_filter.1 hg).1),
    Field.written, hacc]
end

/-- The change of a bus's register put off until the reply has left (R321). -/
def State.deferHst (s : State) (r : Req) (a v : Nat) : State := s.setBus { s.bus with deferred := s.bus.deferred ++ [(r.ring, r.seq, a, v)] }

theorem State.setBus_kept (s : State) (b : Buses) : KeptBut [.bus] s (s.setBus b) := by
  intro p hp; cases p <;> first | rfl | simp at hp

/-- A word of the HST_ region goes to its bus. -/
theorem State.writeRegister_hst (s : State) (r : Req) {o v : Nat} (ho : o ∈ [0, 1, 2, 3, 4, 6, 7]) (hv : v < 2 ^ 32) :
    s.writeRegister r (plainWrite (hstAddr o) v) = s.writeHst r (hstAddr o) v := by
  obtain ⟨-, -, -, hbus⟩ := hstAddr_facts o ho
  have haddr := hstAddr_eq o
  unfold State.writeRegister
  dsimp only
  rw [plainWrite_addr, if_neg (by omega), if_neg (by omega), if_neg (by omega), if_pos hbus, plainWrite_over _ hv]

/-- The register of one bus: put off when that bus answers the request, at once otherwise. -/
theorem State.writeHst_bus (s : State) (r : Req) {o : Nat} (v : Nat) (ho : 0 < o) :
    s.writeHst r (hstAddr o) v
      = if r.reply = true ∧ hstRing (hstAddr o) = some r.ring then s.deferHst r (hstAddr o) v else s.setHstWord (hstAddr o) v := by
  have haddr := hstAddr_eq o
  unfold State.writeHst
  dsimp only
  rw [if_neg (by omega), if_neg (by omega)]
  rfl

/-- What a word written alone leaves for the check of the whole write. -/
theorem State.afterWrite_one (s : State) (a : Nat) {v : Nat} (hv : v < 2 ^ 32) :
    s.afterWrite [plainWrite a v] = fun x => if x = a then v else s.registerWord x := by
  funext x
  by_cases hx : x = a
  · subst hx
    simpa [State.afterWrite] using plainWrite_over x hv _
  · simp [State.afterWrite, hx, Ne.symm hx]

/-- The status of a word of the HST_ region is that of R321. -/
theorem State.registerStatus_hst (s : State) (after : Nat → Nat) (w : WordWrite) (hlo : 0x41000000 ≤ w.addr) (hhi : w.addr < 0x41100000) :
    s.registerStatus after w = if s.hstBad after w.addr then Status.badParam else Status.ok := by
  unfold State.registerStatus
  dsimp only
  rw [if_neg (by omega), if_neg (by omega), if_neg (by omega), if_neg (by omega), if_neg (by omega), if_neg (by omega), if_neg (by omega),
    if_neg (by omega), if_neg (by omega), if_neg (by omega), if_pos ⟨hlo, hhi⟩]

theorem State.wordStatus_hst (s : State) {o v : Nat} (ho : o ∈ [0, 1, 2, 3, 4, 6, 7]) (hv : v < 2 ^ 32)
    (hb : s.hstBad (fun x => if x = hstAddr o then v else s.registerWord x) (hstAddr o) = false) :
    s.wordStatus [plainWrite (hstAddr o) v] (plainWrite (hstAddr o) v) = Status.ok := by
  obtain ⟨hreg, -, hhi, -⟩ := hstAddr_facts o ho
  rw [State.wordStatus_register _ _ ⟨19, by rw [plainWrite_addr, hreg], by decide, by decide⟩,
    State.registerStatus_hst _ _ _ (Nat.le_add_right _ _) hhi, State.afterWrite_one _ _ hv, plainWrite_addr, hb]
  rfl

theorem hst_write (r : Req) {o v : Nat} (ho : o ∈ [0, 1, 2, 3, 4, 6, 7]) (hv : v < 2 ^ 32) :
    RegisterWrite (withWrite (hstAddr o) [v] r).params (plainWrite (hstAddr o) v) := by
  obtain ⟨hreg, hfault, hhi, -⟩ := hstAddr_facts o ho
  have h := RegisterWrite.withWrite v r (show hstAddr o < 2 ^ 32 by omega) hfault ⟨19, hreg, by decide, by decide⟩
  rwa [Nat.mod_eq_of_lt hv] at h

/-- A write of an HST_ register that is accepted, from the state `u` that it leaves. -/
theorem hstWrite_accepted {s h u : State} {r : Req} {o v : Nat} (hh : s.atHandler opRegWrite r = h) (ho : o ∈ [0, 1, 2, 3, 4, 6, 7]) (hv : v < 2 ^ 32)
    (hacc : s.accepts opRegWrite (withWrite (hstAddr o) [v] r))
    (hb : h.hstBad (fun x => if x = hstAddr o then v else h.registerWord x) (hstAddr o) = false)
    (hu : h.writeHst (withWrite (hstAddr o) [v] r) (hstAddr o) v = u) (hkept : KeptBut [.regs, .bus] h u) :
    (s.answers r → Replied s (s.command opRegWrite (withWrite (hstAddr o) [v] r)) opRegWrite r [])
      ∧ KeptBut answerParts u (s.command opRegWrite (withWrite (hstAddr o) [v] r))
      ∧ RegsKeptBut answerFields u (s.command opRegWrite (withWrite (hstAddr o) [v] r))
      ∧ KeptBut [.now, .pwr, .bus, .regs, .rings, .proto, .casc] s (s.command opRegWrite (withWrite (hstAddr o) [v] r)) := by
  subst hh
  have hstart := State.atHandler_kept s opRegWrite r
  obtain ⟨hrep, hparts, hregs⟩ := (hst_write r ho hv).accepted hacc (State.wordStatus_hst _ ho hv hb) ((State.writeRegister_hst _ _ ho hv).trans hu)
    ((hkept .rings (by simp)).trans (hstart .rings (by simp))) ((hkept .id (by simp)).trans (hstart .id (by simp)))
  exact ⟨hrep, hparts, hregs, ((hstart.mono (by simp)).trans (hkept.mono (by simp))).trans (hparts.mono (by simp))⟩

/-- R321: a write of a bus's register acts at once, or after its reply when that bus answers the write. -/
theorem hstRegisterWrite_bus (r : Req) (offset v : Nat) (s : State)
    (hacc : s.accepts opRegWrite (withWrite (0x41000000 + 4 * (offset % 2 ^ 18)) [v] r)) (hv : v < 2 ^ 32) (ho : offset ∈ [1, 2, 3, 4, 6, 7])
    (hb : (s.atHandler opRegWrite r).hstBad (fun x => if x = 0x41000000 + 4 * offset then v else (s.atHandler opRegWrite r).registerWord x)
      (0x41000000 + 4 * offset) = false) :
    Answers (.hstRegisterWrite r offset v) s (fun t =>
      (¬ (r.reply = true ∧ hstRing (0x41000000 + 4 * offset) = some r.ring) →
          (∀ f ∈ (regFields (0x41000000 + 4 * offset)).getD [], t.get f = bits v f.lo f.width) ∧ t.bus = s.bus
            ∧ (offset = 6 → bit v 0 = false →
                t.get Reg.HST_T1S_STATUS.PLCA_OK = 0 ∧ t.get Reg.HST_T1S_STATUS.MODE = 1 ∧ t.get Reg.HST_T1S_STATUS.COORD = 0))
        ∧ (r.reply = true → hstRing (0x41000000 + 4 * offset) = some r.ring →
          t.bus = { s.bus with deferred := s.bus.deferred ++ [(r.ring, r.seq, 0x41000000 + 4 * offset, v)] } ∧ RegsKeptBut answerFields s t)
        ∧ (s.answers r → Replied s t opRegWrite r []) ∧ KeptBut [.now, .pwr, .bus, .regs, .rings, .proto, .casc] s t
        ∧ RegsKeptBut ((regFields (0x41000000 + 4 * offset)).getD [] ++ plcaFields ++ answerFields) s t) := by
  obtain ⟨hmod, hpos⟩ := (show ∀ o ∈ [1, 2, 3, 4, 6, 7], o % 2 ^ 18 = o ∧ 0 < o by decide) offset ho
  have ho' : offset ∈ [0, 1, 2, 3, 4, 6, 7] := List.mem_cons_of_mem _ ho
  rw [hmod] at hacc
  have hexec : exec (.hstRegisterWrite r offset v) s = .next (s.command opRegWrite (withWrite (hstAddr offset) [v] r)) := by
    change Host.Outcome.next (s.command opRegWrite (withWrite (0x41000000 + 4 * (offset % 2 ^ 18)) [v] r)) = _
    rw [hmod]
  generalize hh : s.atHandler opRegWrite r = h at hb
  have hstart : RegsKeptBut ((regFields (hstAddr offset)).getD [] ++ plcaFields ++ answerFields) s h :=
    RegsKeptBut.of_regs (by rw [← hh, State.atHandler_regs])
  have hbus : h.bus = s.bus := by rw [← hh, State.atHandler_bus]
  by_cases hd : r.reply = true ∧ hstRing (hstAddr offset) = some r.ring
  · have hu : h.writeHst (withWrite (hstAddr offset) [v] r) (hstAddr offset) v = h.deferHst r (hstAddr offset) v :=
      (State.writeHst_bus h _ v hpos).trans (if_pos hd)
    obtain ⟨hrep, hparts, hregs, hkept⟩ := hstWrite_accepted hh ho' hv hacc hb hu ((State.setBus_kept h _).mono (by simp))
    refine ⟨_, hexec, fun hn => absurd hd hn, fun _ _ => ⟨?_, ?_⟩, hrep, hkept, ?_⟩
    · have : (s.command opRegWrite (withWrite (hstAddr offset) [v] r)).bus = (h.deferHst r (hstAddr offset) v).bus := hparts .bus (by simp)
      rw [this, ← hbus]
      rfl
    · exact (RegsKeptBut.of_regs (by rw [← State.atHandler_regs s opRegWrite r, hh]; rfl)).trans hregs
    · exact (hstart.trans (RegsKeptBut.of_regs rfl)).trans (hregs.mono (fun f hf => List.mem_append_right _ hf))
  · have hu : h.writeHst (withWrite (hstAddr offset) [v] r) (hstAddr offset) v = h.setHstWord (hstAddr offset) v :=
      (State.writeHst_bus h _ v hpos).trans (if_neg hd)
    have hset := State.setHstWord_kept h v ho'
    obtain ⟨hrep, hparts, hregs, hkept⟩ := hstWrite_accepted hh ho' hv hacc hb hu (hset.mono (by simp))
    refine ⟨_, hexec, fun _ => ⟨fun f hf => ?_, ?_, fun h6 h0 => ?_⟩, fun hr hring => absurd ⟨hr, hring⟩ hd, hrep, hkept, ?_⟩
    · obtain ⟨-, hkey, -⟩ := (hstTable offset ho').2 f hf
      have hk : f.key ∉ (answerFields ++ eventFields).map Field.key := by
        intro hm
        refine hkey ?_
        rw [List.append_assoc, List.map_append]
        exact List.mem_append_right _ hm
      rw [hregs f hk]
      exact State.setHstWord_get h v ho' (by rw [State.presentFields_eq h ho]; exact hf)
    · exact ((hparts .bus (by simp)).trans (hset .bus (by simp))).trans hbus
    · subst h6
      have hen : (h.writeFields v 0 (h.presentFields (hstAddr 6))).get Reg.HST_T1S_PLCA.EN = 0 := by
        have hmem : Reg.HST_T1S_PLCA.EN ∈ (regFields (hstAddr 6)).getD [] := by decide +kernel
        have := State.setHstWord_get h v ho' (f := Reg.HST_T1S_PLCA.EN) (by rw [State.presentFields_eq h ho]; exact hmem)
        rw [State.setHstWord_eq h v ho', State.plcaFollow_regs _ _ (by decide)] at this
        rw [this]
        simpa [bit, bits, Nat.testBit_eq_decide_div_mod_eq, Reg.HST_T1S_PLCA.EN] using h0
      obtain ⟨hok, hmode, hcoord⟩ := State.plcaFollow_off _ hen
      rw [hregs _ (by decide), hregs _ (by decide), hregs _ (by decide), State.setHstWord_eq h v ho']
      exact ⟨hok, hmode, hcoord⟩
    · exact (hstart.trans ((State.setHstWord_regs h v ho').mono (fun f hf => List.mem_append_left _ hf))).trans (hregs.mono (fun f hf => List.mem_append_right _ hf))

end Sys2Proof.Machine

namespace Sys2Proof.Machine

/-! #### HST_CTRL (R321) -/

/-- The enables of the buses. -/
abbrev busEnables : List Field := [Reg.HST_CTRL.SPI_EN, Reg.HST_CTRL.CAN_EN, Reg.HST_CTRL.T1S_EN, Reg.HST_CTRL.DALI_EN]

/-- A one-bit field put in place of another leaves the other bits of a number as they were. -/
theorem bits_replaced {k i own v : Nat} (hk : k < 4) (hi : i < 4) (hik : i ≠ k) (hown : own < 2) :
    bits (v - bits v k 1 * 2 ^ k + own * 2 ^ k) i 1 = bits v i 1 := by
  unfold bits
  obtain rfl | rfl | rfl | rfl : k = 0 ∨ k = 1 ∨ k = 2 ∨ k = 3 := by omega
  all_goals
    obtain rfl | rfl | rfl | rfl : i = 0 ∨ i = 1 ∨ i = 2 ∨ i = 3 := by omega
    all_goals omega

/-- HST_CTRL in the master: each bus but the one that answers the write takes its bit; the change of that one may be put off. -/
theorem State.writeHst_ctrl (s : State) (r : Req) (v : Nat) (hf : s.follower = false) :
    ∃ x b, s.writeHst r 0x41000000 v = (s.setHstWord 0x41000000 x).setBus b
      ∧ ∀ i, i < 4 → ¬ (r.reply = true ∧ r.ring = i) → bits x i 1 = bits v i 1 := by
  generalize hown : s.hstEnables (s.regWord 0x41000000) / 2 ^ r.ring % 2 = own
  unfold State.writeHst
  simp only [hf, Bool.false_eq_true, and_false, if_false, true_and, hown]
  split
  case isTrue h =>
    split
    · exact ⟨v, (s.setHstWord 0x41000000 v).bus, rfl, fun _ _ _ => rfl⟩
    · refine ⟨_, _, rfl, fun i hi hne => bits_replaced h.2 hi (fun he => hne ⟨h.1, he.symm⟩) ?_⟩
      rw [← hown]
      exact Nat.mod_lt _ (by decide)
  case isFalse =>
    rw [if_neg (by simp [hstRing])]
    exact ⟨v, (s.setHstWord 0x41000000 v).bus, rfl, fun _ _ _ => rfl⟩

/-- R321: the master's HST_CTRL takes the bits of the buses that it has; the bus that answers the write keeps its bit till then. -/
theorem hstCtrlWrite_master (r : Req) (v : Nat) (s : State) (hacc : s.accepts opRegWrite (withWrite 0x41000000 [v] r)) (hv : v < 2 ^ 32)
    (hf : s.follower = false) (hen : s.hstEnables v ≠ 0) :
    Answers (.hstRegisterWrite r 0 v) s (fun t =>
      (∀ f ∈ [Reg.HST_CTRL.SPI_EN, Reg.HST_CTRL.CAN_EN, Reg.HST_CTRL.T1S_EN, Reg.HST_CTRL.DALI_EN],
          f ≠ (if s.id.variant = .aw then Reg.HST_CTRL.DALI_EN else Reg.HST_CTRL.CAN_EN) →
          ¬ (r.reply = true ∧ r.ring = f.lo) → t.get f = bits v f.lo 1)
        ∧ KeptBut [.now, .pwr, .bus, .regs, .rings, .proto, .casc] s t
        ∧ RegsKeptBut ([Reg.HST_CTRL.SPI_EN, Reg.HST_CTRL.CAN_EN, Reg.HST_CTRL.T1S_EN, Reg.HST_CTRL.DALI_EN] ++ plcaFields ++ answerFields) s t) := by
  have h0 : 0 ∈ [0, 1, 2, 3, 4, 6, 7] := by decide
  generalize hh : s.atHandler opRegWrite r = h
  have hid : h.id = s.id := by rw [← hh, State.atHandler_id]
  have hfol : h.follower = false := by rw [State.follower, hid]; exact hf
  have hbad : h.hstBad (fun x => if x = hstAddr 0 then v else h.registerWord x) (hstAddr 0) = false := by
    have henables : h.hstEnables v = s.hstEnables v := by rw [State.hstEnables, hid]; rfl
    simp [State.hstBad, hfol, henables, hen]
  obtain ⟨x, b, hwrite, hbits⟩ := State.writeHst_ctrl h (withWrite 0x41000000 [v] r) v hfol
  have hset : KeptBut [.regs] h (h.setHstWord (hstAddr 0) x) := State.setHstWord_kept h x h0
  have hregs₁ : RegsKeptBut (busEnables ++ plcaFields) h (h.setHstWord (hstAddr 0) x) := by
    have := State.setHstWord_regs h x h0
    rwa [regFields_hstCtrl] at this
  obtain ⟨-, -, hregs, hkept⟩ := hstWrite_accepted (o := 0) hh h0 hv hacc hbad hwrite
    ((hset.mono (by simp)).trans ((State.setBus_kept _ b).mono (by simp)))
  refine ⟨_, rfl, fun f hf habsent hne => ?_, hkept, ?_⟩
  · have hfact : ∀ f ∈ busEnables, f.key ∉ (answerFields ++ eventFields).map Field.key ∧ f.width = 1 ∧ f.lo < 4
        ∧ (f ≠ Reg.HST_CTRL.DALI_EN → f.key ≠ Reg.HST_CTRL.DALI_EN.key) ∧ (f ≠ Reg.HST_CTRL.CAN_EN → f.key ≠ Reg.HST_CTRL.CAN_EN.key) := by decide
    obtain ⟨hk, hwidth, hlo, hdali, hcan⟩ := hfact f hf
    have hpresent : f ∈ h.presentFields (hstAddr 0) := by
      refine List.mem_filter.2 ⟨by rw [regFields_hstCtrl]; exact hf, ?_⟩
      rw [bne_iff_ne, State.absentBus, hid]
      split at habsent
      case isTrue hv => rw [if_pos hv]; exact hdali habsent
      case isFalse hv => rw [if_neg hv]; exact hcan habsent
    have hget : (h.setHstWord (hstAddr 0) x).get f = bits x f.lo 1 := by rw [State.setHstWord_get h x h0 hpresent, hwidth]
    exact ((hregs f hk).trans hget).trans (hbits f.lo hlo hne)
  · have hstart : RegsKeptBut (busEnables ++ plcaFields ++ answerFields) s h := RegsKeptBut.of_regs (by rw [← hh, State.atHandler_regs])
    exact ((hstart.trans (hregs₁.mono (fun f hf => List.mem_append_left _ hf))).trans (RegsKeptBut.of_regs rfl)).trans
      (hregs.mono (fun f hf => List.mem_append_right _ hf))

/-- R321: a follower's HST_CTRL takes nothing. -/
theorem hstCtrlWrite_follower (r : Req) (v : Nat) (s : State) (hacc : s.accepts opRegWrite (withWrite 0x41000000 [v] r)) (hv : v < 2 ^ 32)
    (hf : s.follower = true) :
    Answers (.hstRegisterWrite r 0 v) s (fun t =>
      (s.answers r → Replied s t opRegWrite r []) ∧ KeptBut [.now, .pwr, .regs, .rings, .proto, .casc] s t ∧ RegsKeptBut answerFields s t) := by
  generalize hh : s.atHandler opRegWrite r = h
  have hfol : h.follower = true := by rw [← hh, State.atHandler_follower, hf]
  have hbad : h.hstBad (fun x => if x = hstAddr 0 then v else h.registerWord x) (hstAddr 0) = false := by simp [State.hstBad, hfol]
  have hwrite : h.writeHst (withWrite (hstAddr 0) [v] r) (hstAddr 0) v = h := if_pos ⟨rfl, hfol⟩
  obtain ⟨hrep, hparts, hregs, -⟩ := hstWrite_accepted (o := 0) hh (by decide) hv hacc hbad hwrite (KeptBut.refl _ h)
  have hstart : KeptBut [.now, .pwr, .proto] s h := by rw [← hh]; exact State.atHandler_kept _ _ _
  exact ⟨_, rfl, hrep, (hstart.mono (by simp)).trans (hparts.mono (by simp)),
    (RegsKeptBut.of_regs (by rw [← hh, State.atHandler_regs])).trans hregs⟩

end Sys2Proof.Machine

namespace Sys2Proof.Machine

/-! ### Words into a layer's back buffer (R202) -/

theorem Memory.writeN_append (d : Byte) (xs ys : List Byte) : ∀ (m : Memory) (a : Nat),
    Memory.writeN d m a (xs ++ ys) = Memory.writeN d (Memory.writeN d m a xs) (a + xs.length) ys := by
  induction xs with
  | nil => intro m a; rfl
  | cons x xs ih =>
    intro m a
    rw [List.cons_append, Memory.writeN, ih, List.length_cons, Memory.writeN, show a + 1 + xs.length = a + (xs.length + 1) by omega]

/-- The bytes of a number are those of the number cut to as many bytes. -/
theorem le_mod (k n : Nat) : le k (n % 256 ^ k) = le k n := by
  refine List.ext_getElem (by simp) (fun i h₁ h₂ => ?_)
  rw [getElem_le, getElem_le]
  rw [length_le] at h₁
  refine BitVec.eq_of_toNat_eq ?_
  rw [byte, byte, BitVec.toNat_ofNat, BitVec.toNat_ofNat]
  obtain ⟨j, rfl⟩ : ∃ j, k = i + (j + 1) := ⟨k - i - 1, by omega⟩
  have h8 : 2 ^ 8 = 256 := rfl
  rw [h8, Nat.pow_add, Nat.mod_mul_right_div_self, Nat.pow_succ', Nat.mod_mul_right_mod]

/-- Byte `i` of words in a row is byte `i % 4` of word `i / 4`. -/
theorem getElem_words (ws : List Nat) : ∀ (i : Nat) (h : i < (ws.flatMap (le 4)).length), (ws.flatMap (le 4))[i] = byte (nth 0 ws (i / 4) / 256 ^ (i % 4)) := by
  induction ws with
  | nil => intro i h; simp at h
  | cons w ws ih =>
    intro i h
    simp only [List.flatMap_cons]
    by_cases hi : i < 4
    · rw [List.getElem_append_left (by simpa using hi), getElem_le, Nat.div_eq_of_lt hi, Nat.mod_eq_of_lt hi]
      rfl
    · rw [List.getElem_append_right (by simpa using hi), ih]
      simp only [length_le]
      obtain ⟨j, rfl⟩ : ∃ j, i = j + 4 := ⟨i - 4, by omega⟩
      rw [Nat.add_sub_cancel, Nat.add_div_right _ (by decide), Nat.add_mod_right]
      rfl

theorem length_words (ws : List Nat) : (ws.flatMap (le 4)).length = 4 * ws.length := by
  induction ws with
  | nil => rfl
  | cons w ws ih => simp only [List.flatMap_cons, List.length_append, length_le, ih, List.length_cons]; omega

/-- The writes of a list of words, in order of their addresses. -/
def plainWrites : Nat → List Nat → List WordWrite
  | _, [] => []
  | a, w :: ws => plainWrite a (w % 2 ^ 32) :: plainWrites (a + 4) ws

theorem wordWrites_eq_plainWrites (ws : List Nat) : ∀ a,
    (List.range ws.length).map (fun i => plainWrite (a + 4 * i) (nth 0 ws i % 2 ^ 32)) = plainWrites a ws := by
  induction ws with
  | nil => intro a; rfl
  | cons w ws ih =>
    intro a
    rw [List.length_cons, List.range_succ_eq_map, List.map_cons, List.map_map, plainWrites, ← ih]
    refine congrArg (List.cons _) (List.map_congr_left (fun i _ => ?_))
    change plainWrite (a + 4 * (i + 1)) (nth 0 ws i % 2 ^ 32) = _
    rw [show a + 4 * (i + 1) = a + 4 + 4 * i by omega]

/-- A word of the layer buffer area is stored as it is. -/
theorem State.writeWord32_layer (s : State) (r : Req) {a v : Nat} (hlo : 0x01000000 ≤ a) (hhi : a + 4 ≤ 0x01400000) (hv : v < 2 ^ 32) :
    s.writeWord32 r (plainWrite a v) = { s with sram := Memory.writeN 0 s.sram a (le 4 v) } := by
  have hblank : (le 4 v).mapIdx (fun i b => b ^^^ byte (sramBlank (a + i))) = le 4 v := by
    refine List.ext_getElem (by simp) (fun i h₁ h₂ => ?_)
    rw [length_le] at h₂
    rw [List.getElem_mapIdx, sramBlank, if_neg (by omega)]
    exact BitVec.xor_zero
  have hreg : region a = some 0 := if_pos (by omega)
  rw [State.writeWord32, plainWrite_addr, hreg]
  simp only [plainWrite_over a hv, hblank]

/-- Words of the layer buffer area are stored one after the other. -/
theorem State.writeWords_layer (r : Req) (ws : List Nat) : ∀ (s : State) (a : Nat), 0x01000000 ≤ a → a + 4 * ws.length ≤ 0x01400000 →
    (plainWrites a ws).foldl (fun (s : State) w => s.writeWord32 r w) s = { s with sram := Memory.writeN 0 s.sram a (ws.flatMap (le 4)) } := by
  induction ws with
  | nil => intro s a _ _; rfl
  | cons w ws ih =>
    intro s a hlo hhi
    rw [List.length_cons] at hhi
    rw [plainWrites, List.foldl_cons, State.writeWord32_layer s r hlo (by omega) (Nat.mod_lt _ (by decide)), ih _ _ (by omega) (by omega),
      List.flatMap_cons, Memory.writeN_append, length_le, show le 4 (w % 2 ^ 32) = le 4 w from le_mod 4 w]

/-! #### The banks of an access -/

theorem State.wakeBank_spec (s : State) {bank : Nat} (hb : bank < 32) :
    RingsTake s (s.wakeBank bank) ∧ KeptBut [.now, .draws, .regs, .rings, .proto] s (s.wakeBank bank) := by
  unfold State.wakeBank
  split
  · rw [State.switch, if_pos hb]
    constructor
    · exact (RingsTake.of_rings (s := s) (t := (s.wait (s.free % (us 120 + 1))).drawn) rfl rfl).trans ((RingsTake.set _ _ _).trans (RingsTake.bump _ _ _))
    · have hdraw : KeptBut [.now, .draws] s (s.wait (s.free % (us 120 + 1))).drawn := by
        intro p hp; cases p <;> first | rfl | simp at hp
      have hbump := (Quiet.bump ((s.wait (s.free % (us 120 + 1))).drawn.set (bankField bank) 2) Reg.PWR_ONDEMAND_COUNT.COUNT Reg.PWR_STATE.CNT_SAT
        [Reg.PWR_ONDEMAND_COUNT.COUNT, Reg.PWR_STATE.CNT_SAT] (by decide) (by decide)).1
      exact ((hdraw.mono (by simp)).trans ((State.set_kept _ _ _).mono (by simp))).trans (hbump.mono (by simp))
  · exact ⟨RingsTake.refl s, KeptBut.refl _ s⟩

theorem State.wakeBanks_spec (s : State) {a n : Nat} (h : a + 4 * n ≤ 2 ^ 25) (ha : a < 2 ^ 25) :
    RingsTake s (s.wakeBanks a n) ∧ KeptBut [.now, .draws, .regs, .rings, .proto] s (s.wakeBanks a n) := by
  have hbanks : ∀ b ∈ [a / 2 ^ 20, (a + 4 * n - 4) / 2 ^ 20].eraseDups, b < 32 := by
    intro b hb
    rw [List.mem_eraseDups] at hb
    simp only [List.mem_cons, List.not_mem_nil, or_false] at hb
    omega
  unfold State.wakeBanks
  split
  · generalize [a / 2 ^ 20, (a + 4 * n - 4) / 2 ^ 20].eraseDups = l at hbanks
    induction l generalizing s with
    | nil => exact ⟨RingsTake.refl s, KeptBut.refl _ s⟩
    | cons b l ih =>
      obtain ⟨hrings, hkept⟩ := State.wakeBank_spec s (hbanks b (by simp))
      obtain ⟨hrings', hkept'⟩ := ih (s.wakeBank b) (fun c hc => hbanks c (List.mem_cons_of_mem _ hc))
      exact ⟨hrings.trans hrings', hkept.trans hkept'⟩
  · exact ⟨RingsTake.refl s, KeptBut.refl _ s⟩

/-! #### The write -/

/-- An access of words in SRAM is sound. -/
theorem accessFault_sram {a n most : Nat} (ha : a % 4 = 0) (hn : 1 ≤ n) (hm : n ≤ most) (hhi : a + 4 * n ≤ 0x02000000) : accessFault a n most = none := by
  unfold accessFault
  rw [if_neg (by omega), List.find?_eq_none]
  intro x hx
  obtain ⟨i, hi, rfl⟩ := List.mem_map.1 hx
  have hi' := List.mem_range.1 hi
  have h₁ : region (a + 4 * i) = some 0 := if_pos (by omega)
  have h₂ : region a = some 0 := if_pos (by omega)
  rw [h₁, h₂]
  decide

theorem map_addr_plainWrites (a : Nat) (ws : List Nat) : (plainWrites a ws).map (·.addr) = wordsFrom a ws.length := by
  rw [← wordWrites_eq_plainWrites, List.map_map]
  rfl

/-- Every word of a write into the area lies in the area. -/
theorem mem_plainWrites {a : Nat} {ws : List Nat} {w : WordWrite} (h : w ∈ plainWrites a ws) : a ≤ w.addr ∧ w.addr < a + 4 * ws.length := by
  rw [← wordWrites_eq_plainWrites] at h
  obtain ⟨i, hi, rfl⟩ := List.mem_map.1 h
  have := List.mem_range.1 hi
  simp only [plainWrite_addr]
  omega

/-- The words of a layer write, once it is allowed, are stored after the banks are powered. -/
theorem runRegWrite_layer (s : State) (r : Req) {offset : Nat} {words : List Nat} (h1 : 1 ≤ words.length) (hmost : words.length ≤ 1012)
    (hfit : 4 * offset + 4 * words.length ≤ 0x400000) (hst : s.layerWriteStatus (wordsFrom (0x01000000 + 4 * offset) words.length) = Status.ok) :
    runRegWrite (withWrite (0x01000000 + 4 * offset) words r) s
      = accept { s.wakeBanks (0x01000000 + 4 * offset) words.length with
          sram := Memory.writeN 0 (s.wakeBanks (0x01000000 + 4 * offset) words.length).sram (0x01000000 + 4 * offset) (words.flatMap (le 4)) } := by
  have haddr : (0x01000000 + 4 * offset) % 2 ^ 32 = 0x01000000 + 4 * offset := Nat.mod_eq_of_lt (by omega)
  have hcount : words.length % 2 ^ 16 = words.length := Nat.mod_eq_of_lt (by omega)
  have hws : wordWrites (withWrite (0x01000000 + 4 * offset) words r).params = plainWrites (0x01000000 + 4 * offset) words := by
    rw [wordWrites_withWrite _ _ _ (by omega) (by omega), wordWrites_eq_plainWrites]
  have hstatus : s.layerWriteStatus ((plainWrites (0x01000000 + 4 * offset) words).map (·.addr)) = Status.ok := by
    rw [map_addr_plainWrites]; exact hst
  have hheader : WriteHeader (withWrite (0x01000000 + 4 * offset) words r).params := by
    refine ⟨by simp [withWrite_flags], withWrite_reserved _ _ _, ?_⟩
    rw [withWrite_address, withWrite_count, withWrite_flags, haddr, hcount]
    exact accessFault_sram (by omega) h1 hmost (by omega)
  have hwords : ∀ w ∈ plainWrites (0x01000000 + 4 * offset) words, s.wordStatus (plainWrites (0x01000000 + 4 * offset) words) w = Status.ok := by
    intro w hw
    obtain ⟨hlo, hhi⟩ := mem_plainWrites hw
    have hreg : region w.addr = some 0 := if_pos (by omega)
    have hin : inLayers w.addr = true := by rw [inLayers, decide_eq_true_eq]; omega
    rw [State.wordStatus, hreg]
    simp only [hin, if_true, hstatus]
  rw [runRegWrite_written s _ hheader (by rw [hws]; exact fun _ => hstatus) (by rw [hws]; exact hwords), hws, withWrite_address, withWrite_count, haddr, hcount,
    State.writeWords_layer _ _ _ _ (by omega) (by omega)]

/-- R202: a layer's back buffer takes words. -/
theorem layerBufferWrite_stores (r : Req) (offset : Nat) (words : List Nat) (s : State) (ho : offset < 2 ^ 20) (h1 : 1 ≤ words.length)
    (hmost : words.length ≤ 1012) (hfit : 4 * offset + 4 * words.length ≤ 0x400000)
    (hacc : s.accepts opRegWrite (withWrite (0x01000000 + 4 * offset) words r))
    (hst : (s.atHandler opRegWrite r).layerWriteStatus (wordsFrom (0x01000000 + 4 * offset) words.length) = Status.ok) :
    Answers (.layerBufferWrite r offset words) s (fun t =>
      (∀ i < 4 * words.length, Memory.read 0 t.sram (0x01000000 + 4 * offset + i) = byte (nth 0 words (i / 4) / 256 ^ (i % 4)))
        ∧ (∀ a, (a < 0x01000000 + 4 * offset ∨ 0x01000000 + 4 * offset + 4 * words.length ≤ a) → Memory.read 0 t.sram a = Memory.read 0 s.sram a)
        ∧ (s.answers r → Replied s t opRegWrite r []) ∧ KeptBut [.now, .draws, .pwr, .sram, .regs, .rings, .proto, .casc] s t) := by
  have hexec : exec (.layerBufferWrite r offset words) s = .next (s.command opRegWrite (withWrite (0x01000000 + 4 * offset) words r)) := by
    change Host.Outcome.next (s.command opRegWrite (withWrite (0x01000000 + 4 * (offset % 2 ^ 20)) words r)) = _
    rw [Nat.mod_eq_of_lt ho]
  generalize hh : s.atHandler opRegWrite r = h at hst
  generalize hb : h.wakeBanks (0x01000000 + 4 * offset) words.length = b
  generalize hu : { b with sram := Memory.writeN 0 b.sram (0x01000000 + 4 * offset) (words.flatMap (le 4)) } = u
  have hrun : runRegWrite (withWrite (0x01000000 + 4 * offset) words r) (s.atHandler opRegWrite (withWrite (0x01000000 + 4 * offset) words r)) = accept u := by
    change runRegWrite _ (s.atHandler opRegWrite r) = _
    rw [hh, runRegWrite_layer h r h1 hmost hfit hst, hb, hu]
  have hstart : KeptBut [.now, .pwr, .proto] s h := by rw [← hh]; exact State.atHandler_kept _ _ _
  obtain ⟨hrings, hwake⟩ := State.wakeBanks_spec h (a := 0x01000000 + 4 * offset) (n := words.length) (by omega) (by omega)
  rw [hb] at hrings hwake
  have hstore : KeptBut [.sram] b u := by
    rw [← hu]
    intro p hp; cases p <;> first | rfl | simp at hp
  have hroom : (u.ring (r.ring + 8)).length < 64 := by
    have hfree : h.KeptFree := by rw [← hh]; exact State.atHandler_keptFree s opRegWrite r hacc.2.1
    have hreserved : b.proto.reserved = some (r.ring + 8, 1) := by rw [hrings.reserved, ← hh]; rfl
    have hle := hrings.free hfree _ _ hreserved
    have : u.ring (r.ring + 8) = b.ring (r.ring + 8) := by rw [← hu]; rfl
    rw [this]
    omega
  have hid : u.id = s.id := ((hstore .id (by simp)).trans (hwake .id (by simp))).trans (hstart .id (by simp))
  obtain ⟨hparts, -⟩ := regWrite_from s _ hacc hrun
  have hsram : (s.command opRegWrite (withWrite (0x01000000 + 4 * offset) words r)).sram
      = Memory.writeN 0 s.sram (0x01000000 + 4 * offset) (words.flatMap (le 4)) := by
    have hb' : b.sram = s.sram := (hwake .sram (by simp)).trans (hstart .sram (by simp))
    have ht : (s.command opRegWrite (withWrite (0x01000000 + 4 * offset) words r)).sram = u.sram := hparts .sram (by simp)
    rw [ht, ← hu, ← hb']
  refine ⟨_, hexec, fun i hi => ?_, fun a ha => ?_, regWrite_replied s _ hacc hrun hroom hid, ?_⟩
  · have hlen : i < (words.flatMap (le 4)).length := by rw [length_words]; exact hi
    rw [hsram, Memory.read_writeN_same _ _ _ _ _ hlen, getElem_words]
  · rw [hsram]
    exact Memory.read_writeN_other _ _ _ _ _ (by rw [length_words]; exact ha)
  · exact (((hstart.mono (by simp)).trans (hwake.mono (by simp))).trans (hstore.mono (by simp))).trans (hparts.mono (by simp))

end Sys2Proof.Machine

namespace Sys2Proof.Machine

/-! ### The obligation -/

/-- Settles O59: one theorem for each of its clauses. R291, R46, R147, R321, R202, R549 and R457 follow from what REG_WRITE does with one word, or with
the words of a layer; R537 to R541, R415, R545 and R546 from the check units, the collector's windows and the crossings. -/
theorem registersAreWrittenAndCheckUnitsAndCrossingsRun : Obligations.RegistersAreWrittenAndCheckUnitsAndCrossingsRun :=
  ⟨regWrite_field, regWrite_refused_word, regWrite_refused_layer, scnTickWrite_ready, scnTickWrite_refused, diagCtrlWrite_written,
    diagCtrlWrite_refused, hstRegisterWrite_bus, hstCtrlWrite_master, hstCtrlWrite_follower, layerBufferWrite_stores, chkCntClear_clears,
    chkCntClear_refused, pwrMeasStart_starts,
    fun u poly start len fold expect foldEn compare s => chkGo_starts s u poly start len fold expect foldEn compare,
    fun u poly start len fold expect foldEn compare s => chkGo_busy_lost s u poly start len fold expect foldEn compare,
    fun u poly start len fold expect foldEn compare s => chkGo_range_refused s u poly start len fold expect foldEn compare,
    fun u poly start len fold expect foldEn compare s => chkGo_abort s u poly start len fold expect foldEn compare,
    fun u s => chkAbort_stops s u,
    fun u c s _ => chkScanDone_whole u c s, fun u a c s _ => chkScanDone_bus_error u a c s, reactionWindowClose_closes,
    fun x n items s _ => crossingStall_short x n items s, crossingStall_long, crossingResetDone_clean, crossingResetDone_unpowered,
    crossingResetDone_flushed⟩

end Sys2Proof.Machine

namespace Sys2Proof.Machine

/-! ### The refusal of a reset while an LBIST of the SP runs (R403, R499, Table 17-3) -/

/-- While the SP is away as the handler runs, ARM is BUSY. -/
theorem runSafetyResetArm_away (r : Req) (s : State) (hlocked : s.lockedOut = true) (haway : s.spAway = true) :
    runSafetyResetArm r s = refuse s Status.busy := by
  simp [runSafetyResetArm, hlocked, haway]

/-- An ARM that finds the SP away, once its time has passed, arms nothing. -/
theorem safetyResetArm_away (r : Req) (s : State) (hacc : s.accepts opSafetyResetArm r) (hlocked : s.lockedOut = true)
    (haway : (s.atHandler opSafetyResetArm r).spAway = true) :
    (s.command opSafetyResetArm r).get Reg.SAF_STATUS.ARMED = s.get Reg.SAF_STATUS.ARMED := by
  have hlocked' : (s.atHandler opSafetyResetArm r).lockedOut = true := by
    rw [State.lockedOut, State.flag, State.atHandler_get]; exact hlocked
  have hrun : (opSafetyResetArm.run r (s.atHandler opSafetyResetArm r)).state = s.atHandler opSafetyResetArm r :=
    congrArg Answer.state (runSafetyResetArm_away r _ hlocked' haway)
  have hregs := (State.command_accepted s opSafetyResetArm r hacc).2 Reg.SAF_STATUS.ARMED (by decide)
  rw [hregs, hrun, State.atHandler_get]

/-- A locked-out module in READY, at the instant at which BIST_RUN has been accepted for unit 0, the SP: PERMIT has fallen, and the LBIST starts 2 ms
later (R499). -/
def spTestDue : State :=
  ({ State.reset with
    phase := .service, cpUp := true, mpUp := true, spUp := true
    bst := { State.reset.bst with run := some ⟨1, 1, [0], false, ms 2, [], false, false⟩ } }).set Reg.SAF_STATUS.LOCKED_OUT 1

/-- A SAFETY_RESET_ARM that is executed 2 ms later, as the LBIST of the SP starts. -/
def armIn2ms : Req := ⟨0, 1, true, 0, [], ms 2⟩

theorem spTestDue_accepts : spTestDue.accepts opSafetyResetArm armIn2ms := by
  unfold State.accepts
  decide +kernel

/-- Refutes O47 in its clause on ARM (R403): the clause asks that the SP be there before the request's time has passed, and not as its handler runs.
Where an LBIST of the SP starts in between, ARM is BUSY and ARMED stays 0. -/
theorem not_lockOutIsKeptAndLeftAndCommissioningIsWritten : ¬ Obligations.LockOutIsKeptAndLeftAndCommissioningIsWritten := by
  unfold Obligations.LockOutIsKeptAndLeftAndCommissioningIsWritten
  rintro ⟨-, -, -, -, -, -, -, -, -, -, -, -, -, harm, -⟩
  have hlocked : spTestDue.lockedOut = true := by decide +kernel
  have hthere : spTestDue.spAway = false := by decide +kernel
  have haway : (spTestDue.atHandler opSafetyResetArm armIn2ms).spAway = true := by decide +kernel
  have hunarmed : spTestDue.get Reg.SAF_STATUS.ARMED = 0 := by decide +kernel
  obtain ⟨t, hexec, harmed, -⟩ := harm armIn2ms spTestDue spTestDue_accepts hlocked hthere
  obtain rfl : spTestDue.command opSafetyResetArm armIn2ms = t := Host.Outcome.next.inj hexec
  rw [safetyResetArm_away armIn2ms spTestDue spTestDue_accepts hlocked haway, hunarmed] at harmed
  exact Nat.zero_ne_one harmed

end Sys2Proof.Machine

namespace Sys2Proof.Machine

/-! ### A request that is answered, by what its handler answers (R268, R270, R271) -/

section
variable {s : State} {op : Op} {r : Req}

/-- A request is executed only where its reply ring has an entry free (R281). -/
theorem State.accepts.replyRoom (h : s.accepts op r) : (s.ring (r.ring + 8)).length < 64 := by
  obtain ⟨-, hexec, -⟩ := h
  simp only [State.executes, Bool.and_eq_true, decide_eq_true_eq] at hexec
  have hspan : 1 ≤ replySpan op.code := by unfold replySpan; split <;> decide
  omega

/-- A handler that leaves its state alone leaves the module to the counters and the reply. -/
theorem State.command_unchanged (h : s.accepts op r) (hrun : (op.run r (s.atHandler op r)).state = s.atHandler op r) :
    KeptBut [.now, .pwr, .regs, .rings, .proto, .casc] s (s.command op r) ∧ RegsKeptBut answerFields s (s.command op r) := by
  refine ⟨(State.command_from s op r h hrun (KeptBut.refl [] _)).mono (by simp), ?_⟩
  have hregs := (State.command_accepted s op r h).2
  rw [hrun] at hregs
  exact (RegsKeptBut.of_regs (State.atHandler_regs s op r)).trans hregs

/-- A refusal is sent, whether a reply was asked for or not, and changes nothing besides. -/
theorem State.command_refused {st : Status} {res : List Byte} (h : s.accepts op r) (hst : st.good = false) (hfit : res.length ≤ 1012)
    (hmaster : s.follower = true → r.target ≠ 0x0F) (hrun : op.run r (s.atHandler op r) = ⟨st, res, s.atHandler op r⟩) :
    (∃ p ∈ (s.command op r).ring (r.ring + 8), p.bytes = sealed s.tag (op.code + 0x8000) r.seq 0 s.position (le 2 st ++ res))
      ∧ KeptBut [.now, .pwr, .regs, .rings, .proto, .casc] s (s.command op r) ∧ RegsKeptBut answerFields s (s.command op r) := by
  refine ⟨?_, State.command_unchanged h (congrArg Answer.state hrun)⟩
  have hreplied := State.command_replied s op r h
  rw [hrun] at hreplied
  refine hreplied ?_ ?_ (State.atHandler_id s op r) (by simp [hst]) hmaster
  · simp only [replyParams, List.length_append, length_le]; omega
  · rw [State.ring, State.atHandler_rings]; exact h.replyRoom

/-- An acceptance is sent with its results, where a reply was asked for. -/
theorem State.command_answered {u : State} {res : List Byte} (h : s.accepts op r) (ha : s.answers r) (hfit : res.length ≤ 1012)
    (hrun : op.run r (s.atHandler op r) = answer u res) (hrings : u.rings = s.rings) (hid : u.id = s.id) :
    Replied s (s.command op r) op r res := by
  obtain ⟨hreply, hmaster⟩ := ha
  have hreplied := State.command_replied s op r h
  rw [hrun] at hreplied
  refine hreplied ?_ ?_ hid (by simp [hreply]) hmaster
  · simp only [replyParams, answer, List.length_append, length_le]; omega
  · rw [answer, State.ring, hrings]; exact h.replyRoom

/-- An answer that only reads: its results are sent, and nothing changes besides. -/
theorem State.command_read {res : List Byte} (h : s.accepts op r) (ha : s.answers r) (hfit : res.length ≤ 1012)
    (hrun : op.run r (s.atHandler op r) = answer (s.atHandler op r) res) :
    Replied s (s.command op r) op r res ∧ KeptBut [.now, .pwr, .regs, .rings, .proto, .casc] s (s.command op r)
      ∧ RegsKeptBut answerFields s (s.command op r) :=
  ⟨State.command_answered h ha hfit hrun (State.atHandler_rings s op r) (State.atHandler_id s op r),
    State.command_unchanged h (congrArg Answer.state hrun)⟩
end

/-! #### What the fault commands read is the same as their handler runs -/

section
variable (s : State) (op : Op) (r : Req)

@[simp] theorem State.atHandler_flag (f : Field) : (s.atHandler op r).flag f = s.flag f := by rw [State.flag, State.atHandler_get]; rfl
@[simp] theorem State.atHandler_flt : (s.atHandler op r).flt = s.flt := State.atHandler_kept s op r .flt (by simp)
@[simp] theorem State.atHandler_checkerOff (code : Nat) : (s.atHandler op r).checkerOff code = s.checkerOff code := by
  simp [State.checkerOff]

/-- The conditions of standing faults do not depend on time. -/
@[simp] theorem State.atHandler_stands (u : Uncleared) : (s.atHandler op r).stands u = s.stands u := by
  unfold State.atHandler
  split <;> rfl
end

end Sys2Proof.Machine

namespace Sys2Proof.Machine

/-! ### Reading the first-fault record and the logs (R429, Tables 13-3 and 13-8) -/

@[simp] theorem KilnEntry.length_bytes (e : KilnEntry) : e.bytes.length = 16 := by simp [KilnEntry.bytes]

@[simp] theorem PlogRecord.length_bytes (p : PlogRecord) : p.bytes.length = 32 := by simp [PlogRecord.bytes]

/-- An entry begins with its sequence number. -/
theorem KilnEntry.leAt_bytes_seq (e : KilnEntry) : leAt e.bytes 0 2 = e.seq % 65536 := by
  rw [KilnEntry.bytes]
  simp only [List.append_assoc]
  rw [leAt_append_left _ _ _ _ (by simp)]
  exact leAt_le 2 e.seq

/-- Records of one size, one after the other. -/
theorem length_flatten_map {α : Type} {f : α → List Byte} {n : Nat} (h : ∀ a, (f a).length = n) (l : List α) :
    (l.map f).flatten.length = n * l.length := by
  induction l with
  | nil => rfl
  | cons a l ih => rw [List.map_cons, List.flatten_cons, List.length_append, h, ih, List.length_cons, Nat.mul_succ, Nat.add_comm]

section
variable {s : State} {r : Req}

/-- Without a first fault the record reads 0. -/
theorem runFaultReadFirst_none (hv : s.flag Reg.FLT_STATUS.FIRST_VALID = false) : runFaultReadFirst r s = answer s (le 34 0) :=
  if_neg (by simp [hv])

/-- The reply that shows a first fault, in the order of Table 13-8. -/
theorem runFaultReadFirst_valid (hv : s.flag Reg.FLT_STATUS.FIRST_VALID = true) :
    ∃ (highest reaction quality : Byte) (e : KilnEntry) (epoch time : Nat), e.seq = s.get Reg.FLT_FIRST_ID.SEQ
      ∧ runFaultReadFirst r s = answer s ([byte 1, highest] ++ e.bytes ++ le 2 (s.get Reg.FLT_FIRST_INFO.MERGES) ++ [reaction, quality] ++ le 2 epoch
          ++ le 2 (min 65535 s.flt.uncleared.length) ++ le 8 time) := by
  unfold runFaultReadFirst
  rw [if_pos hv]
  exact ⟨_, _, _, _, _, _, rfl, rfl⟩

/-- The fields of that reply, by their places. -/
theorem firstFaultReply_fields (highest reaction quality : Byte) (e : KilnEntry) (merges epoch uncleared time : Nat) :
    let res := [byte 1, highest] ++ e.bytes ++ le 2 merges ++ [reaction, quality] ++ le 2 epoch ++ le 2 uncleared ++ le 8 time
    res.length = 34 ∧ leAt res 0 1 = 1 ∧ leAt res 2 2 = e.seq % 65536 ∧ leAt res 18 2 = merges % 65536 ∧ leAt res 24 2 = uncleared % 65536 := by
  simp only [List.append_assoc]
  refine ⟨by simp, ?_, ?_, ?_, ?_⟩
  · rw [leAt_append_left _ _ _ _ (by simp)]
    rfl
  · rw [leAt_append_right _ _ _ _ (by simp), leAt_append_left _ _ _ _ (by simp)]
    exact e.leAt_bytes_seq
  · rw [leAt_append_right _ _ _ _ (by simp), leAt_append_right _ _ _ _ (by simp), leAt_append_left _ _ _ _ (by simp), KilnEntry.length_bytes]
    exact leAt_le 2 merges
  · iterate 5 rw [leAt_append_right _ _ _ _ (by simp)]
    rw [leAt_append_left _ _ _ _ (by simp), KilnEntry.length_bytes, length_le, length_le]
    exact leAt_le 2 uncleared
end

/-- R429: FAULT_READ_FIRST answers with the record in 34 bytes, all 0 without a first fault. -/
theorem faultReadFirst_answers (r : Req) (s : State) (hacc : s.accepts opFaultReadFirst r) (ha : s.answers r) :
    Answers (.faultReadFirst r) s (fun t => ∃ res, Replied s t opFaultReadFirst r res ∧ res.length = 34
      ∧ (s.flag Reg.FLT_STATUS.FIRST_VALID = false → res = le 34 0)
      ∧ (s.flag Reg.FLT_STATUS.FIRST_VALID = true → leAt res 0 1 = 1 ∧ leAt res 2 2 = s.get Reg.FLT_FIRST_ID.SEQ % 65536
          ∧ leAt res 18 2 = s.get Reg.FLT_FIRST_INFO.MERGES % 65536 ∧ leAt res 24 2 = min 65535 s.flt.uncleared.length)
      ∧ KeptBut [.now, .pwr, .regs, .rings, .proto, .casc] s t ∧ RegsKeptBut answerFields s t) := by
  cases hv : s.flag Reg.FLT_STATUS.FIRST_VALID
  case false =>
    obtain ⟨hrep, hkept, hregs⟩ := State.command_read hacc ha (by simp) (runFaultReadFirst_none (r := r) ((State.atHandler_flag _ _ _ _).trans hv))
    exact ⟨_, rfl, _, hrep, length_le _ _, fun _ => rfl, by simp, hkept, hregs⟩
  case true =>
    obtain ⟨highest, reaction, quality, e, epoch, time, hseq, hrun⟩ := runFaultReadFirst_valid (r := r) ((State.atHandler_flag s opFaultReadFirst r _).trans hv)
    rw [State.atHandler_get, State.atHandler_flt] at hrun
    rw [State.atHandler_get] at hseq
    obtain ⟨hlen, hvalid, hid, hmerges, hunc⟩ := firstFaultReply_fields highest reaction quality e (s.get Reg.FLT_FIRST_INFO.MERGES) epoch
      (min 65535 s.flt.uncleared.length) time
    obtain ⟨hrep, hkept, hregs⟩ := State.command_read hacc ha (by rw [hlen]; decide) hrun
    refine ⟨_, rfl, _, hrep, hlen, by simp, fun _ => ⟨hvalid, by rw [hid, hseq], hmerges, hunc.trans ?_⟩, hkept, hregs⟩
    omega

/-- The entries that a request for a log takes from START on. -/
def State.loggedFrom (s : State) (log start : Nat) : List (List Byte) :=
  if log = 0 then ((s.flt.kiln.drop start).take 16).map KilnEntry.bytes else ((s.flt.plog.drop start).take 30).map PlogRecord.bytes

/-- What a request takes of a log fits one packet. -/
theorem State.length_loggedFrom (s : State) (log start : Nat) : (s.loggedFrom log start).flatten.length ≤ 960 := by
  unfold State.loggedFrom
  split
  · rw [length_flatten_map KilnEntry.length_bytes, List.length_take]; omega
  · rw [length_flatten_map PlogRecord.length_bytes, List.length_take]; omega

/-- START and LOG of a request that names entries which are there. -/
def State.historyAsked (s : State) (p : List Byte) : Prop :=
  leAt p 0 1 ≤ 1 ∧ leAt p 1 1 = 0 ∧ (leAt p 2 2 = 0 ∨ leAt p 2 2 < (if leAt p 0 1 = 0 then s.flt.kiln.length else s.flt.plog.length))

theorem runFaultReadHistory_read {s : State} {r : Req} (h : s.historyAsked r.params) :
    runFaultReadHistory r s = answer s ([byte (s.loggedFrom (leAt r.params 0 1) (leAt r.params 2 2)).length, byte (leAt r.params 0 1)]
      ++ (s.loggedFrom (leAt r.params 0 1) (leAt r.params 2 2)).flatten) := by
  obtain ⟨hlog, hzero, hstart⟩ := h
  exact if_neg (by omega)

theorem runFaultReadHistory_refused {s : State} {r : Req} (h : ¬ s.historyAsked r.params) : runFaultReadHistory r s = refuse s Status.badParam := by
  unfold State.historyAsked at h
  exact if_pos (by omega)

theorem State.atHandler_historyAsked (s : State) (op : Op) (r : Req) (p : List Byte) : (s.atHandler op r).historyAsked p ↔ s.historyAsked p := by
  rw [State.historyAsked, State.atHandler_flt]
  rfl

/-- R429: FAULT_READ_HISTORY answers with the newest entries of a log from START on. -/
theorem faultReadHistory_answers (r : Req) (s : State) (hacc : s.accepts opFaultReadHistory r) (ha : s.answers r) (hlog : leAt r.params 0 1 ≤ 1)
    (hzero : leAt r.params 1 1 = 0)
    (hstart : leAt r.params 2 2 = 0 ∨ leAt r.params 2 2 < (if leAt r.params 0 1 = 0 then s.flt.kiln.length else s.flt.plog.length)) :
    Answers (.faultReadHistory r) s (fun t =>
      let es := if leAt r.params 0 1 = 0 then ((s.flt.kiln.drop (leAt r.params 2 2)).take 16).map KilnEntry.bytes
        else ((s.flt.plog.drop (leAt r.params 2 2)).take 30).map PlogRecord.bytes
      Replied s t opFaultReadHistory r ([byte es.length, byte (leAt r.params 0 1)] ++ es.flatten)
        ∧ KeptBut [.now, .pwr, .regs, .rings, .proto, .casc] s t ∧ RegsKeptBut answerFields s t) := by
  have hrun := runFaultReadHistory_read ((State.atHandler_historyAsked s opFaultReadHistory r r.params).2 ⟨hlog, hzero, hstart⟩)
  simp only [State.loggedFrom, State.atHandler_flt] at hrun
  have hfit : (s.loggedFrom (leAt r.params 0 1) (leAt r.params 2 2)).flatten.length ≤ 960 := s.length_loggedFrom _ _
  exact ⟨_, rfl, State.command_read hacc ha (by rw [List.length_append]; exact Nat.le_trans (Nat.add_le_add_left hfit 2) (by decide)) hrun⟩

/-- R429: a log that is not there, or a START beyond the entries held, is refused with BAD_PARAM. -/
theorem faultReadHistory_refused (r : Req) (s : State) (hacc : s.accepts opFaultReadHistory r) (hmaster : s.follower = true → r.target ≠ 0x0F)
    (hbad : 1 < leAt r.params 0 1 ∨ leAt r.params 1 1 ≠ 0
      ∨ (leAt r.params 2 2 ≠ 0 ∧ (if leAt r.params 0 1 = 0 then s.flt.kiln.length else s.flt.plog.length) ≤ leAt r.params 2 2)) :
    Answers (.faultReadHistory r) s (fun t =>
      (∃ p ∈ t.ring (r.ring + 8), p.bytes = sealed s.tag 0x8601 r.seq 0 s.position (le 2 Status.badParam))
        ∧ KeptBut [.now, .pwr, .regs, .rings, .proto, .casc] s t ∧ RegsKeptBut answerFields s t) := by
  have hnot : ¬ (s.atHandler opFaultReadHistory r).historyAsked r.params := by
    rw [State.atHandler_historyAsked, State.historyAsked]; omega
  exact ⟨_, rfl, State.command_refused hacc (res := []) (by decide) (by simp) hmaster (runFaultReadHistory_refused hnot)⟩

end Sys2Proof.Machine

namespace Sys2Proof.Machine

/-! ### Clearing faults (R422, R430) -/

/-- Steps that each keep the same parts keep them together. -/
theorem KeptBut.foldl {α : Type} {ps : List Part} {f : State → α → State} (h : ∀ s a, KeptBut ps s (f s a)) (l : List α) :
    ∀ s, KeptBut ps s (l.foldl f s) := by
  induction l with
  | nil => exact KeptBut.refl ps
  | cons a l ih => intro s; exact (h s a).trans (ih _)

theorem State.clearSticky_kept (s : State) (u : Uncleared) : KeptBut [.regs] s (s.clearSticky u) := by
  unfold State.clearSticky
  split
  · exact State.set_kept s _ _
  · split
    · exact State.set_kept s _ _
    · split
      · exact State.setAll_kept _ s
      · exact KeptBut.refl _ s

/-- The fields that follow the uncleared faults. -/
abbrev followFields : List Field := [Reg.FLT_STATUS.UNCLEARED, Reg.FLT_STATUS.HIGHEST, Reg.FLT_STATUS.WINDOW, Reg.FLT_FAULTN.PIN]

theorem State.faultFollow_regs (s : State) : RegsKeptBut followFields s s.faultFollow :=
  (RegsKeptBut.setAll s _ (by simp)).trans (State.set_regs_kept _ Reg.FLT_FAULTN.PIN _ _ (by decide))

section
variable (s : State)

theorem State.clearFirst_kept : KeptBut [.flt, .regs] s s.clearFirst :=
  ((State.setFlt_kept s _).mono (by simp)).trans ((State.setAll_kept _ _).mono (by simp))

@[simp] theorem State.clearFirst_uncleared : s.clearFirst.flt.uncleared = s.flt.uncleared := by rw [State.clearFirst, State.setAll_flt]; rfl
@[simp] theorem State.clearFirst_kiln : s.clearFirst.flt.kiln = s.flt.kiln := by rw [State.clearFirst, State.setAll_flt]; rfl

/-- The record emptied is no longer valid. -/
theorem State.clearFirst_valid : s.clearFirst.get Reg.FLT_STATUS.FIRST_VALID = 0 := State.get_setAll _ _ 0 _ (by decide) (by simp)

theorem State.clearFirst_cntSat : s.clearFirst.get Reg.SAF_STATUS.CNT_SAT = s.get Reg.SAF_STATUS.CNT_SAT := State.get_setAll_other _ _ _ (by decide)

/-- The kiln log emptied. -/
def State.clearKiln : State := (s.setFlt { s.flt with kiln := [] }).setAll [(Reg.FLT_STATUS.KILN_COUNT, 0), (Reg.FLT_STATUS.KILN_HEAD, 0)]

theorem State.clearKiln_kept : KeptBut [.flt, .regs] s s.clearKiln :=
  ((State.setFlt_kept s _).mono (by simp)).trans ((State.setAll_kept _ _).mono (by simp))

@[simp] theorem State.clearKiln_flt : s.clearKiln.flt = { s.flt with kiln := [] } := State.setAll_flt _ _

theorem State.clearKiln_regs : RegsKeptBut [Reg.FLT_STATUS.KILN_COUNT, Reg.FLT_STATUS.KILN_HEAD] s s.clearKiln :=
  (RegsKeptBut.of_regs rfl).trans (RegsKeptBut.setAll _ _ (by simp))

/-- The faults that a clearing leaves: those that stand and whose condition holds. -/
def State.standingFaults : List Uncleared := s.flt.uncleared.filter (fun u => Src.standing u.source && s.stands u)

@[simp] theorem State.atHandler_standingFaults (op : Op) (r : Req) : (s.atHandler op r).standingFaults = s.standingFaults := by
  simp [State.standingFaults]

/-- A clearing, in its parts: the sticky bits of what goes, the saturation flag, the first-fault record, the log. -/
theorem State.clearFaults_eq (log : Bool) :
    ∃ b, KeptBut [.flt, .regs] s b ∧ b.flt.uncleared = s.standingFaults ∧ b.flt.kiln = s.flt.kiln
      ∧ s.clearFaults log =
          (let c := if s.standingFaults.isEmpty then (b.set Reg.SAF_STATUS.CNT_SAT 0).clearFirst else b.set Reg.SAF_STATUS.CNT_SAT 0
           if log then c.clearKiln else c).faultFollow := by
  unfold State.clearFaults
  extract_lets gone kept firstGone with_ flt b
  have hsticky : KeptBut [.regs] (s.setFlt { s.flt with uncleared := kept, merged := if firstGone then [] else s.flt.merged }) b :=
    KeptBut.foldl State.clearSticky_kept _ _
  have hflt : b.flt = { s.flt with uncleared := kept, merged := if firstGone then [] else s.flt.merged } := hsticky .flt (by simp)
  exact ⟨b, ((State.setFlt_kept s _).mono (by simp)).trans (hsticky.mono (by simp)), by rw [hflt]; rfl, by rw [hflt], rfl⟩

/-- R422: what does not stand is cleared, and the record with the last of it. -/
theorem State.clearFaults_spec (log : Bool) :
    (s.clearFaults log).flt.uncleared = s.standingFaults ∧ (s.clearFaults log).flt.kiln = (if log then [] else s.flt.kiln)
      ∧ (s.clearFaults log).get Reg.SAF_STATUS.CNT_SAT = 0
      ∧ (s.standingFaults = [] → (s.clearFaults log).get Reg.FLT_STATUS.FIRST_VALID = 0)
      ∧ KeptBut [.flt, .regs] s (s.clearFaults log) := by
  obtain ⟨b, hb, hunc, hkiln, heq⟩ := s.clearFaults_eq log
  rw [heq]
  generalize hc : (if s.standingFaults.isEmpty then (b.set Reg.SAF_STATUS.CNT_SAT 0).clearFirst else b.set Reg.SAF_STATUS.CNT_SAT 0) = c
  generalize hd : (if log then c.clearKiln else c) = d
  have hbc : KeptBut [.flt, .regs] b c ∧ c.flt.uncleared = b.flt.uncleared ∧ c.flt.kiln = b.flt.kiln ∧ c.get Reg.SAF_STATUS.CNT_SAT = 0 := by
    have hset : KeptBut [.flt, .regs] b (b.set Reg.SAF_STATUS.CNT_SAT 0) := (State.set_kept b _ _).mono (by simp)
    rw [← hc]
    split
    · exact ⟨hset.trans (State.clearFirst_kept _), by simp, by simp, by rw [State.clearFirst_cntSat, State.get_set_same]; rfl⟩
    · exact ⟨hset, rfl, rfl, State.get_set_same _ _ _⟩
  have hcd : KeptBut [.flt, .regs] c d ∧ d.flt.uncleared = c.flt.uncleared ∧ d.flt.kiln = (if log then [] else c.flt.kiln)
      ∧ RegsKeptBut [Reg.FLT_STATUS.KILN_COUNT, Reg.FLT_STATUS.KILN_HEAD] c d := by
    rw [← hd]
    cases log
    · exact ⟨KeptBut.refl _ c, rfl, rfl, RegsKeptBut.refl _ c⟩
    · exact ⟨State.clearKiln_kept c, by simp, by simp, State.clearKiln_regs c⟩
  obtain ⟨hbc, hcunc, hckiln, hcsat⟩ := hbc
  obtain ⟨hcd, hdunc, hdkiln, hdregs⟩ := hcd
  refine ⟨?_, ?_, ?_, fun hnone => ?_, ((hb.trans hbc).trans hcd).trans ((State.faultFollow_kept d).mono (by simp))⟩
  · rw [State.faultFollow_flt, hdunc, hcunc, hunc]
  · rw [State.faultFollow_flt, hdkiln, hckiln, hkiln]
  · rw [d.faultFollow_regs _ (by decide), hdregs _ (by decide), hcsat]
  · rw [d.faultFollow_regs _ (by decide), hdregs _ (by decide), ← hc, if_pos (List.isEmpty_iff.2 hnone)]
    exact State.clearFirst_valid _
end

section
variable {s : State} {r : Req}

/-- The request names the first fault, if there is one (R430). -/
def State.namesFirst (s : State) (r : Req) : Prop :=
  s.flag Reg.FLT_STATUS.FIRST_VALID = true → leAt r.params 0 2 = s.get Reg.FLT_FIRST_ID.SEQ

theorem State.atHandler_namesFirst (op : Op) : (s.atHandler op r).namesFirst r ↔ s.namesFirst r := by simp [State.namesFirst]

theorem runFaultClear_clears (hseq : s.namesFirst r) (hlog : leAt r.params 2 1 ≤ 1) (hzero : leAt r.params 3 1 = 0) :
    runFaultClear r s = answer (s.clearFaults (bit (leAt r.params 2 1) 0))
      (le 2 (min 65535 (s.clearFaults (bit (leAt r.params 2 1) 0)).flt.uncleared.length)) :=
  (if_neg (fun h => h.2 (hseq h.1))).trans (if_neg (by omega))

theorem runFaultClear_badParam (hseq : s.namesFirst r) (hbad : 1 < leAt r.params 2 1 ∨ leAt r.params 3 1 ≠ 0) :
    runFaultClear r s = refuse s Status.badParam :=
  (if_neg (fun h => h.2 (hseq h.1))).trans (if_pos hbad)

theorem runFaultClear_otherFirst (hv : s.flag Reg.FLT_STATUS.FIRST_VALID = true) (hne : leAt r.params 0 2 ≠ s.get Reg.FLT_FIRST_ID.SEQ) :
    runFaultClear r s = ⟨Status.badState, le 2 (s.get Reg.FLT_FIRST_ID.SEQ), s⟩ :=
  if_pos ⟨hv, hne⟩
end

/-- R422, R430: FAULT_CLEAR clears what does not stand, and the kiln log where that is asked for. -/
theorem faultClear_clears (r : Req) (s : State) (hacc : s.accepts opFaultClear r)
    (hseq : s.flag Reg.FLT_STATUS.FIRST_VALID = true → leAt r.params 0 2 = s.get Reg.FLT_FIRST_ID.SEQ) (hlog : leAt r.params 2 1 ≤ 1)
    (hzero : leAt r.params 3 1 = 0) :
    Answers (.faultClear r) s (fun t =>
      t.flt.uncleared = s.flt.uncleared.filter (fun u => Src.standing u.source && s.stands u) ∧ t.get Reg.SAF_STATUS.CNT_SAT = 0
        ∧ (t.flt.uncleared = [] → t.get Reg.FLT_STATUS.FIRST_VALID = 0) ∧ t.flt.kiln = (if leAt r.params 2 1 = 1 then [] else s.flt.kiln)
        ∧ (s.answers r → Replied s t opFaultClear r (le 2 (min 65535 t.flt.uncleared.length)))
        ∧ KeptBut [.now, .pwr, .flt, .regs, .rings, .proto, .casc] s t) := by
  generalize hu : (s.atHandler opFaultClear r).clearFaults (bit (leAt r.params 2 1) 0) = u
  have hrun : opFaultClear.run r (s.atHandler opFaultClear r) = answer u (le 2 (min 65535 u.flt.uncleared.length)) := by
    rw [← hu]
    exact runFaultClear_clears ((State.atHandler_namesFirst _).2 hseq) hlog hzero
  obtain ⟨hunc, hkiln, hsat, hvalid, hkept⟩ := (s.atHandler opFaultClear r).clearFaults_spec (bit (leAt r.params 2 1) 0)
  rw [hu] at hunc hkiln hsat hvalid hkept
  rw [State.atHandler_standingFaults] at hunc hvalid
  obtain ⟨hparts, hregs⟩ := State.command_accepted s opFaultClear r hacc
  rw [hrun] at hparts hregs
  have hflt : (s.command opFaultClear r).flt = u.flt := hparts .flt (by simp)
  refine ⟨_, rfl, by rw [hflt, hunc, State.standingFaults], (hregs _ (by decide)).trans hsat, fun hnone => ?_, ?_, fun ha => ?_, ?_⟩
  · exact (hregs _ (by decide)).trans (hvalid (by rw [← hunc, ← hflt, hnone]))
  · rw [hflt, hkiln, State.atHandler_flt]
    obtain h0 | h1 : leAt r.params 2 1 = 0 ∨ leAt r.params 2 1 = 1 := by omega
    · rw [h0]; rfl
    · rw [h1]; rfl
  · rw [hflt]
    exact State.command_answered hacc ha (by simp) hrun ((hkept .rings (by simp)).trans (State.atHandler_rings _ _ _))
      ((hkept .id (by simp)).trans (State.atHandler_id _ _ _))
  · exact (State.command_from s opFaultClear r hacc (congrArg Answer.state hrun) hkept).mono (by simp)

/-- R430: a clear of another first fault is refused with BAD_STATE and the SEQ of the record. -/
theorem faultClear_otherFirst (r : Req) (s : State) (hacc : s.accepts opFaultClear r) (hv : s.flag Reg.FLT_STATUS.FIRST_VALID = true)
    (hne : leAt r.params 0 2 ≠ s.get Reg.FLT_FIRST_ID.SEQ) (hmaster : s.follower = true → r.target ≠ 0x0F) :
    Answers (.faultClear r) s (fun t =>
      (∃ p ∈ t.ring (r.ring + 8), p.bytes = sealed s.tag 0x8602 r.seq 0 s.position (le 2 Status.badState ++ le 2 (s.get Reg.FLT_FIRST_ID.SEQ)))
        ∧ KeptBut [.now, .pwr, .regs, .rings, .proto, .casc] s t ∧ RegsKeptBut answerFields s t) := by
  have hrun := runFaultClear_otherFirst (s := s.atHandler opFaultClear r) (r := r) (by simpa using hv) (by simpa using hne)
  rw [State.atHandler_get] at hrun
  exact ⟨_, rfl, State.command_refused hacc (by decide) (by simp) hmaster hrun⟩

/-- R430: reserved bits set are refused with BAD_PARAM. -/
theorem faultClear_badParam (r : Req) (s : State) (hacc : s.accepts opFaultClear r) (hmaster : s.follower = true → r.target ≠ 0x0F)
    (hseq : s.flag Reg.FLT_STATUS.FIRST_VALID = true → leAt r.params 0 2 = s.get Reg.FLT_FIRST_ID.SEQ)
    (hbad : 1 < leAt r.params 2 1 ∨ leAt r.params 3 1 ≠ 0) :
    Answers (.faultClear r) s (fun t =>
      (∃ p ∈ t.ring (r.ring + 8), p.bytes = sealed s.tag 0x8602 r.seq 0 s.position (le 2 Status.badParam))
        ∧ KeptBut [.now, .pwr, .regs, .rings, .proto, .casc] s t ∧ RegsKeptBut answerFields s t) :=
  ⟨_, rfl, State.command_refused hacc (res := []) (by decide) (by simp) hmaster
    (runFaultClear_badParam ((State.atHandler_namesFirst _).2 hseq) hbad)⟩

end Sys2Proof.Machine

namespace Sys2Proof.Machine

/-! ### Arming a checker and setting the policy (R424, R431, R432) -/

/-- The values of CHECKER and COUNT that FAULT_INJECT takes. -/
def injectTakes (p : List Byte) : Prop :=
  leAt p 0 1 ≤ 0x29 ∧ leAt p 1 1 % 16 ≠ 0 ∧ bits (leAt p 1 1) 4 3 = 0 ∧ (128 ≤ leAt p 1 1 → leAt p 0 1 < 32) ∧ leAt p 2 2 = 0

/-- The arming kept beside FLT_INJECT, and the bit of a check unit (R424). -/
def State.injectStart (s : State) (code count : Nat) : State :=
  let s := s.setFlt { s.flt with injectAt := s.now, injectSingle := decide (128 ≤ count), injectUsed := false }
  if 0x20 ≤ code ∧ code < 0x24 then s.set (Reg.CHK_STATUS.INJECT (code - 0x20)) 1 else s

/-- A checker armed (R424). -/
def State.injectArmed (s : State) (code count : Nat) : State :=
  (s.injectStart code count).setAll [(Reg.FLT_INJECT.CHECKER, code), (Reg.FLT_INJECT.ARMED, 1), (Reg.FLT_INJECT.REMAIN, count % 16)]

section
variable (s : State) (code count : Nat)

theorem State.injectStart_kept : KeptBut [.flt, .regs] s (s.injectStart code count) := by
  unfold State.injectStart
  dsimp only
  split
  · exact ((State.setFlt_kept s _).mono (by simp)).trans ((State.set_kept _ _ _).mono (by simp))
  · exact (State.setFlt_kept s _).mono (by simp)

theorem State.injectArmed_kept : KeptBut [.flt, .regs] s (s.injectArmed code count) :=
  (State.injectStart_kept s code count).trans ((State.setAll_kept _ _).mono (by simp))

/-- The arming begins now, and no check was made since. -/
theorem State.injectArmed_flt : (s.injectArmed code count).flt.injectAt = s.now ∧ (s.injectArmed code count).flt.injectUsed = false := by
  rw [State.injectArmed, State.setAll_flt]
  unfold State.injectStart
  dsimp only
  split <;> exact ⟨rfl, rfl⟩

theorem injectFields_nodup : ([Reg.FLT_INJECT.CHECKER, Reg.FLT_INJECT.ARMED, Reg.FLT_INJECT.REMAIN].map Field.key).Nodup := by decide

/-- FLT_INJECT shows the checker and the corruptions still to make. -/
theorem State.injectArmed_get (hcode : code < 256) :
    (s.injectArmed code count).get Reg.FLT_INJECT.ARMED = 1 ∧ (s.injectArmed code count).get Reg.FLT_INJECT.CHECKER = code
      ∧ (s.injectArmed code count).get Reg.FLT_INJECT.REMAIN = count % 16 := by
  have hget : ∀ f v, (f, v) ∈ [(Reg.FLT_INJECT.CHECKER, code), (Reg.FLT_INJECT.ARMED, 1), (Reg.FLT_INJECT.REMAIN, count % 16)] →
      (s.injectArmed code count).get f = v % 2 ^ f.width := fun f v => State.get_setAll _ f v _ injectFields_nodup
  exact ⟨hget _ 1 (by simp), (hget _ code (by simp)).trans (Nat.mod_eq_of_lt hcode), (hget _ (count % 16) (by simp)).trans (Nat.mod_mod _ _)⟩
end

section
variable {s : State} {r : Req}

theorem runFaultInject_off (hoff : s.checkerOff (leAt r.params 0 1) = true) : runFaultInject r s = refuse s Status.badState := if_pos hoff

theorem runFaultInject_busy (hon : s.checkerOff (leAt r.params 0 1) = false) (harmed : s.flag Reg.FLT_INJECT.ARMED = true) :
    runFaultInject r s = refuse s Status.busy :=
  (if_neg (by simp [hon])).trans (if_pos harmed)

theorem runFaultInject_badParam (hon : s.checkerOff (leAt r.params 0 1) = false) (hidle : s.flag Reg.FLT_INJECT.ARMED = false)
    (hbad : ¬ injectTakes r.params) : runFaultInject r s = refuse s Status.badParam := by
  unfold injectTakes at hbad
  exact (if_neg (by simp [hon])).trans ((if_neg (by simp [hidle])).trans (if_pos (by omega)))

theorem runFaultInject_arms (hon : s.checkerOff (leAt r.params 0 1) = false) (hidle : s.flag Reg.FLT_INJECT.ARMED = false)
    (htakes : injectTakes r.params) : runFaultInject r s = accept (s.injectArmed (leAt r.params 0 1) (leAt r.params 1 1)) := by
  obtain ⟨hcode, hcount, hbits, hsingle, hzero⟩ := htakes
  exact (if_neg (by simp [hon])).trans ((if_neg (by simp [hidle])).trans (if_neg (by omega)))
end

/-- R424, R431: FAULT_INJECT arms a checker that has power while none is armed. -/
theorem faultInject_arms (r : Req) (s : State) (hacc : s.accepts opFaultInject r) (hon : s.checkerOff (leAt r.params 0 1) = false)
    (hidle : s.flag Reg.FLT_INJECT.ARMED = false) (hcode : leAt r.params 0 1 ≤ 0x29) (hcount : leAt r.params 1 1 % 16 ≠ 0)
    (hbits : bits (leAt r.params 1 1) 4 3 = 0) (hsingle : 128 ≤ leAt r.params 1 1 → leAt r.params 0 1 < 32) (hzero : leAt r.params 2 2 = 0) :
    Answers (.faultInject r) s (fun t =>
      t.get Reg.FLT_INJECT.ARMED = 1 ∧ t.get Reg.FLT_INJECT.CHECKER = leAt r.params 0 1 ∧ t.get Reg.FLT_INJECT.REMAIN = leAt r.params 1 1 % 16
        ∧ t.flt.injectAt = t.now ∧ t.flt.injectUsed = false ∧ (s.answers r → Replied s t opFaultInject r [])
        ∧ KeptBut [.now, .pwr, .flt, .regs, .rings, .proto, .casc] s t) := by
  generalize hh : s.atHandler opFaultInject r = h
  generalize hu : h.injectArmed (leAt r.params 0 1) (leAt r.params 1 1) = u
  have hrun : opFaultInject.run r (s.atHandler opFaultInject r) = accept u := by
    rw [← hu, ← hh]
    exact runFaultInject_arms (by simpa using hon) (by simpa using hidle) ⟨hcode, hcount, hbits, hsingle, hzero⟩
  have hkept : KeptBut [.flt, .regs] h u := by rw [← hu]; exact State.injectArmed_kept h _ _
  obtain ⟨harmed, hchecker, hremain⟩ := State.injectArmed_get h _ (leAt r.params 1 1) (Nat.lt_of_le_of_lt hcode (by decide : 0x29 < 256))
  obtain ⟨hat, hunused⟩ := State.injectArmed_flt h (leAt r.params 0 1) (leAt r.params 1 1)
  rw [hu] at harmed hchecker hremain hat hunused
  obtain ⟨hparts, hregs⟩ := State.command_accepted s opFaultInject r hacc
  rw [hrun] at hparts hregs
  have hflt : (s.command opFaultInject r).flt = u.flt := hparts .flt (by simp)
  have hnow : (s.command opFaultInject r).now = h.now := (hparts .now (by simp)).trans (hkept .now (by simp))
  refine ⟨_, rfl, (hregs _ (by decide)).trans harmed, (hregs _ (by decide)).trans hchecker, (hregs _ (by decide)).trans hremain, ?_, ?_,
    fun ha => ?_, ?_⟩
  · rw [hflt, hnow, hat]
  · rw [hflt, hunused]
  · exact State.command_answered hacc ha (by simp) hrun (by rw [show u.rings = h.rings from hkept .rings (by simp), ← hh, State.atHandler_rings])
      (by rw [show u.id = h.id from hkept .id (by simp), ← hh, State.atHandler_id])
  · exact (State.command_from s opFaultInject r hacc (congrArg Answer.state hrun) (hh ▸ hkept)).mono (by simp)

/-- R431: a checker whose domain or bank is off is refused with BAD_STATE. -/
theorem faultInject_off (r : Req) (s : State) (hacc : s.accepts opFaultInject r) (hmaster : s.follower = true → r.target ≠ 0x0F)
    (hoff : s.checkerOff (leAt r.params 0 1) = true) :
    Answers (.faultInject r) s (fun t =>
      (∃ p ∈ t.ring (r.ring + 8), p.bytes = sealed s.tag 0x8603 r.seq 0 s.position (le 2 Status.badState))
        ∧ KeptBut [.now, .pwr, .regs, .rings, .proto, .casc] s t ∧ RegsKeptBut answerFields s t) :=
  ⟨_, rfl, State.command_refused hacc (res := []) (by decide) (by simp) hmaster (runFaultInject_off (by simpa using hoff))⟩

/-- R431: while a checker is armed another is refused with BUSY. -/
theorem faultInject_busy (r : Req) (s : State) (hacc : s.accepts opFaultInject r) (hmaster : s.follower = true → r.target ≠ 0x0F)
    (hon : s.checkerOff (leAt r.params 0 1) = false) (harmed : s.flag Reg.FLT_INJECT.ARMED = true) :
    Answers (.faultInject r) s (fun t =>
      (∃ p ∈ t.ring (r.ring + 8), p.bytes = sealed s.tag 0x8603 r.seq 0 s.position (le 2 Status.busy))
        ∧ KeptBut [.now, .pwr, .regs, .rings, .proto, .casc] s t ∧ RegsKeptBut answerFields s t) :=
  ⟨_, rfl, State.command_refused hacc (res := []) (by decide) (by simp) hmaster (runFaultInject_busy (by simpa using hon) (by simpa using harmed))⟩

/-- R431: a checker or a count out of range is refused with BAD_PARAM. -/
theorem faultInject_badParam (r : Req) (s : State) (hacc : s.accepts opFaultInject r) (hmaster : s.follower = true → r.target ≠ 0x0F)
    (hon : s.checkerOff (leAt r.params 0 1) = false) (hidle : s.flag Reg.FLT_INJECT.ARMED = false)
    (hbad : 0x29 < leAt r.params 0 1 ∨ leAt r.params 1 1 % 16 = 0 ∨ bits (leAt r.params 1 1) 4 3 ≠ 0 ∨ (128 ≤ leAt r.params 1 1 ∧ 32 ≤ leAt r.params 0 1)
      ∨ leAt r.params 2 2 ≠ 0) :
    Answers (.faultInject r) s (fun t =>
      (∃ p ∈ t.ring (r.ring + 8), p.bytes = sealed s.tag 0x8603 r.seq 0 s.position (le 2 Status.badParam))
        ∧ KeptBut [.now, .pwr, .regs, .rings, .proto, .casc] s t ∧ RegsKeptBut answerFields s t) := by
  have hnot : ¬ injectTakes r.params := by unfold injectTakes; omega
  exact ⟨_, rfl, State.command_refused hacc (res := []) (by decide) (by simp) hmaster
    (runFaultInject_badParam (by simpa using hon) (by simpa using hidle) hnot)⟩

/-! #### The policy -/

/-- The fields that FAULT_POLICY sets. -/
abbrev policyFields : List Field := [Reg.FLT_POLICY.FIRST_MIN, Reg.FLT_POLICY.EVENT_CLASSES, Reg.FLT_POLICY.HOLD, Reg.FLT_IRQ_EN.EN]

theorem policyFields_nodup : (policyFields.map Field.key).Nodup := by decide

/-- The policy set (R432). -/
def State.policySet (s : State) (min classes hold en : Nat) : State :=
  s.setAll [(Reg.FLT_POLICY.FIRST_MIN, min), (Reg.FLT_POLICY.EVENT_CLASSES, classes), (Reg.FLT_POLICY.HOLD, hold), (Reg.FLT_IRQ_EN.EN, en)]

theorem State.policySet_get (s : State) {min classes hold en : Nat} {f : Field} {v : Nat}
    (h : (f, v) ∈ [(Reg.FLT_POLICY.FIRST_MIN, min), (Reg.FLT_POLICY.EVENT_CLASSES, classes), (Reg.FLT_POLICY.HOLD, hold), (Reg.FLT_IRQ_EN.EN, en)])
    (hv : v < 2 ^ f.width) : (s.policySet min classes hold en).get f = v :=
  by
  have hget : (s.policySet min classes hold en).get f = v % 2 ^ f.width := State.get_setAll _ f v s policyFields_nodup h
  rw [hget, Nat.mod_eq_of_lt hv]

theorem State.policySet_regs (s : State) (min classes hold en : Nat) : RegsKeptBut policyFields s (s.policySet min classes hold en) :=
  RegsKeptBut.setAll s _ (by simp)

theorem runFaultPolicy_sets {s : State} {r : Req} (hmin : leAt r.params 0 1 ≠ 0) (hmin' : leAt r.params 0 1 ≤ 3) (hclasses : leAt r.params 1 1 ≤ 7)
    (hhold : leAt r.params 2 1 ≤ 1) (hzero : leAt r.params 3 1 = 0) (hen : leAt r.params 4 4 ≤ 511) :
    runFaultPolicy r s = accept (s.policySet (leAt r.params 0 1) (leAt r.params 1 1) (leAt r.params 2 1) (leAt r.params 4 4)) :=
  if_neg (by omega)

/-- R432: FAULT_POLICY sets the policy and the enables of the interrupt. -/
theorem faultPolicy_sets (r : Req) (s : State) (hacc : s.accepts opFaultPolicy r) (hmin : leAt r.params 0 1 ≠ 0) (hmin' : leAt r.params 0 1 ≤ 3)
    (hclasses : leAt r.params 1 1 ≤ 7) (hhold : leAt r.params 2 1 ≤ 1) (hzero : leAt r.params 3 1 = 0) (hen : leAt r.params 4 4 ≤ 511) :
    Answers (.faultPolicy r) s (fun t =>
      t.get Reg.FLT_POLICY.FIRST_MIN = leAt r.params 0 1 ∧ t.get Reg.FLT_POLICY.EVENT_CLASSES = leAt r.params 1 1
        ∧ t.get Reg.FLT_POLICY.HOLD = leAt r.params 2 1 ∧ t.get Reg.FLT_IRQ_EN.EN = leAt r.params 4 4
        ∧ KeptBut [.now, .pwr, .regs, .rings, .proto, .casc] s t
        ∧ RegsKeptBut ([Reg.FLT_POLICY.FIRST_MIN, Reg.FLT_POLICY.EVENT_CLASSES, Reg.FLT_POLICY.HOLD, Reg.FLT_IRQ_EN.EN] ++ answerFields) s t) := by
  have hrun : opFaultPolicy.run r (s.atHandler opFaultPolicy r) = accept _ := runFaultPolicy_sets hmin hmin' hclasses hhold hzero hen
  have hregs := (State.command_accepted s opFaultPolicy r hacc).2
  rw [hrun] at hregs
  refine ⟨_, rfl, ?_, ?_, ?_, ?_, ?_, ?_⟩
  · rw [hregs _ (by decide)]; exact State.policySet_get _ (by simp) (Nat.lt_of_le_of_lt hmin' (by decide))
  · rw [hregs _ (by decide)]; exact State.policySet_get _ (by simp) (Nat.lt_of_le_of_lt hclasses (by decide))
  · rw [hregs _ (by decide)]; exact State.policySet_get _ (by simp) (Nat.lt_of_le_of_lt hhold (by decide))
  · rw [hregs _ (by decide)]; exact State.policySet_get _ (by simp) (Nat.lt_of_le_of_lt hen (by decide))
  · exact (State.command_from s opFaultPolicy r hacc (congrArg Answer.state hrun) (State.setAll_kept _ _)).mono (by simp)
  · have hstart : RegsKeptBut (policyFields ++ answerFields) s (s.atHandler opFaultPolicy r) := RegsKeptBut.of_regs (by simp)
    exact (hstart.trans ((State.policySet_regs _ _ _ _ _).mono (fun f hf => List.mem_append_left _ hf))).trans
      (hregs.mono (fun f hf => List.mem_append_right _ hf))

/-- Settles O50: one theorem for each of its clauses. Each follows from what its handler answers (R429 to R432), and from what a request leaves
once its handler has read, refused or changed the state. -/
theorem faultCommandsReadClearArmAndSet : Obligations.FaultCommandsReadClearArmAndSet :=
  ⟨faultReadFirst_answers, faultReadHistory_answers, faultClear_clears, faultClear_otherFirst, faultInject_arms, faultPolicy_sets,
    faultReadHistory_refused, faultClear_badParam, faultInject_off, faultInject_busy, faultInject_badParam⟩

end Sys2Proof.Machine
